-- ==== Sys2Proof/Word.lean ====
section
/-! DEFINITION. The words of the BP48: bytes, the 16-bit fields of messages, slot and ROM addresses. -/

namespace Sys2Proof

/-- The 8-bit unit of every memory, message and data line (00_scope 1.6). -/
abbrev Byte := BitVec 8

/-- A two-byte little-endian field of a message (00_scope 1.6, R171). -/
abbrev Word16 := BitVec 16

/-- A cartridge address A0-A19 (R1). -/
abbrev SlotAddr := BitVec 20

/-- A program ROM address; "every ROM byte address in the part is 24 bits wide" (R9). -/
abbrev RomAddr := BitVec 24

/-- The straps ST0-ST5, ST0 in the lowest bit (R169). -/
abbrev Straps := BitVec 6

/-- A sequencer track, 0 or 1 (R119). -/
abbrev TrackNo := Fin 2

/-- A voice, 0 to 5 (R99). -/
abbrev VoiceNo := Fin 6

/-- A save slot, 0 to 7 (R23). -/
abbrev SlotNo := Fin 8

/-- A cue, 0 to 7 (R83). -/
abbrev CueNo := Fin 8

end Sys2Proof
end

