-- ==== Sys2Proof/Config.lean ====
section
/-! DEFINITION. What a BP48 fixes for all time: the sizes and limits the manual states as numbers, and the one free
value of the model (the order of ticks that fall on one crystal edge). -/

namespace Sys2Proof.Config

/-- The command FIFO and the reply FIFO each hold 0-64 bytes (R163, R166). -/
def fifoSize : Nat := 64

/-- The reply room that a message needs before it is taken (R165). -/
def replyRoom : Nat := 35

/-- The longest payload a message may have (R164 chapter 10.3). -/
def maxPayload : Nat := 32

/-- The bytes of one save block (R21). -/
def blockSize : Nat := 4096

/-- The save operation queue never holds more than 4 entries (R52). -/
def saveQueueSize : Nat := 4

/-- The rumble request queue holds at most 4 requests (R137). -/
def rumbleQueueSize : Nat := 4

/-- A stream buffer never holds more than 16 bytes (R108). -/
def streamBufferSize : Nat := 16

/-- A track's event buffer holds at most 4 events (R119). -/
def eventBufferSize : Nat := 4

/-- A free value: in what order the ticks that fall on one crystal edge are taken, at the n-th such edge. "A tick
needs no order against the others" (R66), so nothing here says which (DESIGN CHOICE, log 5). -/
opaque edgeOrder : Nat → Nat

end Sys2Proof.Config
end

