-- ==== Sys2Proof/Syntax.lean ====
section
/-! DEFINITION. The commands of the BP48: one constructor per row of spec/opcode_table.json. A row that is a command
message carries the fields of its payload as the bytes and little-endian words of R171; a row that is a slot access
carries its address and data; a row of the sequencer carries its track; a row that samples the straps carries them. -/

namespace Sys2Proof

/-- The 17 payload bytes of CUE SET, in the order of R171. -/
structure CueFields where
  cue : Byte
  trigger : Byte
  param0 : Byte
  param1 : Byte
  param2 : Byte
  param3 : Byte
  param4 : Byte
  irq : Byte
  soundPresent : Byte
  instrument : Byte
  increment : Word16
  volume : Byte
  hold : Byte
  rumblePresent : Byte
  pattern : Byte
  priority : Byte
  deriving DecidableEq, Repr

/-- One command: a row of spec/opcode_table.json with its operands. -/
inductive Instr where
  /-- CONSOLE_READ (R2): a console read transaction. -/
  | consoleRead (addr : SlotAddr)
  /-- CONSOLE_WRITE (R2): a console write transaction. -/
  | consoleWrite (addr : SlotAddr) (data : Byte)
  /-- CMD_WRITE (R163): a write to aperture offset 0x00. -/
  | cmdWrite (data : Byte)
  /-- REPLY_READ (R166): a read of aperture offset 0x01. -/
  | replyRead
  /-- STATUS_READ (R167): a read of aperture offset 0x02. -/
  | statusRead
  /-- SYNC (R167): a write to aperture offset 0x02, whatever the byte. -/
  | sync (data : Byte)
  /-- CAUSE_READ (R177): a read of aperture offset 0x03. -/
  | causeRead
  /-- APERTURE_IGNORED_WRITE (R162): a write to offset 0x01, 0x03 or 0x04-0xFF. -/
  | apertureIgnoredWrite (offset data : Byte)
  /-- MESSAGE_REFUSED (R165): a message, given as its bytes, that cases 1 to 4 of R165 refuse. -/
  | messageRefused (msg : List Byte)
  /-- MAP_SET (R5). -/
  | mapSet (strip kind page writable : Byte)
  /-- MAP_GET (R6). -/
  | mapGet (strip : Byte)
  /-- PROFILE (R169). -/
  | profile
  /-- FAULTS (R173). -/
  | faults
  /-- FAULT_CLEAR (R173). -/
  | faultClear (mask : Word16)
  /-- IRQ_MASK (R174). -/
  | irqMask (mask : Byte)
  /-- SOFT_RESET (R170). -/
  | softReset
  /-- SLOT_INFO (R41). -/
  | slotInfo (slot : Byte)
  /-- SLOT_OPEN (R47). -/
  | slotOpen (slot : Byte)
  /-- SLOT_COMMIT (R48). -/
  | slotCommit (slot : Byte)
  /-- SLOT_ABANDON (R49). -/
  | slotAbandon (slot : Byte)
  /-- SLOT_ERASE (R50). -/
  | slotErase (slot : Byte)
  /-- SLOT_VERIFY (R51). -/
  | slotVerify (slot : Byte)
  /-- SLOT_PROTECT (R40). -/
  | slotProtect (count side invert : Byte)
  /-- POOL_INFO (R42). -/
  | poolInfo
  /-- ENGINE_START (R45). -/
  | engineStart
  /-- ENGINE_BYTE_ACCESS (R53). -/
  | engineByteAccess
  /-- OPEN_END (R55). -/
  | openEnd
  /-- ERASE_FLIP (R57). -/
  | eraseFlip
  /-- VERIFY_END (R58). -/
  | verifyEnd
  /-- SWEEP_STEP (R62). -/
  | sweepStep
  /-- SWEEP_SCAN_END (R62). -/
  | sweepScanEnd
  /-- CLOCK_GET (R74). -/
  | clockGet
  /-- CLOCK_SET (R75). -/
  | clockSet (year : Word16) (month day hour minute second : Byte)
  /-- CLOCK_TRIM (R76): the trim as a signed byte. -/
  | clockTrim (trim : Byte)
  /-- DATE_OF (R77). -/
  | dateOf (day : Word16)
  /-- DAY_OF (R78). -/
  | dayOf (year : Word16) (month day : Byte)
  /-- DAYS_SINCE (R79). -/
  | daysSince (slot : Byte)
  /-- ABSENCE (R81). -/
  | absence
  /-- SECOND_TICK (R70). -/
  | secondTick
  /-- OSCILLATOR_STOP (R67). -/
  | oscillatorStop
  /-- CUE_SET (R84). -/
  | cueSet (fields : CueFields)
  /-- CUE_CLEAR (R85). -/
  | cueClear (cue : Byte)
  /-- CUE_GET (R86). -/
  | cueGet (cue : Byte)
  /-- VOICE_PLAY (R111). -/
  | voicePlay (voice instrument : Byte) (increment : Word16) (volume : Byte)
  /-- VOICE_SET (R112). -/
  | voiceSet (voice : Byte) (increment : Word16) (volume : Byte)
  /-- VOICE_RELEASE (R112). -/
  | voiceRelease (voice : Byte)
  /-- VOICE_STOP (R113). -/
  | voiceStop (voice : Byte)
  /-- MASTER (R115). -/
  | master (value : Byte)
  /-- VOICE_INFO (R114). -/
  | voiceInfo (voice : Byte)
  /-- SAMPLE_CLOCK (R116). -/
  | sampleClock
  /-- ENVELOPE_TICK (R104). -/
  | envelopeTick
  /-- CUE_HOLD_EXPIRY (R110). -/
  | cueHoldExpiry
  /-- ROM_ARBITRATION (R18). -/
  | romArbitration
  /-- ROM_BYTE_READ (R19). -/
  | romByteRead
  /-- TRACK_START (R120). -/
  | trackStart (track : Byte) (address : RomAddr) (mask source : Byte) (period : Word16)
  /-- TRACK_STOP (R121). -/
  | trackStop (track : Byte)
  /-- TRACK_INFO (R122). -/
  | trackInfo (track : Byte)
  /-- TRACK_TICK (R124). -/
  | trackTick (track : TrackNo)
  /-- NOTE_EVENT (R126). -/
  | noteEvent (track : TrackNo)
  /-- OFF_EVENT (R126). -/
  | offEvent (track : TrackNo)
  /-- INSTR_EVENT (R126). -/
  | instrEvent (track : TrackNo)
  /-- VOL_EVENT (R126). -/
  | volEvent (track : TrackNo)
  /-- PITCH_EVENT (R126). -/
  | pitchEvent (track : TrackNo)
  /-- TEMPO_EVENT (R127). -/
  | tempoEvent (track : TrackNo)
  /-- LOOP_EVENT (R128). -/
  | loopEvent (track : TrackNo)
  /-- BACK_EVENT (R128). -/
  | backEvent (track : TrackNo)
  /-- MARKER_EVENT (R129). -/
  | markerEvent (track : TrackNo)
  /-- END_EVENT (R129). -/
  | endEvent (track : TrackNo)
  /-- UNKNOWN_EVENT (R129). -/
  | unknownEvent (track : TrackNo)
  /-- FRM_STROBE (R130). -/
  | frmStrobe
  /-- FRAME_LOST (R131). -/
  | frameLost
  /-- SYNTHETIC_FRAME (R132). -/
  | syntheticFrame
  /-- FRAME_MODE (R133). -/
  | frameMode (mode : Byte)
  /-- RUMBLE_PLAY (R138). -/
  | rumblePlay (pattern priority allowance : Byte)
  /-- RUMBLE_STOP (R140). -/
  | rumbleStop (all : Byte)
  /-- RUMBLE_RENEW (R141). -/
  | rumbleRenew (allowance : Byte)
  /-- PATTERN_LOAD (R136): each step is its level byte and its duration byte. -/
  | patternLoad (pattern repeatMode : Byte) (steps : List (Byte × Byte))
  /-- RUMBLE_INFO (R151). -/
  | rumbleInfo
  /-- RUMBLE_TICK (R142). -/
  | rumbleTick
  /-- ALLOWANCE_EXPIRY (R142). -/
  | allowanceExpiry
  /-- STEP_EXPIRY (R142). -/
  | stepExpiry
  /-- KICK_END (R146). -/
  | kickEnd
  /-- STALL_INPUT (R148): the STALL input goes to the given level. -/
  | stallInput (asserted : Bool)
  /-- STALL_LATCH (R148). -/
  | stallLatch
  /-- BATTERY_ATTACH (R158). -/
  | batteryAttach
  /-- BATTERY_DOMAIN_INVALID (R158). -/
  | batteryDomainInvalid
  /-- VCON_RISE (R155). -/
  | vconRise
  /-- STARTING_ABORT (R155). -/
  | startingAbort
  /-- CONSOLE_POWER_UP (R155), with the straps as they are sampled. -/
  | consolePowerUp (straps : Straps)
  /-- WARN_ENTRY (R156). -/
  | warnEntry
  /-- WARN_EXIT (R156). -/
  | warnExit
  /-- FAIL (R157). -/
  | fail
  /-- RESET_LINE (R160). -/
  | resetLine
  /-- CRST_RELEASE (R160), with the straps as they are sampled. -/
  | crstRelease (straps : Straps)
  /-- BATLOW_SENSE_SET (R159). -/
  | batlowSenseSet
  /-- BATLOW_SENSE_CLEAR (R159). -/
  | batlowSenseClear
  /-- VBAT_LOW (R159). -/
  | vbatLow
  /-- CRYSTAL_EDGES_RETURN (R67). -/
  | crystalEdgesReturn
  /-- MOTOR_PWM_SLOT (R144). -/
  | motorPwmSlot
  deriving DecidableEq, Repr

end Sys2Proof
end

