-- ==== Sys2Proof/WellFormed.lean ====
section
/-! DEFINITION. When a command's operands are ones its row can have: a slot access at an address of its row, a message
that R165 can frame. Every other operand value is well-formed: the part itself answers for it (BAD_ARG, R5 and on). -/

namespace Sys2Proof

/-- The 256 addresses 0xFFF00-0xFFFFF of the control aperture (R2). -/
def inAperture (addr : SlotAddr) : Bool := decide (0xFFF00 ≤ addr.toNat)

/-- A write to the offset does nothing: REPLY, CAUSE and 0x04-0xFF (R162). -/
def ignoresWrites (offset : Byte) : Bool := offset != 0 && offset != 2

/-- The bytes are one framed message: a length byte above 32, or exactly 3 + L bytes (R165). -/
def framed (msg : List Byte) : Bool :=
  match msg with
  | _ :: len :: rest => decide (32 < len.toNat) || rest.length == len.toNat + 1
  | _ => false

/-- The operands are ones the command's row can have. -/
def Instr.wellFormed : Instr → Bool
  | .consoleRead addr => !inAperture addr
  | .consoleWrite addr _ => !inAperture addr
  | .apertureIgnoredWrite offset _ => ignoresWrites offset
  | .messageRefused msg => framed msg && decide (msg.length ≤ 64)
  | .patternLoad _ _ steps => decide (steps.length ≤ 15)
  | _ => true

end Sys2Proof
end

