-- ==== Sys2Proof/Decode.lean ====
section
/-! DEFINITION. Bytes and what they spell: little-endian fields, the message frame and its check byte (R164), the
command code table (R171), a message's command, and the bits of the opcode table, which gives none. -/

namespace Sys2Proof

/-! ## Little-endian fields (00_scope 1.6, R171) -/

/-- The low byte of a number. -/
def byteOf (n : Nat) : Byte := BitVec.ofNat 8 n

/-- A two-byte field, least significant byte first. -/
def le2 (n : Nat) : List Byte := [byteOf n, byteOf (n / 256)]

/-- A three-byte field, least significant byte first. -/
def le3 (n : Nat) : List Byte := [byteOf n, byteOf (n / 256), byteOf (n / 65536)]

/-- A one-byte signed field in two's complement (R171). -/
def signedByte (n : Int) : Byte := BitVec.ofInt 8 n

/-- A flag as a byte, 1 when it holds. -/
def flagByte (b : Bool) : Byte := if b then 1 else 0

/-- The word of two bytes, the first the less significant. -/
def word16 (lo hi : Byte) : Word16 := BitVec.ofNat 16 (lo.toNat + 256 * hi.toNat)

/-- The 24-bit address of three bytes, the first the least significant. -/
def romAddr (b0 b1 b2 : Byte) : RomAddr := BitVec.ofNat 24 (b0.toNat + 256 * b1.toNat + 65536 * b2.toNat)

/-! ## The frame (R164) -/

/-- The sum of the bytes modulo 256. -/
def byteSum (bs : List Byte) : Byte := bs.foldl (· + ·) 0

/-- "All the message's bytes, the check byte included, sum to 0 modulo 256" (R164). -/
def checkPasses (msg : List Byte) : Bool := byteSum msg == 0

/-- Code, length, payload and the check byte that makes the sum 0 (R164). -/
def frame (code : Byte) (payload : List Byte) : List Byte :=
  let body := code :: byteOf payload.length :: payload
  body ++ [-byteSum body]

/-! ## The command code table (R171) -/

/-- The lengths L that each command code accepts, in the order of the table of R171. -/
def codeTable : List (Nat × List Nat) :=
  [(0x01, [4]), (0x02, [1]), (0x08, [0]), (0x09, [0]), (0x0A, [2]), (0x0B, [1]), (0x0C, [0]),
   (0x10, [1]), (0x11, [1]), (0x12, [1]), (0x13, [1]), (0x14, [1]), (0x15, [1]), (0x16, [3]), (0x17, [0])] ++
  [(0x20, [0]), (0x21, [7]), (0x22, [1]), (0x23, [2]), (0x24, [4]), (0x25, [1]), (0x26, [0]),
   (0x28, [17]), (0x29, [1]), (0x2A, [1])] ++
  [(0x30, [5]), (0x31, [4]), (0x32, [1]), (0x33, [1]), (0x34, [1]), (0x35, [1]),
   (0x38, [8]), (0x39, [1]), (0x3A, [1]), (0x3B, [1])] ++
  [(0x40, [3]), (0x41, [1]), (0x42, [1]),
   (0x43, [2, 4, 6, 8, 10, 12, 14, 16, 18, 20, 22, 24, 26, 28, 30, 32]), (0x44, [0])]

/-- The code is in the command code table (R165 case 3). -/
def knownCode (code : Byte) : Bool := (codeTable.lookup code.toNat).isSome

/-- L is a length that the table gives for the code (R165 case 4). -/
def acceptsLength (code : Byte) (len : Nat) : Bool :=
  match codeTable.lookup code.toNat with
  | some lens => lens.contains len
  | none => false

/-- The payload of a command without fields. -/
def noField (i : Instr) : List Byte → Option Instr
  | [] => some i
  | _ => none

/-- The payload of a command with one byte field. -/
def oneField (f : Byte → Instr) : List Byte → Option Instr
  | [a] => some (f a)
  | _ => none

/-- The steps of a PATTERN LOAD: two bytes each (R171). -/
def stepPairs : List Byte → Option (List (Byte × Byte))
  | [] => some []
  | level :: duration :: rest => (stepPairs rest).map ((level, duration) :: ·)
  | [_] => none

/-- The command that a code and its payload spell, by the layouts of R171; none where R165 refuses them. -/
def decodeMessage (code : Byte) (payload : List Byte) : Option Instr :=
  match code.toNat with
  | 0x01 => match payload with
    | [strip, kind, page, writable] => some (.mapSet strip kind page writable)
    | _ => none
  | 0x02 => oneField .mapGet payload
  | 0x08 => noField .profile payload
  | 0x09 => noField .faults payload
  | 0x0A => match payload with
    | [lo, hi] => some (.faultClear (word16 lo hi))
    | _ => none
  | 0x0B => oneField .irqMask payload
  | 0x0C => noField .softReset payload
  | 0x10 => oneField .slotInfo payload
  | 0x11 => oneField .slotOpen payload
  | 0x12 => oneField .slotCommit payload
  | 0x13 => oneField .slotAbandon payload
  | 0x14 => oneField .slotErase payload
  | 0x15 => oneField .slotVerify payload
  | 0x16 => match payload with
    | [count, side, invert] => some (.slotProtect count side invert)
    | _ => none
  | 0x17 => noField .poolInfo payload
  | 0x20 => noField .clockGet payload
  | 0x21 => match payload with
    | [yLo, yHi, month, day, hour, minute, second] =>
        some (.clockSet (word16 yLo yHi) month day hour minute second)
    | _ => none
  | 0x22 => oneField .clockTrim payload
  | 0x23 => match payload with
    | [lo, hi] => some (.dateOf (word16 lo hi))
    | _ => none
  | 0x24 => match payload with
    | [yLo, yHi, month, day] => some (.dayOf (word16 yLo yHi) month day)
    | _ => none
  | 0x25 => oneField .daysSince payload
  | 0x26 => noField .absence payload
  | 0x28 => match payload with
    | [cue, trigger, p0, p1, p2, p3, p4, irq, soundPresent, instrument, incLo, incHi, volume, hold,
        rumblePresent, pattern, priority] =>
        some (.cueSet ⟨cue, trigger, p0, p1, p2, p3, p4, irq, soundPresent, instrument, word16 incLo incHi,
          volume, hold, rumblePresent, pattern, priority⟩)
    | _ => none
  | 0x29 => oneField .cueGet payload
  | 0x2A => oneField .cueClear payload
  | 0x30 => match payload with
    | [voice, instrument, incLo, incHi, volume] =>
        some (.voicePlay voice instrument (word16 incLo incHi) volume)
    | _ => none
  | 0x31 => match payload with
    | [voice, incLo, incHi, volume] => some (.voiceSet voice (word16 incLo incHi) volume)
    | _ => none
  | 0x32 => oneField .voiceRelease payload
  | 0x33 => oneField .voiceStop payload
  | 0x34 => oneField .master payload
  | 0x35 => oneField .voiceInfo payload
  | 0x38 => match payload with
    | [track, a0, a1, a2, mask, source, pLo, pHi] =>
        some (.trackStart track (romAddr a0 a1 a2) mask source (word16 pLo pHi))
    | _ => none
  | 0x39 => oneField .trackStop payload
  | 0x3A => oneField .trackInfo payload
  | 0x3B => oneField .frameMode payload
  | 0x40 => match payload with
    | [pattern, priority, allowance] => some (.rumblePlay pattern priority allowance)
    | _ => none
  | 0x41 => oneField .rumbleStop payload
  | 0x42 => oneField .rumbleRenew payload
  | 0x43 => match payload with
    | pattern :: repeatMode :: rest => (stepPairs rest).map (.patternLoad pattern repeatMode ·)
    | _ => none
  | 0x44 => noField .rumbleInfo payload
  | _ => none

/-- The code and payload of the message that a command row is (R171); none for the rows that are no message. -/
def messageOf : Instr → Option (Byte × List Byte)
  | .mapSet strip kind page writable => some (0x01, [strip, kind, page, writable])
  | .mapGet strip => some (0x02, [strip])
  | .profile => some (0x08, [])
  | .faults => some (0x09, [])
  | .faultClear mask => some (0x0A, le2 mask.toNat)
  | .irqMask mask => some (0x0B, [mask])
  | .softReset => some (0x0C, [])
  | .slotInfo slot => some (0x10, [slot])
  | .slotOpen slot => some (0x11, [slot])
  | .slotCommit slot => some (0x12, [slot])
  | .slotAbandon slot => some (0x13, [slot])
  | .slotErase slot => some (0x14, [slot])
  | .slotVerify slot => some (0x15, [slot])
  | .slotProtect count side invert => some (0x16, [count, side, invert])
  | .poolInfo => some (0x17, [])
  | .clockGet => some (0x20, [])
  | .clockSet year month day hour minute second =>
      some (0x21, le2 year.toNat ++ [month, day, hour, minute, second])
  | .clockTrim trim => some (0x22, [trim])
  | .dateOf day => some (0x23, le2 day.toNat)
  | .dayOf year month day => some (0x24, le2 year.toNat ++ [month, day])
  | .daysSince slot => some (0x25, [slot])
  | .absence => some (0x26, [])
  | .cueSet f => some (0x28, [f.cue, f.trigger, f.param0, f.param1, f.param2, f.param3, f.param4, f.irq,
      f.soundPresent, f.instrument] ++ le2 f.increment.toNat ++
      [f.volume, f.hold, f.rumblePresent, f.pattern, f.priority])
  | .cueGet cue => some (0x29, [cue])
  | .cueClear cue => some (0x2A, [cue])
  | .voicePlay voice instrument increment volume =>
      some (0x30, [voice, instrument] ++ le2 increment.toNat ++ [volume])
  | .voiceSet voice increment volume => some (0x31, [voice] ++ le2 increment.toNat ++ [volume])
  | .voiceRelease voice => some (0x32, [voice])
  | .voiceStop voice => some (0x33, [voice])
  | .master value => some (0x34, [value])
  | .voiceInfo voice => some (0x35, [voice])
  | .trackStart track address mask source period =>
      some (0x38, [track] ++ le3 address.toNat ++ [mask, source] ++ le2 period.toNat)
  | .trackStop track => some (0x39, [track])
  | .trackInfo track => some (0x3A, [track])
  | .frameMode mode => some (0x3B, [mode])
  | .rumblePlay pattern priority allowance => some (0x40, [pattern, priority, allowance])
  | .rumbleStop all => some (0x41, [all])
  | .rumbleRenew allowance => some (0x42, [allowance])
  | .patternLoad pattern repeatMode steps =>
      some (0x43, [pattern, repeatMode] ++ steps.flatMap fun s => [s.1, s.2])
  | .rumbleInfo => some (0x44, [])
  | .consoleRead _ | .consoleWrite _ _ | .cmdWrite _ | .replyRead | .statusRead | .sync _ | .causeRead
  | .apertureIgnoredWrite _ _ | .messageRefused _ => none
  | .engineStart | .engineByteAccess | .openEnd | .eraseFlip | .verifyEnd | .sweepStep | .sweepScanEnd => none
  | .secondTick | .oscillatorStop | .crystalEdgesReturn => none
  | .sampleClock | .envelopeTick | .cueHoldExpiry | .romArbitration | .romByteRead => none
  | .trackTick _ | .noteEvent _ | .offEvent _ | .instrEvent _ | .volEvent _ | .pitchEvent _ | .tempoEvent _
  | .loopEvent _ | .backEvent _ | .markerEvent _ | .endEvent _ | .unknownEvent _ => none
  | .frmStrobe | .frameLost | .syntheticFrame => none
  | .rumbleTick | .allowanceExpiry | .stepExpiry | .kickEnd | .stallInput _ | .stallLatch | .motorPwmSlot => none
  | .batteryAttach | .batteryDomainInvalid | .vconRise | .startingAbort | .consolePowerUp _ | .warnEntry
  | .warnExit | .fail | .resetLine | .crstRelease _ | .batlowSenseSet | .batlowSenseClear | .vbatLow => none

/-- The bytes of the message that a command row is, framed as R164 says; empty for the rows that are no message. -/
def frameOf (i : Instr) : List Byte :=
  match messageOf i with
  | some (code, payload) => frame code payload
  | none => []

/-! ## The bits of the opcode table -/

/-- The command that a word spells by the bits of spec/opcode_table.json. The table gives no bits to any row ("fields"
is empty in all 99), so no word spells one. -/
def decodeTableWord (_nbits _w : Nat) : Option Instr := none

end Sys2Proof
end

