-- ==== Sys2Proof/Machine/State.lean ====
section
/-! DEFINITION. The whole state of the BP48 as plain data, block by block in the order of 00_scope 1.3, the state right
after BATTERY ATTACH with the console off (`State.reset`), and the reasons a step could stop, of which there are none. -/

namespace Sys2Proof.Machine

/-- Why the machine stops with a fault. No rule of the manual stops the machine: every refusal is a reply status, a
dropped access or a fault flag (R13, R165, R172), so there is no reason. Safe: nothing can stop a run. -/
inductive Fault where
  deriving DecidableEq, Repr

/-- Why a command has no meaning here. -/
inductive Refusal where
  /-- Raised by the dispatch alone, for a row without a meaning; every row has one, so nothing raises it. Safe. -/
  | notModelled (mnemonic : String)
  deriving DecidableEq, Repr

/-! ## Slot interface, window map, profile, ROM port (ch. 1, ch. 10.6) -/

/-- A console transaction (R1): address, direction, and the byte driven on D0-D7 or delivered; `none` when the part
leaves D0-D7 undriven (R14). -/
structure Transaction where
  addr : SlotAddr
  isWrite : Bool
  data : Option Byte
  deriving DecidableEq, Repr

/-- What a strip reaches (chapter 1.3). -/
inductive MapKind where
  | unmapped | rom | saveSlot | saveRaw | soundRam
  deriving DecidableEq, Repr

/-- A map entry: kind, page, writable (chapter 1.3). -/
structure MapEntry where
  kind : MapKind
  page : Nat
  writable : Bool
  deriving DecidableEq, Repr

/-- The four reset kinds (00_scope 1.6). -/
inductive ResetKind where
  | batteryAttach | consolePowerUp | resetLine | softReset
  deriving DecidableEq, Repr

/-- The profile taken from the straps (R168) and the last reset kind (R169). -/
structure Profile where
  romCode : Nat
  blocks : Nat
  motor : Bool
  fallback : Bool
  straps : Straps
  lastReset : ResetKind
  deriving DecidableEq, Repr

/-- A requester that can hold the ROM port (R15). -/
inductive Holder where
  | voice (v : VoiceNo)
  | track (t : TrackNo)
  deriving DecidableEq, Repr

/-- A ROM grant: its holder, the bytes delivered under it (0-3 while it runs), a byte read in progress (R15), which the
model has throughout the grant (log 31). -/
structure Grant where
  holder : Holder
  delivered : Nat
  reading : Bool
  deriving DecidableEq, Repr

/-- The ROM port (R15): idle or granted, and each track's partly fetched event. -/
structure RomPort where
  grant : Option Grant
  partials : Vector (List Byte) 2
  deriving DecidableEq, Repr

/-! ## Save memory, slot directory, save engine (ch. 2, ch. 3) -/

/-- The access the save SRAM port last made (R22, R53): by the engine or the console, read or write, SA address, byte. -/
structure SaveAccess where
  byEngine : Bool
  isWrite : Bool
  addr : Nat
  data : Byte
  deriving DecidableEq, Repr

/-- A slot's state (R23). -/
inductive SlotState where
  | empty | valid | opening | opened | committing | erasing
  deriving DecidableEq, Repr

/-- How the last operation on a slot ended (R23). -/
inductive LastResult where
  | none | done | damaged | reverted
  deriving DecidableEq, Repr

/-- A save check: S1 and S2, each 0-250 (R29). -/
structure Check where
  s1 : Nat
  s2 : Nat
  deriving DecidableEq, Repr

/-- A slot's stamp: day number, second of day, doubt mark (R23). -/
structure Stamp where
  day : Nat
  sec : Nat
  doubt : Bool
  deriving DecidableEq, Repr

/-- A slot record (R23). -/
structure SlotRecord where
  state : SlotState
  current : Option Nat
  working : Option Nat
  generation : Nat
  stored : Option Check
  workCheck : Option Check
  stamp : Option Stamp
  damaged : Bool
  verifyPending : Bool
  lastResult : LastResult
  done : Bool
  deriving DecidableEq, Repr

/-- The side of the protect setting (R37). -/
inductive Side where
  | low | high
  deriving DecidableEq, Repr

/-- The protect setting (R37). -/
structure Protect where
  count : Nat
  side : Side
  invert : Bool
  deriving DecidableEq, Repr

/-- The slot directory: records, free pool in ascending order, protect setting and window (R23, R26, R37, R39). -/
structure Directory where
  slots : Vector SlotRecord 8
  pool : List Nat
  protect : Protect
  windowOpen : Bool
  deriving DecidableEq, Repr

/-- The kinds of save operation (R45). -/
inductive OpKind where
  | open | commit | erase | verify
  deriving DecidableEq, Repr

/-- The stages of the operations (R45). -/
inductive Stage where
  | copy | fill | grantWait | flip | scan
  deriving DecidableEq, Repr

/-- An accepted operation not yet started (R45). -/
structure QueueEntry where
  kind : OpKind
  slot : SlotNo
  deriving DecidableEq, Repr

/-- The operation in flight (R45); `bySweep` tells a sweep scan from a VERIFY a command made (R62). -/
structure Flight where
  kind : OpKind
  slot : SlotNo
  stage : Stage
  position : Nat
  check : Check
  bySweep : Bool
  deriving DecidableEq, Repr

/-- The save engine (R45). -/
structure Engine where
  queue : List QueueEntry
  flight : Option Flight
  sweep : Nat
  deriving DecidableEq, Repr

/-! ## Calendar, crystal, cues (ch. 4, ch. 5) -/

/-- A power stamp (R68). -/
structure PowerStamp where
  day : Nat
  sec : Nat
  deriving DecidableEq, Repr

/-- The time record (R68): D, S, P, X, T, set count, END, DOUBT, power-down and power-up stamps. -/
structure Calendar where
  day : Nat
  sec : Nat
  prescaler : Nat
  extension : Nat
  trim : Int
  setCount : Nat
  atEnd : Bool
  doubt : Bool
  down : Option PowerStamp
  up : Option PowerStamp
  deriving DecidableEq, Repr

/-- The crystal: the divider's count 0-511 (R66) and whether edges come (R67). -/
structure Crystal where
  divider : Nat
  running : Bool
  deriving DecidableEq, Repr

/-- A cue's trigger with its parameters (R83). -/
inductive Trigger where
  | off
  | daily (sec : Nat)
  | every (period countdown : Nat)
  | dayroll
  | once (day sec : Nat)
  deriving DecidableEq, Repr

/-- A cue's sound action (R83). -/
structure CueSound where
  instrument : Nat
  increment : Nat
  volume : Nat
  hold : Nat
  deriving DecidableEq, Repr

/-- A cue's rumble action (R83). -/
structure CueRumble where
  pattern : Nat
  priority : Nat
  deriving DecidableEq, Repr

/-- A cue record (R83). -/
structure Cue where
  trigger : Trigger
  armed : Bool
  irq : Bool
  sound : Option CueSound
  rumble : Option CueRumble
  count : Nat
  pending : Bool
  missed : Bool
  deriving DecidableEq, Repr

/-! ## Voices, mixer, sequencer, frame capture (ch. 6, ch. 7) -/

/-- The current owner of a voice (R99). -/
inductive Owner where
  | none
  | track (t : TrackNo)
  | console
  | cue
  deriving DecidableEq, Repr

/-- The envelope phase (R99). -/
inductive Phase where
  | idle | attack | decay | sustain | release
  deriving DecidableEq, Repr

/-- The mode of an instrument record (R97). -/
inductive Mode where
  | wave | stream | noiseLong | noiseShort
  deriving DecidableEq, Repr

/-- The fields of an instrument record as taken at note-on (R97). -/
structure Snapshot where
  mode : Mode
  wave : Nat
  start : RomAddr
  length : Nat
  loop : Nat
  attack : Nat
  decay : Nat
  sustain : Nat
  release : Nat
  deriving DecidableEq, Repr

/-- A voice record (R99). The home is a track or NONE. -/
structure Voice where
  home : Option TrackNo
  owner : Owner
  phase : Phase
  noteInstrument : Nat
  snapshot : Snapshot
  selected : Nat
  increment : Nat
  volume : Nat
  env : Nat
  acc : Nat
  position : Nat
  fraction : Nat
  fetch : Nat
  buffer : List Byte
  primed : Bool
  lfsr : Nat
  last : Int
  hold : Option Nat
  deriving DecidableEq, Repr

/-- The mixer: master volume M (R115) and the DAC code on AOUT, `none` while AOUT is not driven (R117). -/
structure Mixer where
  master : Nat
  dac : Option Nat
  deriving DecidableEq, Repr

/-- The state of a track (R119). -/
inductive TrackState where
  | stopped | running | waiting
  deriving DecidableEq, Repr

/-- What makes a track tick (R119). -/
inductive Source where
  | time | frame
  deriving DecidableEq, Repr

/-- The loop mark (R119). -/
structure LoopMark where
  addr : RomAddr
  remaining : Nat
  forever : Bool
  deriving DecidableEq, Repr

/-- A sequence event of six bytes (R123, R171). -/
structure Event where
  delta : Byte
  kind : Byte
  voice : Byte
  value : Word16
  extra : Byte
  deriving DecidableEq, Repr

/-- A track record (R119); `period` is P for TIME and N for FRAME. -/
structure Track where
  state : TrackState
  nextAddr : RomAddr
  fetchAddr : RomAddr
  mask : BitVec 6
  source : Source
  period : Nat
  divider : Nat
  wait : Option Nat
  loopMark : Option LoopMark
  marker : Byte
  buffer : List Event
  deriving DecidableEq, Repr

/-- The frame state (R130). -/
inductive FrameState where
  | waitingFirst | present | lost
  deriving DecidableEq, Repr

/-- The frame mode (R130). -/
inductive FrameMode where
  | coast | hold
  deriving DecidableEq, Repr

/-- Frame capture (R130). -/
structure FrameCapture where
  counter : BitVec 16
  last : Option (BitVec 16)
  period : Option Nat
  silence : Nat
  synth : Nat
  state : FrameState
  mode : FrameMode
  deriving DecidableEq, Repr

/-! ## Rumble drive (ch. 8) -/

/-- A pattern's repeat (R136). -/
inductive Repeat where
  | once | loop
  deriving DecidableEq, Repr

/-- A step's level: 0-15 or BRAKE (R136). -/
inductive Level where
  | drive (n : Nat)
  | brake
  deriving DecidableEq, Repr

/-- A pattern step (R136). -/
structure Step where
  level : Level
  duration : Nat
  deriving DecidableEq, Repr

/-- A pattern (R136); the step count is the length of the list. -/
structure Pattern where
  rep : Repeat
  steps : List Step
  deriving DecidableEq, Repr

/-- Who made a rumble request (R135). -/
inductive RequestSource where
  | console | cue
  deriving DecidableEq, Repr

/-- A rumble request (R135). -/
structure Request where
  pattern : Fin 16
  priority : Nat
  allowance : Nat
  source : RequestSource
  deriving DecidableEq, Repr

/-- The kick state, with the kick ticks left (R146). -/
inductive Kick where
  | none
  | waiting
  | kicking (left : Nat)
  deriving DecidableEq, Repr

/-- The active request (R135). -/
structure Active where
  request : Request
  stepIndex : Nat
  stepRemaining : Nat
  allowanceLeft : Nat
  kick : Kick
  deriving DecidableEq, Repr

/-- How the last active request ended (R135). -/
inductive EndReason where
  | none | finished | allowance | stopped | preempted | stall
  deriving DecidableEq, Repr

/-- A bridge state (R144). -/
inductive Bridge where
  | off | drive | brake
  deriving DecidableEq, Repr

/-- The rumble drive (R135), with its STALL input (R148), the rumble ticks of the WARN spell (R147, log 30), the PWM
period being driven (R144) and the pins MA and MB, `none` while they are not driven (R147). -/
structure Rumble where
  patterns : Vector Pattern 16
  active : Option Active
  queue : List Request
  heat : Nat
  hot : Bool
  zeroRun : Nat
  stallInput : Bool
  stallTimer : Nat
  lastEnd : EndReason
  warnTicks : Nat
  pwmSlot : Nat
  pwmLevel : Nat
  pwmBridge : Bridge
  ma : Option Bool
  mb : Option Bool
  deriving DecidableEq, Repr

/-! ## Supply watch, command unit, cause unit (ch. 9, ch. 10, ch. 11) -/

/-- The monitor states (00_scope 1.8). -/
inductive Monitor where
  | battery | starting | run | warn
  deriving DecidableEq, Repr

/-- Who holds the surge grant (R153). -/
inductive SurgeHolder where
  | none | engine | kicker
  deriving DecidableEq, Repr

/-- The supply watch (R153), the comparator on VBAT (R159), whether the battery domain is valid (R158) and the /CRST
input, true while asserted (R160). Timers are in milliseconds. -/
structure Supply where
  monitor : Monitor
  startTimer : Nat
  batlowFilter : Nat
  batlowSense : Bool
  attachMark : Bool
  holder : SurgeHolder
  engineReq : Bool
  kickerReq : Bool
  vbatLow : Bool
  domainValid : Bool
  crst : Bool
  deriving DecidableEq, Repr

/-- The command unit: both FIFOs and the OVERRUN indication (R163, R166, R167). -/
structure CommandUnit where
  fifo : List Byte
  reply : List Byte
  overrun : Bool
  deriving DecidableEq, Repr

/-- Why a console access was refused (R13). -/
inductive RefuseReason where
  | slotNotOpen | entryReadOnly | beyondTarget | rawView
  deriving DecidableEq, Repr

/-- The fault record (R13). -/
structure FaultRecord where
  strip : Nat
  offset : Nat
  isWrite : Bool
  reason : RefuseReason
  deriving DecidableEq, Repr

/-- The five edge latches (R175). -/
structure Latches where
  fault : Bool
  frameLost : Bool
  rumbleEnd : Bool
  marker0 : Bool
  marker1 : Bool
  deriving DecidableEq, Repr

/-- The cause unit and the fault flags: flags and enables numbered as R171 numbers their bits. -/
structure CauseUnit where
  flags : BitVec 12
  record : Option FaultRecord
  enables : BitVec 7
  latches : Latches
  deriving DecidableEq, Repr

/-- The last slot transaction, held while D0-D7 carry it (R1). -/
structure SlotBus where
  last : Option Transaction
  deriving DecidableEq, Repr

/-! ## The state -/

/-- Everything the manual gives the machine, and the queue of commands that wait. `freeIndex` is the model's own: the
number of crystal edges taken, at which the free value `Config.edgeOrder` is read. -/
structure State where
  slot : SlotBus
  map : Vector MapEntry 16
  profile : Profile
  port : RomPort
  rom : List Host.Cell
  sram : List Host.Cell
  sound : List Host.Cell
  saveAccess : Option SaveAccess
  dir : Directory
  engine : Engine
  cal : Calendar
  crystal : Crystal
  cues : Vector Cue 8
  voices : Vector Voice 6
  mixer : Mixer
  tracks : Vector Track 2
  frame : FrameCapture
  rumble : Rumble
  supply : Supply
  cmd : CommandUnit
  cause : CauseUnit
  freeIndex : Nat
  pending : List Instr
  deriving DecidableEq, Repr

/-! ## Values after a reset -/

/-- The fallback profile (R168): ROM 256 KiB, 8 blocks, no motor. -/
def Profile.fallbackOf (straps : Straps) (kind : ResetKind) : Profile :=
  { romCode := 0, blocks := 8, motor := false, fallback := true, straps := straps, lastReset := kind }

/-- The page count of a profile: 4, 8, ... 256 (R9). -/
def Profile.pageCount (p : Profile) : Nat := 4 * 2 ^ p.romCode

/-- The ROM size of a profile (R9). -/
def Profile.romSize (p : Profile) : Nat := p.pageCount * 65536

/-- The entry that a reset loads for strip i (R4). -/
def MapEntry.loaded (pageCount i : Nat) : MapEntry :=
  { kind := .rom, page := i % pageCount, writable := false }

/-- The map table that a reset loads (R4). -/
def loadedMap (pageCount : Nat) : Vector MapEntry 16 :=
  #v[.loaded pageCount 0, .loaded pageCount 1, .loaded pageCount 2, .loaded pageCount 3,
     .loaded pageCount 4, .loaded pageCount 5, .loaded pageCount 6, .loaded pageCount 7,
     .loaded pageCount 8, .loaded pageCount 9, .loaded pageCount 10, .loaded pageCount 11,
     .loaded pageCount 12, .loaded pageCount 13, .loaded pageCount 14, .loaded pageCount 15]

/-- The idle port with every partly fetched event discarded (R20). -/
def RomPort.idle : RomPort := { grant := none, partials := #v[[], []] }

/-- The slot record of BATTERY ATTACH (R43). -/
def SlotRecord.attached : SlotRecord :=
  { state := .empty, current := none, working := none, generation := 0, stored := none, workCheck := none,
    stamp := none, damaged := false, verifyPending := false, lastResult := .none, done := false }

/-- The protect setting of BATTERY ATTACH (R37). -/
def Protect.attached : Protect := { count := 0, side := .low, invert := false }

/-- The engine without power: no queue, no operation, no sweep (R65). -/
def Engine.off : Engine := { queue := [], flight := none, sweep := 8 }

/-- The time record of BATTERY ATTACH (R82). -/
def Calendar.attached : Calendar :=
  { day := 0, sec := 0, prescaler := 0, extension := 0, trim := 0, setCount := 0, atEnd := false, doubt := true,
    down := none, up := none }

/-- The cue record of BATTERY ATTACH (R95). -/
def Cue.attached : Cue :=
  { trigger := .off, armed := false, irq := false, sound := none, rumble := none, count := 0, pending := false,
    missed := false }

/-- The snapshot of a record of all zero bytes (R118). -/
def Snapshot.zero : Snapshot :=
  { mode := .wave, wave := 0, start := 0, length := 0, loop := 0, attack := 0, decay := 0, sustain := 0, release := 0 }

/-- A voice after any reset (R118). -/
def Voice.initial : Voice :=
  { home := none, owner := .none, phase := .idle, noteInstrument := 0, snapshot := .zero, selected := 0, increment := 0,
    volume := 0, env := 0, acc := 0, position := 0, fraction := 0, fetch := 0, buffer := [], primed := false,
    lfsr := 32767, last := 0, hold := none }

/-- The six voices after any reset (R118). -/
def initialVoices : Vector Voice 6 := Vector.replicate 6 Voice.initial

/-- A track after any reset (R134). -/
def Track.initial : Track :=
  { state := .stopped, nextAddr := 0, fetchAddr := 0, mask := 0, source := .time, period := 512, divider := 0,
    wait := none, loopMark := none, marker := 0, buffer := [] }

/-- Both tracks after any reset (R134). -/
def initialTracks : Vector Track 2 := Vector.replicate 2 Track.initial

/-- Frame capture after any reset; the counter is the one that stands (R134). -/
def FrameCapture.initial (counter : BitVec 16) : FrameCapture :=
  { counter := counter, last := none, period := none, silence := 0, synth := 0, state := .waitingFirst, mode := .coast }

/-- The empty pattern (R136, R152). -/
def Pattern.blank : Pattern := { rep := .once, steps := [] }

/-- The rumble drive of CONSOLE POWER-UP, with the pins at the given level (R152). -/
def Rumble.initial (stallInput : Bool) (pins : Option Bool) : Rumble :=
  { patterns := Vector.replicate 16 Pattern.blank, active := none, queue := [], heat := 0, hot := false, zeroRun := 8,
    stallInput := stallInput, stallTimer := 0, lastEnd := .none, warnTicks := 0, pwmSlot := 0,
    pwmLevel := 0, pwmBridge := .off, ma := pins, mb := pins }

/-- The command unit after a reset: both FIFOs empty, OVERRUN clear (R170). -/
def CommandUnit.initial : CommandUnit := { fifo := [], reply := [], overrun := false }

/-- No edge latch set (R178). -/
def Latches.clear : Latches :=
  { fault := false, frameLost := false, rumbleEnd := false, marker0 := false, marker1 := false }

/-- The cause unit of CONSOLE POWER-UP (R178). -/
def CauseUnit.initial : CauseUnit := { flags := 0, record := none, enables := 0, latches := .clear }

/-- The machine right after BATTERY ATTACH with the console off (R158 and the BATTERY ATTACH values of each chapter).
What is powered from VCON alone stands at its CONSOLE POWER-UP values, under the fallback profile, its pins undriven
(DESIGN CHOICE, log 13). -/
def State.reset : State :=
  { slot := { last := none },
    map := loadedMap 4,
    profile := Profile.fallbackOf 0 .batteryAttach,
    port := .idle,
    rom := [], sram := [], sound := [],
    saveAccess := none,
    dir := { slots := Vector.replicate 8 SlotRecord.attached, pool := [], protect := .attached, windowOpen := false },
    engine := .off,
    cal := .attached,
    crystal := { divider := 0, running := true },
    cues := Vector.replicate 8 Cue.attached,
    voices := initialVoices,
    mixer := { master := 16, dac := none },
    tracks := initialTracks,
    frame := .initial 0,
    rumble := .initial false none,
    supply := { monitor := .battery, startTimer := 0, batlowFilter := 0, batlowSense := false, attachMark := true,
                holder := .none, engineReq := false, kickerReq := false, vbatLow := false, domainValid := true,
                crst := false },
    cmd := .initial,
    cause := .initial,
    freeIndex := 0,
    pending := [] }

end Sys2Proof.Machine
end

