-- ==== Sys2Proof/Machine/Ops.lean ====
section
/-! DEFINITION. The operations every family shares: the three memories in their canonical form, reading and replacing
one record of a table, and the conditions "powered" and "answered" of R14. -/

namespace Sys2Proof.Machine

/-! ## Tables -/

/-- The vector of the values of a function. -/
def tabulate {α : Type} {n : Nat} (f : Fin n → α) : Vector α n := ⟨⟨List.ofFn f⟩, by simp⟩

/-- The six voices in order. -/
def allVoices : List VoiceNo := [0, 1, 2, 3, 4, 5]

/-- Both tracks in order. -/
def allTracks : List TrackNo := [0, 1]

/-- The eight slots in order. -/
def allSlots : List SlotNo := [0, 1, 2, 3, 4, 5, 6, 7]

/-- The eight cues in order. -/
def allCues : List CueNo := [0, 1, 2, 3, 4, 5, 6, 7]

/-! ## Memory: lists of (address, byte), addresses strictly rising, no entry equal to what an unlisted address reads -/

/-- A memory as plain data. -/
abbrev Memory := List Host.Cell

/-- The byte at an address; `unlisted` where nothing is listed. -/
def readMem (unlisted : Byte) : Memory → Nat → Byte
  | [], _ => unlisted
  | (k, b) :: rest, a => if k = a then b else readMem unlisted rest a

/-- The memory with one byte replaced, kept in canonical form. -/
def writeMem (unlisted : Byte) : Memory → Nat → Byte → Memory
  | [], a, b => if b = unlisted then [] else [(a, b)]
  | (k, c) :: rest, a, b =>
    if a < k then (if b = unlisted then (k, c) :: rest else (a, b) :: (k, c) :: rest)
    else if a = k then (if b = unlisted then rest else (a, b) :: rest)
    else (k, c) :: writeMem unlisted rest a b

/-- The canonical form: addresses strictly rising and below the size, no entry that an unlisted address would read. -/
abbrev Memory.wf (unlisted : Byte) (size : Nat) (m : Memory) : Prop :=
  m.Pairwise (fun c d => c.1 < d.1) ∧ ∀ c ∈ m, c.2 ≠ unlisted ∧ c.1 < size

/-- What a ROM byte that nothing lists reads as: the erased value. The manual gives no contents (DESIGN CHOICE,
unsafe, log 10). -/
def romUnlisted : Byte := 0xFF

/-- What a save SRAM byte that nothing lists reads as: the value of an erased block (R29). After BATTERY ATTACH the
contents "are whatever the cell powered up with" (R43) (DESIGN CHOICE, unsafe, log 11). -/
def sramUnlisted : Byte := 0xFF

/-- What a sound RAM byte that nothing lists reads as: "set to 0 in every byte at CONSOLE POWER-UP" (R96). -/
def soundUnlisted : Byte := 0

/-- The ROM byte that the port reads for a 24-bit address: modulo the ROM size of the profile (R9). -/
def romByte (s : State) (addr : RomAddr) : Byte :=
  readMem romUnlisted s.rom (addr.toNat % s.profile.romSize)

/-- The sound RAM byte at an offset modulo 4096 (R12). -/
def soundByte (s : State) (offset : Nat) : Byte := readMem soundUnlisted s.sound (offset % 4096)

/-- The address of a position of a save block (R21). -/
def sramAddr (block pos : Nat) : Nat := block * Config.blockSize + pos

/-- The save SRAM byte at a position of a block (R21). -/
def sramByte (s : State) (block pos : Nat) : Byte := readMem sramUnlisted s.sram (sramAddr block pos)

/-- A read that the save SRAM port makes (R22, R53): the port remembers the access. -/
def portRead (byEngine : Bool) (block pos : Nat) (s : State) : State :=
  { s with saveAccess := some ⟨byEngine, false, sramAddr block pos, sramByte s block pos⟩ }

/-- A write that the save SRAM port makes (R22, R53). -/
def portWrite (byEngine : Bool) (block pos : Nat) (b : Byte) (s : State) : State :=
  { s with sram := writeMem sramUnlisted s.sram (sramAddr block pos) b,
           saveAccess := some ⟨byEngine, true, sramAddr block pos, b⟩ }

/-! ## One record of a table -/

/-- Replace a slot record. -/
def setSlot (n : SlotNo) (r : SlotRecord) (s : State) : State :=
  { s with dir := { s.dir with slots := s.dir.slots.set n.val r n.isLt } }

/-- Replace a voice record. -/
def setVoice (v : VoiceNo) (r : Voice) (s : State) : State :=
  { s with voices := s.voices.set v.val r v.isLt }

/-- Replace a track record. -/
def setTrack (t : TrackNo) (r : Track) (s : State) : State :=
  { s with tracks := s.tracks.set t.val r t.isLt }

/-- Replace a cue record. -/
def setCue (n : CueNo) (r : Cue) (s : State) : State :=
  { s with cues := s.cues.set n.val r n.isLt }

/-! ## Conditions -/

/-- The console-powered logic runs: the monitor is in RUN or WARN (00_scope 1.8). -/
def powered (s : State) : Bool := s.supply.monitor == .run || s.supply.monitor == .warn

/-- Transactions are resolved: RUN or WARN with /CRST released (R14). -/
def answered (s : State) : Bool := powered s && !s.supply.crst

/-- The divider gives ticks: powered, and the crystal gives edges (R66, R67). -/
def ticking (s : State) : Bool := powered s && s.crystal.running

end Sys2Proof.Machine
end

