-- ==== Sys2Proof/Machine/Operands.lean ====
section
/-! DEFINITION. The operand forms of the command messages: the enumerations of R171 in both directions, and the
conversion of a field's byte to the number it names, refused out of range. -/

namespace Sys2Proof.Machine

/-- A byte that names one of n things, if it does. -/
def indexOf (n : Nat) (b : Byte) : Option (Fin n) := if h : b.toNat < n then some ⟨b.toNat, h⟩ else none

/-- A byte that must be 0 or 1. -/
def boolOf (b : Byte) : Option Bool := if b = 0 then some false else if b = 1 then some true else none

/-- A signed byte in two's complement (R171). -/
def signedOf (b : Byte) : Int := b.toInt

/-- A byte as a signed sample (R96). -/
def sampleOf (b : Byte) : Int := if b.toNat < 128 then b.toNat else (b.toNat : Int) - 256

/-- Three bytes, least significant first, as a number. -/
def nat3 (b0 b1 b2 : Byte) : Nat := b0.toNat + 256 * b1.toNat + 65536 * b2.toNat

/-- Two bytes, least significant first, as a number. -/
def nat2 (b0 b1 : Byte) : Nat := b0.toNat + 256 * b1.toNat

/-! ## The enumerations of R171 -/

/-- A map kind code. -/
def mapKindOf (b : Byte) : Option MapKind :=
  match b.toNat with
  | 0 => some .unmapped
  | 1 => some .rom
  | 2 => some .saveSlot
  | 3 => some .saveRaw
  | 4 => some .soundRam
  | _ => none

/-- The code of a map kind. -/
def MapKind.code : MapKind → Nat
  | .unmapped => 0 | .rom => 1 | .saveSlot => 2 | .saveRaw => 3 | .soundRam => 4

/-- The code of a slot state. -/
def SlotState.code : SlotState → Nat
  | .empty => 0 | .valid => 1 | .opening => 2 | .opened => 3 | .committing => 4 | .erasing => 5

/-- The code of a last result. -/
def LastResult.code : LastResult → Nat
  | .none => 0 | .done => 1 | .damaged => 2 | .reverted => 3

/-- A protect side code. -/
def sideOf (b : Byte) : Option Side := if b = 0 then some .low else if b = 1 then some .high else none

/-- The code of a protect side. -/
def Side.code : Side → Nat
  | .low => 0 | .high => 1

/-- The code of a cue trigger. -/
def Trigger.code : Trigger → Nat
  | .off => 0 | .daily _ => 1 | .every _ _ => 2 | .dayroll => 3 | .once _ _ => 4

/-- The code of a voice's home. -/
def homeCode : Option TrackNo → Nat
  | none => 0
  | some t => 1 + t.val

/-- The code of a voice's owner. -/
def Owner.code : Owner → Nat
  | .none => 0 | .track t => 1 + t.val | .console => 3 | .cue => 4

/-- The code of an envelope phase. -/
def Phase.code : Phase → Nat
  | .idle => 0 | .attack => 1 | .decay => 2 | .sustain => 3 | .release => 4

/-- The mode byte of an instrument record (R97). -/
def modeOf (b : Byte) : Option Mode :=
  match b.toNat with
  | 0 => some .wave
  | 1 => some .stream
  | 2 => some .noiseLong
  | 3 => some .noiseShort
  | _ => none

/-- The code of a mode (R97). -/
def Mode.code : Mode → Nat
  | .wave => 0 | .stream => 1 | .noiseLong => 2 | .noiseShort => 3

/-- The code of a track state. -/
def TrackState.code : TrackState → Nat
  | .stopped => 0 | .running => 1 | .waiting => 2

/-- A tick source code. -/
def sourceOf (b : Byte) : Option Source := if b = 0 then some .time else if b = 1 then some .frame else none

/-- The code of a tick source. -/
def Source.code : Source → Nat
  | .time => 0 | .frame => 1

/-- The code of a frame state. -/
def FrameState.code : FrameState → Nat
  | .waitingFirst => 0 | .present => 1 | .lost => 2

/-- A frame mode code. -/
def frameModeOf (b : Byte) : Option FrameMode :=
  if b = 0 then some .coast else if b = 1 then some .hold else none

/-- The code of a frame mode. -/
def FrameMode.code : FrameMode → Nat
  | .coast => 0 | .hold => 1

/-- A repeat code. -/
def repeatOf (b : Byte) : Option Repeat := if b = 0 then some .once else if b = 1 then some .loop else none

/-- The code of a repeat. -/
def Repeat.code : Repeat → Nat
  | .once => 0 | .loop => 1

/-- A pattern step: level 0-15 or 0xFF for BRAKE, duration above 0 (R136, R171). -/
def stepOf (raw : Byte × Byte) : Option Step :=
  if raw.2 = 0 then none
  else if raw.1.toNat < 16 then some ⟨.drive raw.1.toNat, raw.2.toNat⟩
  else if raw.1 = 0xFF then some ⟨.brake, raw.2.toNat⟩
  else none

/-- All the steps of a pattern, if each is one (R136). -/
def stepsOf : List (Byte × Byte) → Option (List Step)
  | [] => some []
  | raw :: rest =>
    match stepOf raw, stepsOf rest with
    | some st, some sts => some (st :: sts)
    | _, _ => none

/-- The code of a bridge state. -/
def Bridge.code : Bridge → Nat
  | .off => 0 | .drive => 1 | .brake => 2

/-- The code of a kick state. -/
def Kick.code : Kick → Nat
  | .none => 0 | .waiting => 1 | .kicking _ => 2

/-- The kick ticks left, 0 outside a kick. -/
def Kick.left : Kick → Nat
  | .kicking n => n
  | _ => 0

/-- The code of an end reason. -/
def EndReason.code : EndReason → Nat
  | .none => 0 | .finished => 1 | .allowance => 2 | .stopped => 3 | .preempted => 4 | .stall => 5

/-- The code of a request source. -/
def RequestSource.code : RequestSource → Nat
  | .console => 0 | .cue => 1

/-- The code of a reset kind. -/
def ResetKind.code : ResetKind → Nat
  | .batteryAttach => 0 | .consolePowerUp => 1 | .resetLine => 2 | .softReset => 3

/-- The code of a refusal reason. -/
def RefuseReason.code : RefuseReason → Nat
  | .slotNotOpen => 0 | .entryReadOnly => 1 | .beyondTarget => 2 | .rawView => 3

/-- Bits gathered into a number, the first of the list in bit 0. -/
def bitsOf : List Bool → Nat
  | [] => 0
  | b :: rest => (if b then 1 else 0) + 2 * bitsOf rest

/-- An optional number as one byte, 0 when absent (R171). -/
def optByte (o : Option Nat) : Byte := byteOf (o.getD 0)

end Sys2Proof.Machine
end

