-- ==== Sys2Proof/Machine/Flags.lean ====
section
/-! DEFINITION. Fault flags, interrupt classes, edge latches and causes (ch. 11), /CIRQ, and the status byte (R167). -/

namespace Sys2Proof.Machine

/-- The 12 fault flags (R172). -/
inductive FaultFlag where
  | badFrame | cmdOverrun | strap | refusedWrite | range | damaged | underrun | clip | seqLate | badEvent | stall | batlow
  deriving DecidableEq, Repr

/-- The bit of a fault flag (R171). -/
def FaultFlag.bit : FaultFlag → Nat
  | .badFrame => 0 | .cmdOverrun => 1 | .strap => 2 | .refusedWrite => 3 | .range => 4 | .damaged => 5
  | .underrun => 6 | .clip => 7 | .seqLate => 8 | .badEvent => 9 | .stall => 10 | .batlow => 11

/-- The seven interrupt classes (R174). -/
inductive CauseClass where
  | fault | frame | rumble | save | cue | marker | warn
  deriving DecidableEq, Repr

/-- The bit of a class (R171). -/
def CauseClass.bit : CauseClass → Nat
  | .fault => 0 | .frame => 1 | .rumble => 2 | .save => 3 | .cue => 4 | .marker => 5 | .warn => 6

/-- The class is enabled (R174). -/
def enabled (c : CauseClass) (s : State) : Bool := s.cause.enables.getLsbD c.bit

/-- The flag is set (R172). -/
def hasFault (f : FaultFlag) (s : State) : Bool := s.cause.flags.getLsbD f.bit

/-- A fault flag's event (R172): the flag becomes set; from clear to set with the FAULT class enabled, the FAULT latch
is set (R175). -/
def setFault (f : FaultFlag) (s : State) : State :=
  if hasFault f s then s
  else { s with cause := { s.cause with
    flags := s.cause.flags ||| BitVec.twoPow 12 f.bit,
    latches := { s.cause.latches with fault := s.cause.latches.fault || enabled .fault s } } }

/-- A fault flag's event, when it happens. -/
def setFaultIf (b : Bool) (f : FaultFlag) (s : State) : State := if b then setFault f s else s

/-- FRAME LOST's event (R175). -/
def latchFrameLost (s : State) : State :=
  if enabled .frame s then
    { s with cause := { s.cause with latches := { s.cause.latches with frameLost := true } } }
  else s

/-- RUMBLE END's event (R175). -/
def latchRumbleEnd (s : State) : State :=
  if enabled .rumble s then
    { s with cause := { s.cause with latches := { s.cause.latches with rumbleEnd := true } } }
  else s

/-- MARKER t's event (R175). -/
def latchMarker (t : TrackNo) (s : State) : State :=
  if enabled .marker s then
    { s with cause := { s.cause with latches :=
      if t = 0 then { s.cause.latches with marker0 := true } else { s.cause.latches with marker1 := true } } }
  else s

/-- The latches with those of disabled classes cleared (R174). -/
def Latches.keep (l : Latches) (enables : BitVec 7) : Latches :=
  { fault := l.fault && enables.getLsbD CauseClass.fault.bit,
    frameLost := l.frameLost && enables.getLsbD CauseClass.frame.bit,
    rumbleEnd := l.rumbleEnd && enables.getLsbD CauseClass.rumble.bit,
    marker0 := l.marker0 && enables.getLsbD CauseClass.marker.bit,
    marker1 := l.marker1 && enables.getLsbD CauseClass.marker.bit }

/-- The causes (00_scope 1.9). -/
inductive Cause where
  | fault | frameLost | rumbleEnd
  | save (n : SlotNo)
  | cue (n : CueNo)
  | marker (t : TrackNo)
  | warn
  deriving DecidableEq, Repr

/-- The code of a cause (00_scope 1.9). -/
def Cause.code : Cause → Nat
  | .fault => 0x01
  | .frameLost => 0x02
  | .rumbleEnd => 0x03
  | .save n => 0x10 + n.val
  | .cue n => 0x20 + n.val
  | .marker t => 0x30 + t.val
  | .warn => 0x40

/-- The class of a cause (R174). -/
def Cause.cls : Cause → CauseClass
  | .fault => .fault
  | .frameLost => .frame
  | .rumbleEnd => .rumble
  | .save _ => .save
  | .cue _ => .cue
  | .marker _ => .marker
  | .warn => .warn

/-- What makes a cause pending: its latch, its record, or the monitor state (R176). -/
def Cause.raised (s : State) : Cause → Bool
  | .fault => s.cause.latches.fault
  | .frameLost => s.cause.latches.frameLost
  | .rumbleEnd => s.cause.latches.rumbleEnd
  | .save n => s.dir.slots[n].done
  | .cue n => s.cues[n].pending
  | .marker t => if t = 0 then s.cause.latches.marker0 else s.cause.latches.marker1
  | .warn => s.supply.monitor == .warn

/-- The cause is pending and enabled (R176). -/
def causePending (s : State) (c : Cause) : Bool := enabled c.cls s && c.raised s

/-- Every cause, lowest code first (R177). -/
def allCauses : List Cause :=
  [.fault, .frameLost, .rumbleEnd] ++ allSlots.map .save ++ allCues.map .cue ++ [.marker 0, .marker 1, .warn]

/-- The pending enabled cause with the lowest code (R177). -/
def firstCause (s : State) : Option Cause := allCauses.find? (causePending s)

/-- /CIRQ: `none` while it is not driven, otherwise whether it is pulled low (R176). -/
def cirq (s : State) : Option Bool := if powered s then some (firstCause s).isSome else none

/-- The release of a cause by a CAUSE read (R177). -/
def releaseCause (c : Cause) (s : State) : State :=
  match c with
  | .fault => { s with cause := { s.cause with latches := { s.cause.latches with fault := false } } }
  | .frameLost => { s with cause := { s.cause with latches := { s.cause.latches with frameLost := false } } }
  | .rumbleEnd => { s with cause := { s.cause with latches := { s.cause.latches with rumbleEnd := false } } }
  | .save n => setSlot n { s.dir.slots[n] with done := false } s
  | .cue n => setCue n { s.cues[n] with pending := false } s
  | .marker t => { s with cause := { s.cause with latches :=
      if t = 0 then { s.cause.latches with marker0 := false } else { s.cause.latches with marker1 := false } } }
  | .warn => s

/-- SAVE-BUSY: an entry is queued, an operation is in flight, or the sweep is not finished (R46). -/
def saveBusy (s : State) : Bool :=
  !s.engine.queue.isEmpty || s.engine.flight.isSome || decide (s.engine.sweep < 8)

/-- The status byte (R167). -/
def statusByte (s : State) : Byte :=
  byteOf (bitsOf
    [!s.cmd.reply.isEmpty, s.cmd.overrun, s.cause.flags != 0, saveBusy s, s.supply.monitor == .warn,
     (firstCause s).isSome, s.rumble.active.isSome, s.profile.fallback])

end Sys2Proof.Machine
end

