-- ==== Sys2Proof/Machine/Messages.lean ====
section
/-! DEFINITION. The command unit (ch. 10): when a message is taken and what leaves the command FIFO (R165), replies
(R166), and the messages that R165 itself refuses. -/

namespace Sys2Proof.Machine

/-- The reply statuses (00_scope 1.9). -/
inductive ReplyStatus where
  | ok | queued | badCheck | badLength | unknown | badArg | busy | wrongState | noBlock | locked | queueFull | future
  | noMotor | stalled
  deriving DecidableEq, Repr

/-- The code of a reply status (00_scope 1.9). -/
def ReplyStatus.code : ReplyStatus → Byte
  | .ok => 0x00 | .queued => 0x01 | .badCheck => 0x10 | .badLength => 0x11 | .unknown => 0x12 | .badArg => 0x13
  | .busy => 0x14 | .wrongState => 0x15 | .noBlock => 0x16 | .locked => 0x17 | .queueFull => 0x18 | .future => 0x19
  | .noMotor => 0x1A | .stalled => 0x1B

/-- A reply joins the reply FIFO whole (R166). -/
def reply (st : ReplyStatus) (payload : List Byte) (s : State) : State :=
  { s with cmd := { s.cmd with reply := s.cmd.reply ++ frame st.code payload } }

/-- A reply with no payload. -/
def answer (st : ReplyStatus) (s : State) : State := reply st [] s

/-- A message can be taken: the part is answered (R14), and the reply FIFO has 35 or more free bytes (R165). -/
def canTake (s : State) : Bool :=
  answered s && decide (s.cmd.reply.length + Config.replyRoom ≤ Config.fifoSize)

/-- The message stands at the head of the command FIFO; an empty FIFO takes it as the bytes the console writes back to
back before this step (DESIGN CHOICE, log 3). -/
def messageStands (msg : List Byte) (s : State) : Bool :=
  msg.isPrefixOf s.cmd.fifo || s.cmd.fifo.isEmpty

/-- The state with the message's bytes removed from the command FIFO, when it is taken (R165). -/
def takeMessage (msg : List Byte) (s : State) : Option State :=
  if canTake s && messageStands msg s then
    some { s with cmd := { s.cmd with fifo := s.cmd.fifo.drop msg.length } }
  else none

/-- The taking of a command's message (R165 case 5): its bytes leave the FIFO and the command is carried out in the
same step. Where the message is not taken, nothing happens (log 2). -/
def command (i : Instr) (s : State) (effect : State → State) : Host.Outcome State Fault Refusal :=
  match takeMessage (frameOf i) s with
  | none => .next s
  | some t => .next (effect t)

/-- What cases 1 to 4 of R165 answer to a framed message: the status, and whether BAD_FRAME is set; `none` for a
message that is a command's. -/
def refusalOf (msg : List Byte) : Option (ReplyStatus × Bool) :=
  match msg with
  | code :: len :: _ =>
    if 32 < len.toNat then some (.badLength, true)
    else if !checkPasses msg then some (.badCheck, true)
    else if !knownCode code then some (.unknown, false)
    else if !acceptsLength code len.toNat then some (.badLength, false)
    else none
  | _ => none

/-- A length byte above 32 (R165 case 1): the whole FIFO is flushed. -/
def overLong (msg : List Byte) : Bool :=
  match msg with
  | _ :: len :: _ => decide (32 < len.toNat)
  | _ => false

/-- MESSAGE_REFUSED (R165 cases 1 to 4): the bytes leave, the flag is set for the first two, the status is the reply. -/
def execMessageRefused (msg : List Byte) (s : State) : Host.Outcome State Fault Refusal :=
  match framed msg, refusalOf msg, takeMessage msg s with
  | true, some (st, badFrame), some t =>
    let t := if overLong msg then { t with cmd := { t.cmd with fifo := [] } } else t
    .next (answer st (setFaultIf badFrame .badFrame t))
  | _, _, _ => .next s

/-- The message at the head of the command FIFO that can be taken now (R165), as the command it is. -/
def standingMessage (s : State) : Option Instr :=
  if canTake s then
    match s.cmd.fifo with
    | code :: len :: rest =>
      if 32 < len.toNat then some (.messageRefused [code, len])
      else if len.toNat + 1 ≤ rest.length then
        let msg := s.cmd.fifo.take (3 + len.toNat)
        match refusalOf msg with
        | some _ => some (.messageRefused msg)
        | none => decodeMessage code (rest.take len.toNat)
      else none
    | _ => none
  else none

end Sys2Proof.Machine
end

