-- ==== Sys2Proof/Machine/Directory.lean ====
section
/-! DEFINITION. The slot directory (ch. 2): the free pool, out-of-profile slots, the save check, the slot view and the
landing write, protection, and the directory's commands SLOT INFO, SLOT PROTECT and POOL INFO. -/

namespace Sys2Proof.Machine

/-! ## Blocks and the free pool (R21, R25, R26) -/

/-- A block number placed in ascending order, once. -/
def insertSorted (b : Nat) : List Nat → List Nat
  | [] => [b]
  | c :: rest => if b < c then b :: c :: rest else if b = c then c :: rest else c :: insertSorted b rest

/-- A block returns to the pool; one beyond the block count in force does not join it (R26). -/
def returnBlock (b : Option Nat) (s : State) : State :=
  match b with
  | some b =>
    if b < s.profile.blocks then { s with dir := { s.dir with pool := insertSorted b s.dir.pool } } else s
  | none => s

/-- The block is the current or the working block of some slot. -/
def blockHeld (s : State) (b : Nat) : Bool :=
  allSlots.any fun n => s.dir.slots[n].current == some b || s.dir.slots[n].working == some b

/-- The block is inside the profile: below the block count in force (R21). -/
def insideProfile (s : State) (b : Nat) : Bool := decide (b < s.profile.blocks)

/-- The rebuilt pool: every block below the count that no slot holds (R27). -/
def rebuildPool (s : State) : State :=
  { s with dir := { s.dir with pool := (List.range s.profile.blocks).filter fun b => !blockHeld s b } }

/-- The pool brought to the block count in force (R64): members beyond it leave, and every block below it that no slot
holds joins. -/
def fitPool (s : State) : State :=
  { s with dir := { s.dir with pool :=
    (List.range s.profile.blocks).filter fun b => s.dir.pool.contains b || !blockHeld s b } }

/-- A VALID slot whose current block is not below the block count in force (R28). -/
def outOfProfile (s : State) (r : SlotRecord) : Bool :=
  r.state == .valid && (match r.current with
    | some b => !insideProfile s b
    | none => false)

/-! ## The save check (R29, R30) -/

/-- The weight of a position (R29). -/
def weight (pos : Nat) : Nat := Config.blockSize - pos

/-- A running check with the byte of one more position added (R54). -/
def Check.add (c : Check) (pos : Nat) (b : Byte) : Check :=
  { s1 := (c.s1 + b.toNat) % 251, s2 := (c.s2 + weight pos % 251 * b.toNat) % 251 }

/-- The check after the byte at a position changes from a to b (R30). -/
def Check.replace (c : Check) (pos : Nat) (a b : Byte) : Check :=
  let d : Int := (b.toNat : Int) - (a.toNat : Int)
  { s1 := (((c.s1 : Int) + d) % 251).toNat,
    s2 := (((c.s2 : Int) + (weight pos % 251 : Nat) * d) % 251).toNat }

/-- The check over the first n positions of a block, the others counting as zero (R29, R54). -/
def checkUpTo (s : State) (block : Nat) : Nat → Check
  | 0 => ⟨0, 0⟩
  | n + 1 => (checkUpTo s block n).add n (sramByte s block n)

/-- The save check of a block (R29). -/
def blockCheck (s : State) (block : Nat) : Check := checkUpTo s block Config.blockSize

/-! ## The slot view (R31 to R33) -/

/-- The block that the slot view reads, by the slot's state (R31). -/
def viewBlock (r : SlotRecord) : Option Nat :=
  match r.state with
  | .empty => none
  | .opening => r.current
  | .opened => r.working
  | .committing => r.working
  | .valid => r.current
  | .erasing => r.current

/-- The block that a view read takes its byte from: none where the table gives 0xFF, or the block lies outside the
profile (R28, R31). -/
def servedBlock (s : State) (n : SlotNo) : Option Nat := (viewBlock s.dir.slots[n]).filter (insideProfile s)

/-- The byte a view read at position p returns (R31). -/
def viewByte (s : State) (n : SlotNo) (p : Nat) : Byte :=
  match servedBlock s n with
  | some b => sramByte s b p
  | none => 0xFF

/-- A view read makes an SRAM read exactly when a block serves it (R22, R31). -/
def viewRead (n : SlotNo) (p : Nat) (s : State) : State :=
  match servedBlock s n with
  | some b => portRead false b p s
  | none => s

/-- The block that a write through a writable entry lands in: the working block of an OPEN slot (R32). -/
def landingBlock (s : State) (n : SlotNo) : Option Nat :=
  if s.dir.slots[n].state = .opened then s.dir.slots[n].working.filter (insideProfile s) else none

/-- A write that lands (R33): the old byte is read, the new one written, the working check updated by R30. -/
def landWrite (n : SlotNo) (p : Nat) (b : Byte) (s : State) : State :=
  match landingBlock s n with
  | some block =>
    let r := s.dir.slots[n]
    let old := sramByte s block p
    let s := portWrite false block p b (portRead false block p s)
    setSlot n { r with workCheck := r.workCheck.map fun c => c.replace p old b } s
  | none => s

/-! ## Protection (R37 to R40) -/

/-- The slot is in the protected set (R37). -/
def isProtected (p : Protect) (n : SlotNo) : Bool :=
  (match p.side with
    | .low => decide (n.val < p.count)
    | .high => decide (8 ≤ n.val + p.count)) != p.invert

/-- The protect window closes at an accepted OPEN, COMMIT, ABANDON or ERASE (R39). -/
def closeWindow (s : State) : State := { s with dir := { s.dir with windowOpen := false } }

/-- The protected set as a byte, slot n in bit n (R171). -/
def protectedByte (p : Protect) : Byte := byteOf (bitsOf (allSlots.map (isProtected p)))

/-! ## Commands -/

/-- SLOT INFO's 19 bytes (R41, R171). The bits of the presence and marks bytes are taken in the order R171 lists them,
from bit 0 (DEDUCED, log 17). -/
def slotInfoPayload (s : State) (n : SlotNo) : List Byte :=
  let r := s.dir.slots[n]
  let out := outOfProfile s r
  let stored := r.stored.getD ⟨0, 0⟩
  let work := r.workCheck.getD ⟨0, 0⟩
  let stamp := r.stamp.getD ⟨0, 0, false⟩
  [byteOf n.val, byteOf r.state.code,
   byteOf (bitsOf [r.current.isSome, r.working.isSome, r.stored.isSome, r.workCheck.isSome, r.stamp.isSome]),
   optByte r.current, optByte r.working, byteOf stored.s1, byteOf stored.s2, byteOf work.s1, byteOf work.s2] ++
  le2 r.generation ++ le2 stamp.day ++ le3 stamp.sec ++
  [flagByte stamp.doubt,
   byteOf (bitsOf [r.damaged || out, r.verifyPending, r.done, isProtected s.dir.protect n, out]),
   byteOf r.lastResult.code]

/-- SLOT INFO (R41). -/
def slotInfoEffect (slot : Byte) (s : State) : State :=
  match indexOf 8 slot with
  | some n => reply .ok (slotInfoPayload s n) s
  | none => answer .badArg s

/-- SLOT_INFO (R41). -/
def execSlotInfo (slot : Byte) (s : State) : Host.Outcome State Fault Refusal :=
  command (.slotInfo slot) s (slotInfoEffect slot)

/-- The protect setting that the fields of SLOT PROTECT give, if none is refused (R40). -/
def protectOf (count side invert : Byte) : Option Protect :=
  match decide (count.toNat ≤ 8), sideOf side, boolOf invert with
  | true, some sd, some inv => some ⟨count.toNat, sd, inv⟩
  | _, _, _ => none

/-- SLOT PROTECT (R40): arguments first, then the window. -/
def slotProtectEffect (count side invert : Byte) (s : State) : State :=
  match protectOf count side invert with
  | none => answer .badArg s
  | some p =>
    if s.dir.windowOpen then reply .ok [protectedByte p] { s with dir := { s.dir with protect := p } }
    else answer .locked s

/-- SLOT_PROTECT (R40). -/
def execSlotProtect (count side invert : Byte) (s : State) : Host.Outcome State Fault Refusal :=
  command (.slotProtect count side invert) s (slotProtectEffect count side invert)

/-- POOL INFO's payload (R42, R171). -/
def poolInfoPayload (s : State) : List Byte :=
  [byteOf s.profile.blocks, byteOf s.dir.pool.length, byteOf s.dir.protect.count, byteOf s.dir.protect.side.code,
   flagByte s.dir.protect.invert, flagByte s.dir.windowOpen] ++ s.dir.pool.map byteOf

/-- POOL_INFO (R42). -/
def execPoolInfo (s : State) : Host.Outcome State Fault Refusal :=
  command .poolInfo s fun s => reply .ok (poolInfoPayload s) s

end Sys2Proof.Machine
end

