-- ==== Sys2Proof/Machine/SlotBus.lean ====
section
/-! DEFINITION. The slot interface, the window map and the aperture (ch. 1, ch. 10, R177): console reads and writes,
the aperture's accesses, MAP SET, MAP GET, PROFILE, FAULTS, FAULT CLEAR, IRQ MASK. -/

namespace Sys2Proof.Machine

/-! ## Transactions (R1, R14) -/

/-- A read transaction ends with the byte it drives, or undriven. -/
def drive (addr : SlotAddr) (data : Option Byte) (s : State) : State :=
  { s with slot := { s.slot with last := some ⟨addr, false, data⟩ } }

/-- A write transaction with the byte the console put on D0-D7. -/
def accept (addr : SlotAddr) (data : Byte) (s : State) : State :=
  { s with slot := { s.slot with last := some ⟨addr, true, some data⟩ } }

/-- The address of an aperture offset (R162). -/
def apertureAddr (offset : Byte) : SlotAddr := BitVec.ofNat 20 (0xFFF00 + offset.toNat)

/-- A read by the conditions of R14: undriven in BATTERY, 0xFF in STARTING and under /CRST, otherwise resolved. -/
def readAs (addr : SlotAddr) (resolve : State → Byte × State) (s : State) : State :=
  if s.supply.monitor = .battery then drive addr none s
  else if answered s then
    let (b, t) := resolve s
    drive addr (some b) t
  else drive addr (some 0xFF) s

/-- A write by the conditions of R14: not taken, ignored, or resolved. -/
def writeAs (addr : SlotAddr) (data : Byte) (resolve : State → State) (s : State) : State :=
  if s.supply.monitor = .battery then s
  else if answered s then accept addr data (resolve s)
  else accept addr data s

/-! ## Refused accesses (R13) -/

/-- A refused console access: its flag, and the fault record overwritten whole (R13). -/
def refuseAccess (f : FaultFlag) (addr : SlotAddr) (isWrite : Bool) (reason : RefuseReason) (s : State) : State :=
  let s := setFault f s
  { s with cause := { s.cause with record := some ⟨addr.toNat / 65536, addr.toNat % 65536, isWrite, reason⟩ } }

/-! ## The aperture (R162, R163, R166, R167, R177) -/

/-- A CMD write (R163). -/
def pushCommandByte (data : Byte) (s : State) : State :=
  if s.cmd.fifo.length < Config.fifoSize then { s with cmd := { s.cmd with fifo := s.cmd.fifo ++ [data] } }
  else setFault .cmdOverrun { s with cmd := { s.cmd with overrun := true } }

/-- A CMD read: the free bytes of the command FIFO (R162). -/
def commandRoom (s : State) : Byte × State := (byteOf (Config.fifoSize - s.cmd.fifo.length), s)

/-- A REPLY read: the head byte leaves, or 0xFF (R166). -/
def popReply (s : State) : Byte × State :=
  match s.cmd.reply with
  | b :: rest => (b, { s with cmd := { s.cmd with reply := rest } })
  | [] => (0xFF, s)

/-- A STATUS read: the byte, then OVERRUN clears (R167). -/
def readStatus (s : State) : Byte × State :=
  (statusByte s, { s with cmd := { s.cmd with overrun := false } })

/-- A STATUS write: the command FIFO empties (R167). -/
def syncCommands (s : State) : State := { s with cmd := { s.cmd with fifo := [] } }

/-- A CAUSE read: the lowest pending enabled cause, released (R177). -/
def readCause (s : State) : Byte × State :=
  match firstCause s with
  | some c => (byteOf c.code, releaseCause c s)
  | none => (0, s)

/-- A read of the aperture by its offset (R162). -/
def apertureRead (offset : Nat) (s : State) : Byte × State :=
  match offset with
  | 0 => commandRoom s
  | 1 => popReply s
  | 2 => readStatus s
  | 3 => readCause s
  | _ => (0xFF, s)

/-- A write to the aperture by its offset (R162). -/
def apertureWrite (offset : Nat) (data : Byte) (s : State) : State :=
  match offset with
  | 0 => pushCommandByte data s
  | 2 => syncCommands s
  | _ => s

/-! ## Resolution through the map (R2, R7, R8, R10 to R12, R17) -/

/-- The strip of an address (chapter 1.2). -/
def stripOf (addr : SlotAddr) : Fin 16 := ⟨addr.toNat / 65536, by have := addr.isLt; omega⟩

/-- The offset of an address within its strip (chapter 1.2). -/
def offsetOf (addr : SlotAddr) : Nat := addr.toNat % 65536

/-- The slot that a SAVE_SLOT entry names (R3: its page lies in 0-7). -/
def slotOfPage (page : Nat) : SlotNo := ⟨page % 8, by omega⟩

/-- The port serves a console read at once: a fetch byte read in progress is abandoned and made again under the same
grant (R17). -/
def interruptFetch (s : State) : State :=
  { s with port := { s.port with grant := s.port.grant.map fun g => { g with reading := true } } }

/-- A read outside the aperture, by its entry's kind. -/
def mappedRead (addr : SlotAddr) (s : State) : Byte × State :=
  let e := s.map[stripOf addr]
  let off := offsetOf addr
  match e.kind with
  | .unmapped => (0xFF, s)
  | .rom => (romByte s (BitVec.ofNat 24 (e.page * 65536 + off)), interruptFetch s)
  | .saveSlot =>
    if off < Config.blockSize then (viewByte s (slotOfPage e.page) off, viewRead (slotOfPage e.page) off s)
    else (0xFF, refuseAccess .range addr false .beyondTarget s)
  | .saveRaw =>
    if insideProfile s (off / Config.blockSize) then
      (sramByte s (off / Config.blockSize) (off % Config.blockSize),
        portRead false (off / Config.blockSize) (off % Config.blockSize) s)
    else (0xFF, s)
  | .soundRam => (soundByte s off, s)

/-- A write outside the aperture, by its entry's kind. -/
def mappedWrite (addr : SlotAddr) (data : Byte) (s : State) : State :=
  let e := s.map[stripOf addr]
  let off := offsetOf addr
  match e.kind with
  | .unmapped => s
  | .rom => s
  | .saveSlot =>
    if Config.blockSize ≤ off then refuseAccess .range addr true .beyondTarget s
    else if s.dir.slots[slotOfPage e.page].state ≠ .opened then refuseAccess .refusedWrite addr true .slotNotOpen s
    else if e.writable then landWrite (slotOfPage e.page) off data s
    else refuseAccess .refusedWrite addr true .entryReadOnly s
  | .saveRaw => refuseAccess .refusedWrite addr true .rawView s
  | .soundRam =>
    if e.writable then { s with sound := writeMem soundUnlisted s.sound (off % 4096) data }
    else refuseAccess .refusedWrite addr true .entryReadOnly s

/-- The resolution order of R2 for a read: the aperture first, then the map. -/
def resolveRead (addr : SlotAddr) (s : State) : Byte × State :=
  if inAperture addr then apertureRead (addr.toNat - 0xFFF00) s else mappedRead addr s

/-- The resolution order of R2 for a write. -/
def resolveWrite (addr : SlotAddr) (data : Byte) (s : State) : State :=
  if inAperture addr then apertureWrite (addr.toNat - 0xFFF00) data s else mappedWrite addr data s

/-- CONSOLE_READ (R2). An aperture address is resolved as R162 states (log 22). -/
def execConsoleRead (addr : SlotAddr) (s : State) : Host.Outcome State Fault Refusal :=
  .next (readAs addr (resolveRead addr) s)

/-- CONSOLE_WRITE (R2). An aperture address is resolved as R162 states (log 22). -/
def execConsoleWrite (addr : SlotAddr) (data : Byte) (s : State) : Host.Outcome State Fault Refusal :=
  .next (writeAs addr data (resolveWrite addr data) s)

/-- CMD_WRITE (R163). -/
def execCmdWrite (data : Byte) (s : State) : Host.Outcome State Fault Refusal :=
  .next (writeAs (apertureAddr 0) data (pushCommandByte data) s)

/-- REPLY_READ (R166). -/
def execReplyRead (s : State) : Host.Outcome State Fault Refusal := .next (readAs (apertureAddr 1) popReply s)

/-- STATUS_READ (R167). -/
def execStatusRead (s : State) : Host.Outcome State Fault Refusal := .next (readAs (apertureAddr 2) readStatus s)

/-- SYNC (R167): whatever the byte written. -/
def execSync (data : Byte) (s : State) : Host.Outcome State Fault Refusal :=
  .next (writeAs (apertureAddr 2) data syncCommands s)

/-- CAUSE_READ (R177). -/
def execCauseRead (s : State) : Host.Outcome State Fault Refusal := .next (readAs (apertureAddr 3) readCause s)

/-- APERTURE_IGNORED_WRITE (R162): nothing but the transaction itself. An offset of CMD or STATUS is no such write, and
the row does nothing with it (log 2). -/
def execApertureIgnoredWrite (offset data : Byte) (s : State) : Host.Outcome State Fault Refusal :=
  if ignoresWrites offset then .next (writeAs (apertureAddr offset) data id s) else .next s

/-! ## MAP SET and MAP GET (R5, R6) -/

/-- A map entry that R3 allows under the profile. -/
def MapEntry.legal (pageCount : Nat) (e : MapEntry) : Bool :=
  match e.kind with
  | .unmapped => e.page == 0 && !e.writable
  | .rom => decide (e.page < pageCount) && !e.writable
  | .saveSlot => decide (e.page < 8)
  | .saveRaw => e.page == 0 && !e.writable
  | .soundRam => e.page == 0

/-- The strip and entry that MAP SET's fields give, none where R5 refuses them. -/
def mapSetFields (pageCount : Nat) (strip kind page writable : Byte) : Option (Fin 16 × MapEntry) :=
  match indexOf 16 strip, mapKindOf kind, boolOf writable with
  | some i, some k, some w =>
    let e : MapEntry := ⟨k, page.toNat, w⟩
    if e.legal pageCount then some (i, e) else none
  | _, _, _ => none

/-- MAP SET (R5). -/
def mapSetEffect (strip kind page writable : Byte) (s : State) : State :=
  match mapSetFields s.profile.pageCount strip kind page writable with
  | some (i, e) => answer .ok { s with map := s.map.set i.val e i.isLt }
  | none => answer .badArg s

/-- MAP_SET (R5). -/
def execMapSet (strip kind page writable : Byte) (s : State) : Host.Outcome State Fault Refusal :=
  command (.mapSet strip kind page writable) s (mapSetEffect strip kind page writable)

/-- MAP GET (R6). -/
def mapGetEffect (strip : Byte) (s : State) : State :=
  match indexOf 16 strip with
  | some i =>
    let e := s.map[i]
    reply .ok [strip, byteOf e.kind.code, byteOf e.page, flagByte e.writable] s
  | none => answer .badArg s

/-- MAP_GET (R6). -/
def execMapGet (strip : Byte) (s : State) : Host.Outcome State Fault Refusal :=
  command (.mapGet strip) s (mapGetEffect strip)

/-! ## PROFILE, FAULTS, FAULT CLEAR, IRQ MASK (R169, R173, R174) -/

/-- PROFILE's 8 bytes (R169), the straps' two unnamed bits 0 (DESIGN CHOICE, log 34). -/
def profilePayload (p : Profile) : List Byte :=
  [0x48, 1, byteOf p.romCode, byteOf p.blocks, flagByte p.motor, flagByte p.fallback, byteOf p.straps.toNat,
   byteOf p.lastReset.code]

/-- PROFILE (R169). -/
def execProfile (s : State) : Host.Outcome State Fault Refusal :=
  command .profile s fun s => reply .ok (profilePayload s.profile) s

/-- FAULTS' 8 bytes (R173, R171), the four unnamed bits behind the flags 0 (DESIGN CHOICE, log 34). -/
def faultsPayload (s : State) : List Byte :=
  le2 s.cause.flags.toNat ++
  (match s.cause.record with
    | some r => [1, byteOf r.strip] ++ le2 r.offset ++ [flagByte r.isWrite, byteOf r.reason.code]
    | none => [0, 0, 0, 0, 0, 0])

/-- FAULTS (R173). -/
def execFaults (s : State) : Host.Outcome State Fault Refusal :=
  command .faults s fun s => reply .ok (faultsPayload s) s

/-- FAULT CLEAR (R173). -/
def faultClearEffect (mask : Word16) (s : State) : State :=
  if mask.toNat < 4096 then
    answer .ok { s with cause := { s.cause with flags := s.cause.flags &&& ~~~(mask.setWidth 12) } }
  else answer .badArg s

/-- FAULT_CLEAR (R173). -/
def execFaultClear (mask : Word16) (s : State) : Host.Outcome State Fault Refusal :=
  command (.faultClear mask) s (faultClearEffect mask)

/-- IRQ MASK (R174): the enables are replaced, and a disabled class loses its latches. -/
def irqMaskEffect (mask : Byte) (s : State) : State :=
  if mask.toNat < 128 then
    answer .ok { s with cause := { s.cause with
      enables := mask.setWidth 7, latches := s.cause.latches.keep (mask.setWidth 7) } }
  else answer .badArg s

/-- IRQ_MASK (R174). -/
def execIrqMask (mask : Byte) (s : State) : Host.Outcome State Fault Refusal :=
  command (.irqMask mask) s (irqMaskEffect mask)

end Sys2Proof.Machine
end

