-- ==== Sys2Proof/Machine/Surge.lean ====
section
/-! DEFINITION. The surge grant (R59, R146, R161) and what happens at the moment it is given: the commit flip (R56), the
start of an erase fill (R57), the start of a kick (R146); and the erase flip (R57). -/

namespace Sys2Proof.Machine

/-- The slot record after a commit flip, at the calendar's time (R56). -/
def SlotRecord.committed (r : SlotRecord) (cal : Calendar) : SlotRecord :=
  { state := .valid, current := r.working, working := none, generation := (r.generation + 1) % 65536,
    stored := r.workCheck, workCheck := none, stamp := some ⟨cal.day, cal.sec, cal.doubt⟩, damaged := false,
    verifyPending := r.verifyPending, lastResult := .done, done := true }

/-- The commit flip (R56): one step on the record, and the former current block returns to the pool. -/
def commitFlip (n : SlotNo) (s : State) : State :=
  returnBlock s.dir.slots[n].current (setSlot n (s.dir.slots[n].committed s.cal) s)

/-- The slot record after an erase flip (R57). -/
def SlotRecord.erased (r : SlotRecord) : SlotRecord :=
  { r with state := .empty, current := none, stored := none, stamp := none, damaged := false, lastResult := .done,
           done := true }

/-- The erase flip (R57): one step on the record, and the erased block returns to the pool. -/
def eraseFlip (n : SlotNo) (s : State) : State :=
  returnBlock s.dir.slots[n].current (setSlot n s.dir.slots[n].erased s)

/-- Set the operation in flight. -/
def setFlight (f : Option Flight) (s : State) : State := { s with engine := { s.engine with flight := f } }

/-- Set the holder of the grant. -/
def setHolder (h : SurgeHolder) (s : State) : State := { s with supply := { s.supply with holder := h } }

/-- Set the kick state of the active request. -/
def setKick (k : Kick) (s : State) : State :=
  { s with rumble := { s.rumble with active := s.rumble.active.map fun a => { a with kick := k } } }

/-- The kicker is given the grant: KICKING with 3 kick ticks left (R146). -/
def giveKicker (s : State) : State :=
  setKick (.kicking 3) { s with supply := { s.supply with holder := .kicker, kickerReq := false } }

/-- A free grant goes to a standing kicker request in RUN (R161). -/
def offerKicker (s : State) : State :=
  if s.supply.kickerReq && s.supply.monitor == .run then giveKicker s else s

/-- The engine is given the grant (R59): a COMMIT flips and releases it in the same step (R56), an ERASE goes to FILL
and keeps it (R57). -/
def giveEngine (s : State) : State :=
  let s := { s with supply := { s.supply with engineReq := false } }
  match s.engine.flight with
  | some f =>
    match f.kind with
    | .commit => offerKicker (setHolder .none (commitFlip f.slot (setFlight none s)))
    | .erase => setHolder .engine (setFlight (some { f with stage := .fill }) s)
    | .open => s
    | .verify => s
  | none => s

/-- The holder releases the grant: an engine request first, then a kicker request in RUN (R161). -/
def releaseGrant (s : State) : State :=
  let s := setHolder .none s
  if s.supply.engineReq then giveEngine s else offerKicker s

/-- The engine requests the grant: given at once when free, otherwise standing (R161). -/
def engineRequest (s : State) : State :=
  if s.supply.holder = .none then giveEngine s else { s with supply := { s.supply with engineReq := true } }

/-- The kicker requests the grant: given at once when free, otherwise standing (R161). -/
def kickerRequest (s : State) : State :=
  if s.supply.holder = .none then giveKicker s else { s with supply := { s.supply with kickerReq := true } }

/-- A kick ends, or a waiting kick withdraws its request; a held grant is released at once (R139, R146, R147). -/
def endKick (s : State) : State :=
  match s.rumble.active with
  | some a =>
    match a.kick with
    | .none => s
    | .waiting => setKick .none { s with supply := { s.supply with kickerReq := false } }
    | .kicking _ =>
      if s.supply.holder = .kicker then releaseGrant (setKick .none s) else setKick .none s
  | none => s

end Sys2Proof.Machine
end

