-- ==== Sys2Proof/Machine/Engine.lean ====
section
/-! DEFINITION. The save engine (ch. 3): the five save commands, the queue, the byte accesses, the ends of operations,
the power-up sweep, and what FAIL, CONSOLE POWER-UP, RESET LINE and SOFT RESET do to saves. -/

namespace Sys2Proof.Machine

/-! ## The save commands (R47 to R51) -/

/-- An entry joins the tail of the queue (R52). -/
def enqueue (kind : OpKind) (n : SlotNo) (s : State) : State :=
  { s with engine := { s.engine with queue := s.engine.queue ++ [⟨kind, n⟩] } }

/-- The queue holds 4 entries (R52). -/
def queueFull (s : State) : Bool := decide (Config.saveQueueSize ≤ s.engine.queue.length)

/-- The first refusal of SLOT OPEN after the slot number (R47, order 2 to 7). -/
def openRefusal (n : SlotNo) (s : State) : Option ReplyStatus :=
  let r := s.dir.slots[n]
  if r.state ≠ .empty ∧ r.state ≠ .valid then some .wrongState
  else if outOfProfile s r then some .wrongState
  else if r.verifyPending then some .busy
  else if isProtected s.dir.protect n then some .locked
  else if queueFull s then some .queueFull
  else if s.dir.pool = [] then some .noBlock
  else none

/-- An accepted SLOT OPEN (R47): the lowest free block becomes the working block. -/
def acceptOpen (n : SlotNo) (s : State) : State :=
  let r := s.dir.slots[n]
  let s := setSlot n { r with state := .opening, working := s.dir.pool.head?, workCheck := some ⟨0, 0⟩ } s
  closeWindow (enqueue .open n { s with dir := { s.dir with pool := s.dir.pool.tail } })

/-- SLOT OPEN (R47). -/
def slotOpenEffect (slot : Byte) (s : State) : State :=
  match indexOf 8 slot with
  | none => answer .badArg s
  | some n =>
    match openRefusal n s with
    | some st => answer st s
    | none => answer .queued (acceptOpen n s)

/-- SLOT_OPEN (R47). -/
def execSlotOpen (slot : Byte) (s : State) : Host.Outcome State Fault Refusal :=
  command (.slotOpen slot) s (slotOpenEffect slot)

/-- SLOT COMMIT (R48). -/
def slotCommitEffect (slot : Byte) (s : State) : State :=
  match indexOf 8 slot with
  | none => answer .badArg s
  | some n =>
    let r := s.dir.slots[n]
    if r.state ≠ .opened then answer .wrongState s
    else if queueFull s then answer .queueFull s
    else answer .queued (closeWindow (enqueue .commit n (setSlot n { r with state := .committing } s)))

/-- SLOT_COMMIT (R48). -/
def execSlotCommit (slot : Byte) (s : State) : Host.Outcome State Fault Refusal :=
  command (.slotCommit slot) s (slotCommitEffect slot)

/-- The state a slot goes back to without its working block: VALID with a current block, EMPTY without (R49). -/
def SlotRecord.revertState (r : SlotRecord) : SlotState := if r.current.isSome then .valid else .empty

/-- The slot record without its working block (R49). -/
def SlotRecord.withoutWork (r : SlotRecord) : SlotRecord :=
  { r with state := r.revertState, working := none, workCheck := none }

/-- The working block returns to the pool and the record goes back to its committed contents (R49). -/
def dropWork (n : SlotNo) (s : State) : State :=
  returnBlock s.dir.slots[n].working (setSlot n s.dir.slots[n].withoutWork s)

/-- The operation in flight is an OPEN of the slot. -/
def opensSlot (n : SlotNo) (f : Flight) : Bool := f.kind == .open && f.slot == n

/-- An OPEN of the slot leaves the queue, the entries behind keeping their order, or ends in flight (R49). -/
def cancelOpen (n : SlotNo) (s : State) : State :=
  { s with engine := { s.engine with
    queue := s.engine.queue.filter fun e => !(e.kind == .open && e.slot == n),
    flight := s.engine.flight.filter fun f => !opensSlot n f } }

/-- SLOT ABANDON (R49). -/
def slotAbandonEffect (slot : Byte) (s : State) : State :=
  match indexOf 8 slot with
  | none => answer .badArg s
  | some n =>
    match s.dir.slots[n].state with
    | .committing => answer .busy s
    | .opening => answer .ok (closeWindow (dropWork n (cancelOpen n s)))
    | .opened => answer .ok (closeWindow (dropWork n (cancelOpen n s)))
    | .empty => answer .wrongState s
    | .valid => answer .wrongState s
    | .erasing => answer .wrongState s

/-- SLOT_ABANDON (R49). -/
def execSlotAbandon (slot : Byte) (s : State) : Host.Outcome State Fault Refusal :=
  command (.slotAbandon slot) s (slotAbandonEffect slot)

/-- The first refusal of SLOT ERASE after the slot number (R50, order 2 to 6). -/
def eraseRefusal (n : SlotNo) (s : State) : Option ReplyStatus :=
  let r := s.dir.slots[n]
  if r.state ≠ .valid then some .wrongState
  else if outOfProfile s r then some .wrongState
  else if r.verifyPending then some .busy
  else if isProtected s.dir.protect n then some .locked
  else if queueFull s then some .queueFull
  else none

/-- SLOT ERASE (R50). -/
def slotEraseEffect (slot : Byte) (s : State) : State :=
  match indexOf 8 slot with
  | none => answer .badArg s
  | some n =>
    match eraseRefusal n s with
    | some st => answer st s
    | none =>
      answer .queued (closeWindow (enqueue .erase n (setSlot n { s.dir.slots[n] with state := .erasing } s)))

/-- SLOT_ERASE (R50). -/
def execSlotErase (slot : Byte) (s : State) : Host.Outcome State Fault Refusal :=
  command (.slotErase slot) s (slotEraseEffect slot)

/-- The first refusal of SLOT VERIFY after the slot number (R51, order 2 to 5). -/
def verifyRefusal (n : SlotNo) (s : State) : Option ReplyStatus :=
  let r := s.dir.slots[n]
  if r.state ≠ .valid then some .wrongState
  else if outOfProfile s r then some .wrongState
  else if r.verifyPending then some .busy
  else if queueFull s then some .queueFull
  else none

/-- SLOT VERIFY (R51); it leaves the protect window as it is (R39). -/
def slotVerifyEffect (slot : Byte) (s : State) : State :=
  match indexOf 8 slot with
  | none => answer .badArg s
  | some n =>
    match verifyRefusal n s with
    | some st => answer st s
    | none => answer .queued (enqueue .verify n (setSlot n { s.dir.slots[n] with verifyPending := true } s))

/-- SLOT_VERIFY (R51). -/
def execSlotVerify (slot : Byte) (s : State) : Host.Outcome State Fault Refusal :=
  command (.slotVerify slot) s (slotVerifyEffect slot)

/-! ## Starting an operation (R45) -/

/-- The first stage of an operation (R45): an OPEN copies when the slot had a prior commit and fills when not. -/
def firstStage (kind : OpKind) (r : SlotRecord) : Stage :=
  match kind with
  | .open => if r.current.isSome then .copy else .fill
  | .commit => .grantWait
  | .erase => .grantWait
  | .verify => .scan

/-- The entry becomes the operation in flight at position 0 with check 0, 0; a COMMIT or an ERASE requests the surge
grant on entering GRANT WAIT (R45, R59). -/
def startEntry (e : QueueEntry) (s : State) : State :=
  let f : Flight := ⟨e.kind, e.slot, firstStage e.kind s.dir.slots[e.slot], 0, ⟨0, 0⟩, false⟩
  let s := setFlight (some f) s
  if f.stage = .grantWait then engineRequest s else s

/-- The engine may start something: RUN or WARN, /CRST released, no operation in flight (R45). -/
def engineIdle (s : State) : Bool := answered s && s.engine.flight.isNone

/-- ENGINE_START (R45): an idle engine removes the oldest entry and starts it. -/
def execEngineStart (s : State) : Host.Outcome State Fault Refusal :=
  if engineIdle s then
    match s.engine.queue with
    | e :: rest => .next (startEntry e { s with engine := { s.engine with queue := rest } })
    | [] => .next s
  else .next s

/-! ## The byte accesses (R53, R54, R57, R58) -/

/-- The byte of a block that the engine reads; a block beyond the profile gives 0xFF and no access (R21). -/
def engineByte (block : Option Nat) (pos : Nat) (s : State) : Byte :=
  match block.filter (insideProfile s) with
  | some b => sramByte s b pos
  | none => 0xFF

/-- The engine's read of one byte (R53). -/
def engineRead (block : Option Nat) (pos : Nat) (s : State) : State :=
  match block.filter (insideProfile s) with
  | some b => portRead true b pos s
  | none => s

/-- The engine's write of one byte; none to a block beyond the profile (R21). -/
def engineWrite (block : Option Nat) (pos : Nat) (b : Byte) (s : State) : State :=
  match block.filter (insideProfile s) with
  | some blk => portWrite true blk pos b s
  | none => s

/-- One position of an OPEN (R54): the byte is written, added to the running check, and the slot's working check holds
the running check. -/
def openByte (f : Flight) (b : Byte) (s : State) : State :=
  let c := f.check.add f.position b
  let s := engineWrite s.dir.slots[f.slot].working f.position b s
  let s := setSlot f.slot { s.dir.slots[f.slot] with workCheck := some c } s
  setFlight (some { f with position := f.position + 1, check := c }) s

/-- One position of an ERASE's FILL (R57). At a block beyond the profile the FILL ends without an access (R64); after
position 4095 the stage becomes FLIP. -/
def eraseByte (f : Flight) (s : State) : State :=
  match s.dir.slots[f.slot].current.filter (insideProfile s) with
  | none => setFlight (some { f with stage := .flip }) s
  | some blk =>
    let next := f.position + 1
    setFlight (some { f with position := next, stage := if next = Config.blockSize then .flip else .fill })
      (portWrite true blk f.position 0xFF s)

/-- One position of a SCAN (R58). -/
def scanByte (f : Flight) (s : State) : State :=
  let cur := s.dir.slots[f.slot].current
  let b := engineByte cur f.position s
  setFlight (some { f with position := f.position + 1, check := f.check.add f.position b })
    (engineRead cur f.position s)

/-- The access of one position, by the operation's stage (R53). -/
def accessByte (f : Flight) (s : State) : State :=
  match f.kind, f.stage with
  | .open, .copy =>
    let cur := s.dir.slots[f.slot].current
    openByte f (engineByte cur f.position s) (engineRead cur f.position s)
  | .open, .fill => openByte f 0xFF s
  | .erase, .fill => eraseByte f s
  | .verify, .scan => scanByte f s
  | _, _ => s

/-- ENGINE_BYTE_ACCESS (R53): the next position of a COPY, FILL or SCAN. An ERASE in flight goes on while /CRST is held
(R63). -/
def execEngineByteAccess (s : State) : Host.Outcome State Fault Refusal :=
  match s.engine.flight with
  | some f => if powered s && decide (f.position < Config.blockSize) then .next (accessByte f s) else .next s
  | none => .next s

/-! ## The ends of operations (R55, R57, R58, R62) -/

/-- The damaged mark and the DAMAGED flag at a disagreement (R34). -/
def markDamage (differs : Bool) (n : SlotNo) (s : State) : State :=
  if differs then setFault .damaged (setSlot n { s.dir.slots[n] with damaged := true } s) else s

/-- The running check differs from the stored check of the slot. -/
def checkDiffers (f : Flight) (s : State) : Bool := s.dir.slots[f.slot].stored != some f.check

/-- The operation in flight has worked through every position. -/
def scannedAll (f : Flight) : Bool := decide (Config.blockSize ≤ f.position)

/-- The end of an OPEN (R55). -/
def openEnd (f : Flight) (s : State) : State :=
  let bad := f.stage == .copy && checkDiffers f s
  let s := markDamage bad f.slot s
  let r := s.dir.slots[f.slot]
  setFlight none (setSlot f.slot
    { r with state := .opened, workCheck := some f.check, lastResult := if bad then .damaged else .done,
             done := true } s)

/-- OPEN_END (R55). -/
def execOpenEnd (s : State) : Host.Outcome State Fault Refusal :=
  match s.engine.flight with
  | some f => if powered s && f.kind == .open && scannedAll f then .next (openEnd f s) else .next s
  | none => .next s

/-- An ERASE whose fill has ended: its stage is FLIP, or it fills a block beyond the profile (R57). -/
def eraseReady (f : Flight) (s : State) : Bool :=
  f.kind == .erase &&
    (f.stage == .flip || (f.stage == .fill && (s.dir.slots[f.slot].current.filter (insideProfile s)).isNone))

/-- The end of an ERASE (R57): the flip, then the grant is released and the engine is idle. -/
def eraseEnd (f : Flight) (s : State) : State := releaseGrant (setFlight none (eraseFlip f.slot s))

/-- ERASE_FLIP (R57). -/
def execEraseFlip (s : State) : Host.Outcome State Fault Refusal :=
  match s.engine.flight with
  | some f => if powered s && eraseReady f s then .next (eraseEnd f s) else .next s
  | none => .next s

/-- The end of a VERIFY (R58). -/
def verifyEnd (f : Flight) (s : State) : State :=
  let bad := checkDiffers f s
  let s := markDamage bad f.slot s
  let r := s.dir.slots[f.slot]
  setFlight none (setSlot f.slot
    { r with verifyPending := false, lastResult := if bad then .damaged else .done, done := true } s)

/-- VERIFY_END (R58). -/
def execVerifyEnd (s : State) : Host.Outcome State Fault Refusal :=
  match s.engine.flight with
  | some f =>
    if powered s && f.kind == .verify && !f.bySweep && scannedAll f then .next (verifyEnd f s) else .next s
  | none => .next s

/-- A VALID slot within the profile is scanned by the sweep; any other is passed over (R62). -/
def sweepScans (n : SlotNo) (s : State) : Bool :=
  s.dir.slots[n].state == .valid && !outOfProfile s s.dir.slots[n]

/-- The sweep position advances (R62). -/
def advanceSweep (s : State) : State := { s with engine := { s.engine with sweep := s.engine.sweep + 1 } }

/-- The sweep has a step to make: idle engine, empty queue, position below 8 (R62). -/
def sweepDue (s : State) : Bool := engineIdle s && s.engine.queue.isEmpty && decide (s.engine.sweep < 8)

/-- SWEEP_STEP (R62). -/
def execSweepStep (s : State) : Host.Outcome State Fault Refusal :=
  if h : s.engine.sweep < 8 then
    if sweepDue s then
      let n : SlotNo := ⟨s.engine.sweep, h⟩
      if sweepScans n s then .next (setFlight (some ⟨.verify, n, .scan, 0, ⟨0, 0⟩, true⟩) s)
      else .next (advanceSweep s)
    else .next s
  else .next s

/-- The end of a sweep scan (R62): the marks at a disagreement, nothing else of the record. -/
def sweepEnd (f : Flight) (s : State) : State :=
  advanceSweep (setFlight none (markDamage (checkDiffers f s) f.slot s))

/-- SWEEP_SCAN_END (R62). -/
def execSweepScanEnd (s : State) : Host.Outcome State Fault Refusal :=
  match s.engine.flight with
  | some f =>
    if powered s && f.kind == .verify && f.bySweep && scannedAll f then .next (sweepEnd f s) else .next s
  | none => .next s

/-! ## RESET LINE and SOFT RESET (R63) -/

/-- Every slot record changed by a function of its number. -/
def mapSlots (f : SlotNo → SlotRecord → SlotRecord) (s : State) : State :=
  { s with dir := { s.dir with slots := tabulate fun n => f n s.dir.slots[n] } }

/-- The operation in flight goes on through a reset: a COMMIT or an ERASE (R63). -/
def survivesReset (f : Flight) : Bool := f.kind == .commit || f.kind == .erase

/-- A VERIFY of the slot stands in the queue or, made by a command, in flight. -/
def verifyStands (s : State) (n : SlotNo) : Bool :=
  s.engine.queue.any (fun e => e.kind == .verify && e.slot == n) ||
    (match s.engine.flight with
      | some f => f.kind == .verify && !f.bySweep && f.slot == n
      | none => false)

/-- An ERASE of the slot stands in the queue. -/
def eraseQueued (s : State) (n : SlotNo) : Bool :=
  s.engine.queue.any fun e => e.kind == .erase && e.slot == n

/-- The slot is unsaved: OPENING, OPEN or COMMITTING (R61, R63). -/
def SlotRecord.unsaved (r : SlotRecord) : Bool :=
  r.state == .opening || r.state == .opened || r.state == .committing

/-- The slot's COMMIT is in flight. -/
def commitFlies (s : State) (n : SlotNo) : Bool :=
  match s.engine.flight with
  | some f => f.kind == .commit && f.slot == n
  | none => false

/-- A record that a reset reverts: last result REVERTED, done flag set (R61, R63). -/
def SlotRecord.reverted (r : SlotRecord) : SlotRecord :=
  { r.withoutWork with lastResult := .reverted, done := true }

/-- The slot record after RESET LINE or SOFT RESET (R63): a discarded VERIFY clears its mark, a discarded ERASE goes
back to VALID, an unsaved slot reverts unless its COMMIT is in flight. -/
def resetRecord (s : State) (n : SlotNo) (r : SlotRecord) : SlotRecord :=
  let r := if verifyStands s n then { r with verifyPending := false } else r
  let r := if eraseQueued s n && r.state == .erasing then { r with state := .valid } else r
  if r.unsaved && !commitFlies s n then r.reverted else r

/-- The working blocks of the slots that revert return to the pool (R63). -/
def returnReverted (old : State) (s : State) : State :=
  allSlots.foldl (fun s n =>
    if old.dir.slots[n].unsaved && !commitFlies old n then returnBlock old.dir.slots[n].working s else s) s

/-- What RESET LINE and SOFT RESET do to the save engine and the directory (R63, R39): the window opens. -/
def engineReset (s : State) : State :=
  let t := returnReverted s (mapSlots (resetRecord s) s)
  { t with engine := { queue := [], flight := t.engine.flight.filter survivesReset, sweep := 8 },
           dir := { t.dir with windowOpen := true } }

/-! ## FAIL (R60) -/

/-- A flip in progress completes on hold-up power (R60, R157). -/
def completeFlip (s : State) : State :=
  match s.engine.flight with
  | some f => if f.kind = .erase ∧ f.stage = .flip then setFlight none (eraseFlip f.slot s) else s
  | none => s

/-- The record after FAIL (R60): a discarded VERIFY clears its mark; the volatile fields are lost. -/
def failRecord (s : State) (n : SlotNo) (r : SlotRecord) : SlotRecord :=
  { r with verifyPending := r.verifyPending && !verifyStands s n, lastResult := .none, done := false }

/-- What FAIL does to the save engine and the directory (R60): everything volatile is lost, the records stay. -/
def engineFail (s : State) : State :=
  let s := completeFlip s
  let t := mapSlots (failRecord s) s
  { t with engine := .off, dir := { t.dir with pool := [], windowOpen := false } }

/-! ## CONSOLE POWER-UP (R44, R61) -/

/-- The record after recovery (R61). -/
def recoverRecord (r : SlotRecord) : SlotRecord :=
  let r := { r with lastResult := .none, done := false }
  match r.state with
  | .empty => r
  | .valid => r
  | .opening => r.reverted
  | .opened => r.reverted
  | .committing => r.reverted
  | .erasing => { r with state := .empty, current := none, stored := none, stamp := none, damaged := false }

/-- Recovery, the rebuilt pool, the open window, the sweep at 0 (R27, R39, R61, R65). -/
def enginePowerUp (s : State) : State :=
  let s := rebuildPool (mapSlots (fun _ => recoverRecord) s)
  { s with engine := { queue := [], flight := none, sweep := 0 }, dir := { s.dir with windowOpen := true } }

end Sys2Proof.Machine
end

