-- ==== Sys2Proof/Machine/RomPort.lean ====
section
/-! DEFINITION. The ROM port as arbiter (ch. 1.11): who stands in request (R16), whom an idle port grants (R18), and the
events that end a grant (R16, R20). The delivery of a byte is in Machine/Sequencer.lean, where an event can be acted on. -/

namespace Sys2Proof.Machine

/-- The grant ends at once when this requester holds it; a byte read in progress is abandoned (R16). -/
def endGrant (h : Holder) (s : State) : State :=
  { s with port := { s.port with grant := s.port.grant.filter fun g => !(g.holder == h) } }

/-- A track's partly fetched event is discarded, and its grant ends (R16, R123). -/
def flushFetch (t : TrackNo) (s : State) : State :=
  endGrant (.track t) { s with port := { s.port with partials := s.port.partials.set t.val [] t.isLt } }

/-- A voice stands in request: it plays a STREAM note, has a further byte to fetch, and holds 8 bytes or fewer (R16). -/
def voiceRequests (s : State) (v : VoiceNo) : Bool :=
  let r := s.voices[v]
  r.phase != .idle && r.snapshot.mode == .stream && decide (r.fetch < r.snapshot.length) &&
    decide (r.buffer.length ≤ 8)

/-- The kinds 0x01-0x09 go on; END and the unknown kinds stop the fetching (R123). -/
def Event.goesOn (e : Event) : Bool := decide (1 ≤ e.kind.toNat) && decide (e.kind.toNat ≤ 9)

/-- A track stands in request: RUNNING or WAITING, an event to fetch, fewer than 4 complete events (R16, R123). -/
def trackRequests (s : State) (t : TrackNo) : Bool :=
  let r := s.tracks[t]
  r.state != .stopped && r.buffer.all Event.goesOn && decide (r.buffer.length < Config.eventBufferSize)

/-- The first of the requesters with the smallest count; earlier wins a tie (R18). -/
def fewest {α : Type} (count : α → Nat) : List α → Option α
  | [] => none
  | a :: rest =>
    match fewest count rest with
    | some b => if count b < count a then some b else some a
    | none => some a

/-- Whom an idle port grants (R18): the voice with the fewest buffered bytes, or else the track with the fewest
complete events. -/
def nextHolder (s : State) : Option Holder :=
  match fewest (fun v => s.voices[v].buffer.length) (allVoices.filter (voiceRequests s)) with
  | some v => some (.voice v)
  | none => (fewest (fun t => s.tracks[t].buffer.length) (allTracks.filter (trackRequests s))).map .track

/-- The port may arbitrate: answered (R20: idle in BATTERY, STARTING and under /CRST) and not granted (R18). -/
def portIdle (s : State) : Bool := answered s && s.port.grant.isNone

/-- ROM_ARBITRATION (R18): the grant starts with its first byte read (DESIGN CHOICE, log 31). -/
def execRomArbitration (s : State) : Host.Outcome State Fault Refusal :=
  if portIdle s then
    match nextHolder s with
    | some h => .next { s with port := { s.port with grant := some ⟨h, 0, true⟩ } }
    | none => .next s
  else .next s

end Sys2Proof.Machine
end

