-- ==== Sys2Proof/Machine/Voices.lean ====
section
/-! DEFINITION. Voices and mixer (ch. 6): instrument records, ownership, note-on, envelope, samples, the mix, cue notes
and the voice commands. -/

namespace Sys2Proof.Machine

/-! ## Instrument records (R97, R98) -/

/-- The fields taken from the 16 bytes of a record, `none` for an invalid record (R97, R98). -/
def takeRecord (b : Nat → Byte) : Option Snapshot :=
  let length := nat2 (b 5) (b 6)
  match modeOf (b 0) with
  | none => none
  | some mode =>
    if mode = .stream ∧ length = 0 then none
    else some
      { mode := mode, wave := min (b 1).toNat 15, start := romAddr (b 2) (b 3) (b 4), length := length,
        loop := min (nat2 (b 7) (b 8)) length, attack := min (b 9).toNat 127, decay := min (b 10).toNat 127,
        sustain := min (b 11).toNat 127, release := min (b 12).toNat 127 }

/-- The instrument record n of sound RAM, as taken at note-on (R96, R97). -/
def instrumentOf (s : State) (n : Nat) : Option Snapshot := takeRecord fun i => soundByte s (0x200 + 16 * n + i)

/-! ## Ownership (R100, R101) -/

/-- The owner that a home gives (R100). -/
def ownerOfHome : Option TrackNo → Owner
  | some t => .track t
  | none => .none

/-- The voice reaches IDLE (R105). -/
def Voice.toIdle (v : Voice) : Voice :=
  { v with phase := .idle, env := 0, buffer := [], hold := none, owner := ownerOfHome v.home }

/-- The home is set to a track (R101). -/
def Voice.homed (v : Voice) (t : TrackNo) : Voice :=
  { v with home := some t, owner := if v.owner = .none then .track t else v.owner }

/-- The home is cleared (R101). -/
def Voice.unhomed (v : Voice) : Voice :=
  { v with home := none, owner := if v.owner = ownerOfHome v.home then .none else v.owner }

/-! ## Note-on, release, stop (R103, R105) -/

/-- The LFSR at note-on (R103). -/
def firstLfsr (mode : Mode) (old : Nat) : Nat :=
  match mode with
  | .noiseLong => 32767
  | .noiseShort => 127
  | .wave => old
  | .stream => old

/-- A note-on from a valid record (R103), before the owner and the hold. -/
def Voice.noteOn (v : Voice) (n : Nat) (snap : Snapshot) (increment volume : Nat) : Voice :=
  { v with snapshot := snap, noteInstrument := n, increment := increment, volume := volume, acc := 0, position := 0,
           fraction := 0, fetch := 0, buffer := [], primed := false, lfsr := firstLfsr snap.mode v.lfsr, last := 0,
           env := if 0 < snap.attack then 0 else 127, phase := if 0 < snap.attack then .attack else .decay,
           hold := none }

/-- A release request (R105). -/
def Voice.releaseRequest (v : Voice) : Voice :=
  match v.phase with
  | .idle => v
  | .release => v
  | _ => if v.snapshot.release = 0 then v.toIdle else { v with phase := .release }

/-- A stop request (R105); of an IDLE voice it changes nothing (R113). -/
def Voice.stopRequest (v : Voice) : Voice := if v.phase = .idle then v else v.toIdle

/-- The voice record is replaced; at IDLE the grant it holds ends (R16, R105). -/
def putVoice (n : VoiceNo) (v : Voice) (s : State) : State :=
  if v.phase = .idle then endGrant (.voice n) (setVoice n v s) else setVoice n v s

/-- A note-on (R103) with what its requester makes of the owner and the hold; `none` for an invalid record (R98). The
emptied buffer ends a grant the voice holds (R16). -/
def startNote (n : VoiceNo) (instrument increment volume : Nat) (own : Voice → Voice) (s : State) : Option State :=
  match instrumentOf s instrument with
  | none => none
  | some snap =>
    some (endGrant (.voice n) (setVoice n (own (s.voices[n].noteOn instrument snap increment volume)) s))

/-- A release request to a voice (R105). -/
def releaseVoice (n : VoiceNo) (s : State) : State := putVoice n s.voices[n].releaseRequest s

/-- A stop request to a voice (R105). -/
def stopVoice (n : VoiceNo) (s : State) : State := putVoice n s.voices[n].stopRequest s

/-! ## Envelope (R104) -/

/-- One envelope step (R104). -/
def Voice.envelope (v : Voice) : Voice :=
  let p := v.snapshot
  match v.phase with
  | .idle => v
  | .attack =>
    if 127 ≤ v.env + p.attack then { v with env := 127, phase := .decay } else { v with env := v.env + p.attack }
  | .decay =>
    if p.decay = 0 then { v with phase := .sustain }
    else if v.env ≤ p.sustain + p.decay then { v with env := p.sustain, phase := .sustain }
    else { v with env := v.env - p.decay }
  | .sustain => v
  | .release => if v.env ≤ p.release then v.toIdle else { v with env := v.env - p.release }

/-- The envelope tick of every voice (R104). -/
def envelopeAll (s : State) : State := allVoices.foldl (fun s n => putVoice n s.voices[n].envelope s) s

/-- ENVELOPE_TICK (R104). -/
def execEnvelopeTick (s : State) : Host.Outcome State Fault Refusal :=
  if ticking s then .next (envelopeAll s) else .next s

/-! ## Samples (R106, R107, R109) -/

/-- What a voice gives at a sample clock: its sample, its next record, and whether it underran (R107). -/
structure Sampled where
  x : Int
  voice : Voice
  underrun : Bool
  deriving DecidableEq, Repr

/-- A WAVE voice (R106). -/
def Voice.sampleWave (v : Voice) (sound : Nat → Byte) : Sampled :=
  let x := sampleOf (sound (32 * v.snapshot.wave + v.acc / 4096))
  ⟨x, { v with last := x, acc := (v.acc + v.increment) % 131072 }, false⟩

/-- One step of the LFSR (R109). -/
def lfsrStep (mode : Mode) (l : Nat) : Nat :=
  let f := if l % 2 = (l / 2) % 2 then 0 else 1
  l / 2 + (if mode = .noiseShort then 64 else 16384) * f

/-- The LFSR stepped c times. -/
def lfsrSteps (mode : Mode) : Nat → Nat → Nat
  | 0, l => l
  | c + 1, l => lfsrSteps mode c (lfsrStep mode l)

/-- A NOISE voice (R109). -/
def Voice.sampleNoise (v : Voice) : Sampled :=
  let x : Int := if v.lfsr % 2 = 1 then 127 else -128
  let sum := v.acc % 4096 + v.increment
  ⟨x, { v with last := x, acc := sum % 4096, lfsr := lfsrSteps v.snapshot.mode (sum / 4096) v.lfsr }, false⟩

/-- The bytes a STREAM voice needs at a sample (R107 step 2). -/
def Voice.streamNeed (v : Voice) (k : Nat) : Nat :=
  if v.snapshot.loop = 0 then min (max 1 k) (v.snapshot.length - v.position) else max 1 k

/-- The stream position with the loop length taken away until it is below the length (R107 step 4). -/
def loopBack (snap : Snapshot) (position : Nat) : Nat :=
  if position < snap.length then position
  else snap.length - snap.loop + (position - snap.length) % snap.loop

/-- The advance of a STREAM voice by k bytes (R107 steps 3 and 4). Where a stream without loop ends, the position keeps
the whole sum, which can lie above the 0-65534 of R99 (DESIGN CHOICE, log 32). -/
def Voice.streamAdvance (v : Voice) (k : Nat) (x : Int) : Voice :=
  let position := v.position + k
  let w := { v with last := x, buffer := v.buffer.drop (min k v.buffer.length),
                    fraction := (v.fraction + v.increment) % 4096, position := position }
  if v.snapshot.length ≤ position then
    if v.snapshot.loop = 0 then w.toIdle else { w with position := loopBack v.snapshot position }
  else w

/-- A STREAM voice (R107). -/
def Voice.sampleStream (v : Voice) : Sampled :=
  let k := (v.fraction + v.increment) / 4096
  if !v.primed then ⟨v.last, v, false⟩
  else if v.buffer.length < v.streamNeed k then ⟨v.last, v, true⟩
  else
    let x := sampleOf (v.buffer.headD 0)
    ⟨x, v.streamAdvance k x, false⟩

/-- A voice at a sample clock (chapter 6.8). An IDLE voice gives no sample. -/
def Voice.sample (v : Voice) (sound : Nat → Byte) : Sampled :=
  if v.phase = .idle then ⟨0, v, false⟩
  else
    match v.snapshot.mode with
    | .wave => v.sampleWave sound
    | .stream => v.sampleStream
    | .noiseLong => v.sampleNoise
    | .noiseShort => v.sampleNoise

/-! ## The mix (R116, R117) -/

/-- A voice's y: floor(x × E × V ÷ 128), 0 for an IDLE voice (R116 step 1). -/
def Voice.contribution (v : Voice) (x : Int) : Int :=
  if v.phase = .idle then 0 else x * v.env * v.volume / 128

/-- The sum of y over the six voices (R116 step 2). -/
def mixSum (s : State) : Int :=
  allVoices.foldl (fun sum n => sum + s.voices[n].contribution (s.voices[n].sample (soundByte s)).x) 0

/-- floor(sum × M ÷ 64) (R116 step 3). -/
def mixScale (sum : Int) (m : Nat) : Int := sum * m / 64

/-- The clamp of R116 step 4. -/
def mixClamp (z : Int) : Int := if z < -512 then -512 else if 511 < z then 511 else z

/-- The clamp applies (R116 step 4). -/
def clips (z : Int) : Bool := decide (z < -512) || decide (511 < z)

/-- The DAC code (R116 step 5). -/
def dacCode (z : Int) : Nat := (mixClamp z + 512).toNat

/-- One voice gives its sample and advances; an underrun sets UNDERRUN (R107). -/
def advanceVoice (s : State) (n : VoiceNo) : State :=
  let r := s.voices[n].sample (soundByte s)
  setFaultIf r.underrun .underrun (putVoice n r.voice s)

/-- The sample clock of the voices and the mixer (R106 to R109, R116). -/
def sampleVoices (s : State) : State :=
  let z := mixScale (mixSum s) s.mixer.master
  let t := allVoices.foldl advanceVoice s
  setFaultIf (clips z) .clip { t with mixer := { t.mixer with dac := some (dacCode z) } }

/-! ## Cue notes (R92, R110) -/

/-- A cue note on voice 5 (R92, R103): an invalid record drops it without a fault (R98). -/
def cueNote (a : CueSound) (s : State) : State :=
  (startNote 5 a.instrument a.increment a.volume (fun v => { v with owner := .cue, hold := some a.hold }) s).getD s

/-- The cue hold counter runs: present, with the phase ATTACK, DECAY or SUSTAIN (R110). -/
def Voice.holdRuns (v : Voice) : Bool := v.phase == .attack || v.phase == .decay || v.phase == .sustain

/-- The rumble tick of voice 5's cue hold counter (R110). -/
def holdTick (s : State) : State :=
  let v := s.voices[(5 : VoiceNo)]
  match v.hold with
  | some h =>
    if v.holdRuns then
      if h ≤ 1 then putVoice 5 { v with hold := none }.releaseRequest s
      else setVoice 5 { v with hold := some (h - 1) } s
    else s
  | none => s

/-! ## Commands (R111 to R115) -/

/-- VOICE PLAY (R111). -/
def voicePlayEffect (voice instrument : Byte) (increment : Word16) (volume : Byte) (s : State) : State :=
  match indexOf 6 voice with
  | none => answer .badArg s
  | some n =>
    if 15 < instrument.toNat ∨ 15 < volume.toNat then answer .badArg s
    else if s.voices[n].owner = .cue then answer .busy s
    else
      match startNote n instrument.toNat increment.toNat volume.toNat (fun v => { v with owner := .console }) s with
      | none => answer .badArg s
      | some t => answer .ok t

/-- VOICE_PLAY (R111). -/
def execVoicePlay (voice instrument : Byte) (increment : Word16) (volume : Byte) (s : State) :
    Host.Outcome State Fault Refusal :=
  command (.voicePlay voice instrument increment volume) s (voicePlayEffect voice instrument increment volume)

/-- What VOICE SET and VOICE RELEASE answer by the voice's owner; `none` for a voice CONSOLE owns (R112). -/
def ownerRefusal : Owner → Option ReplyStatus
  | .none => some .wrongState
  | .track _ => some .busy
  | .cue => some .busy
  | .console => none

/-- VOICE SET (R112). -/
def voiceSetEffect (voice : Byte) (increment : Word16) (volume : Byte) (s : State) : State :=
  match indexOf 6 voice with
  | none => answer .badArg s
  | some n =>
    if 15 < volume.toNat then answer .badArg s
    else
      match ownerRefusal s.voices[n].owner with
      | some st => answer st s
      | none =>
        answer .ok (setVoice n { s.voices[n] with increment := increment.toNat, volume := volume.toNat } s)

/-- VOICE_SET (R112). -/
def execVoiceSet (voice : Byte) (increment : Word16) (volume : Byte) (s : State) :
    Host.Outcome State Fault Refusal :=
  command (.voiceSet voice increment volume) s (voiceSetEffect voice increment volume)

/-- VOICE RELEASE (R112). -/
def voiceReleaseEffect (voice : Byte) (s : State) : State :=
  match indexOf 6 voice with
  | none => answer .badArg s
  | some n =>
    match ownerRefusal s.voices[n].owner with
    | some st => answer st s
    | none => answer .ok (releaseVoice n s)

/-- VOICE_RELEASE (R112). -/
def execVoiceRelease (voice : Byte) (s : State) : Host.Outcome State Fault Refusal :=
  command (.voiceRelease voice) s (voiceReleaseEffect voice)

/-- VOICE STOP (R113). -/
def voiceStopEffect (voice : Byte) (s : State) : State :=
  match indexOf 6 voice with
  | none => answer .badArg s
  | some n => answer .ok (stopVoice n s)

/-- VOICE_STOP (R113). -/
def execVoiceStop (voice : Byte) (s : State) : Host.Outcome State Fault Refusal :=
  command (.voiceStop voice) s (voiceStopEffect voice)

/-- MASTER (R115). -/
def masterEffect (value : Byte) (s : State) : State :=
  answer .ok { s with mixer := { s.mixer with master := min value.toNat 16 } }

/-- MASTER (R115). -/
def execMaster (value : Byte) (s : State) : Host.Outcome State Fault Refusal :=
  command (.master value) s (masterEffect value)

/-- VOICE INFO's 27 bytes (R114, R171). -/
def voiceInfoPayload (n : VoiceNo) (v : Voice) : List Byte :=
  [byteOf n.val, byteOf (homeCode v.home), byteOf v.owner.code, byteOf v.phase.code, byteOf v.noteInstrument,
   byteOf v.selected, byteOf v.snapshot.mode.code] ++ le2 v.increment ++ [byteOf v.volume, byteOf v.env] ++ le3 v.acc ++
  le2 v.position ++ le2 v.fraction ++ le2 v.fetch ++ [byteOf v.buffer.length, flagByte v.primed] ++ le2 v.lfsr ++
  [signedByte v.last, flagByte v.hold.isSome, optByte v.hold]

/-- VOICE INFO (R114). -/
def voiceInfoEffect (voice : Byte) (s : State) : State :=
  match indexOf 6 voice with
  | none => answer .badArg s
  | some n => reply .ok (voiceInfoPayload n s.voices[n]) s

/-- VOICE_INFO (R114). -/
def execVoiceInfo (voice : Byte) (s : State) : Host.Outcome State Fault Refusal :=
  command (.voiceInfo voice) s (voiceInfoEffect voice)

end Sys2Proof.Machine
end

