-- ==== Sys2Proof/Machine/Sequencer.lean ====
section
/-! DEFINITION. The sequencer (ch. 7.1 to 7.5): track start and stop, track ticks, the acting on events, the event
kinds, the track commands; and the delivery of a ROM byte to its holder (R19), where an arriving event can be acted on. -/

namespace Sys2Proof.Machine

/-- Change one track record by a function. -/
def changeTrack (t : TrackNo) (f : Track → Track) (s : State) : State := setTrack t (f s.tracks[t]) s

/-- The track runs: RUNNING or WAITING. -/
def Track.active (r : Track) : Bool := r.state != .stopped

/-- The voice is in the mask (R119). -/
def inMask (mask : BitVec 6) (v : VoiceNo) : Bool := mask.getLsbD v.val

/-! ## Start and stop (R120, R121) -/

/-- A voice's share of a stop: a release from the track that owns it, then the home cleared (R121 steps 1 and 2). -/
def dismissVoice (t : TrackNo) (s : State) (n : VoiceNo) : State :=
  let s := if s.voices[n].owner = .track t then releaseVoice n s else s
  if s.voices[n].home = some t then setVoice n s.voices[n].unhomed s else s

/-- A track stops (R121). Both addresses keep their values, as R121 says, where R119 would have them equal over the emptied
buffer (DESIGN CHOICE, log 35). -/
def stopTrack (t : TrackNo) (s : State) : State :=
  let s := allVoices.foldl (dismissVoice t) s
  flushFetch t
    (changeTrack t (fun r => { r with state := .stopped, buffer := [], wait := none, loopMark := none }) s)

/-- A voice of the mask takes a home change to the track (R101, R120). -/
def adoptVoice (t : TrackNo) (mask : BitVec 6) (s : State) (n : VoiceNo) : State :=
  if inMask mask n then setVoice n (s.voices[n].homed t) s else s

/-- The record of a track just started (R120). -/
def Track.started (address : RomAddr) (mask : BitVec 6) (source : Source) (period : Nat) : Track :=
  { state := .waiting, nextAddr := address, fetchAddr := address, mask := mask, source := source, period := period,
    divider := 0, wait := none, loopMark := none, marker := 0, buffer := [] }

/-- The start of a track (R120): a running track is first stopped. -/
def startTrack (t : TrackNo) (r : Track) (s : State) : State :=
  let s := if s.tracks[t].active then stopTrack t s else s
  allVoices.foldl (adoptVoice t r.mask) (flushFetch t (setTrack t r s))

/-- The other track. -/
def otherTrack (t : TrackNo) : TrackNo := if t = 0 then 1 else 0

/-- The period is one the source allows (R120 order 1). -/
def periodAllowed (source : Source) (period : Nat) : Bool :=
  match source with
  | .time => decide (16 ≤ period)
  | .frame => decide (1 ≤ period) && decide (period ≤ 16)

/-- The track and record that TRACK START's fields give, none where they are refused with BAD_ARG (R120 order 1). -/
def trackStartFields (track : Byte) (address : RomAddr) (mask source : Byte) (period : Word16) :
    Option (TrackNo × Track) :=
  match indexOf 2 track, sourceOf source with
  | some t, some src =>
    if mask.toNat < 64 ∧ periodAllowed src period.toNat = true then
      some (t, .started address (mask.setWidth 6) src period.toNat)
    else none
  | _, _ => none

/-- TRACK START (R120). -/
def trackStartEffect (track : Byte) (address : RomAddr) (mask source : Byte) (period : Word16) (s : State) : State :=
  match trackStartFields track address mask source period with
  | none => answer .badArg s
  | some (t, r) =>
    let other := s.tracks[otherTrack t]
    if other.active ∧ other.mask &&& r.mask ≠ 0 then answer .busy s
    else answer .ok (startTrack t r s)

/-- TRACK_START (R120). -/
def execTrackStart (track : Byte) (address : RomAddr) (mask source : Byte) (period : Word16) (s : State) :
    Host.Outcome State Fault Refusal :=
  command (.trackStart track address mask source period) s (trackStartEffect track address mask source period)

/-- TRACK STOP (R121): of a STOPPED track it changes nothing. -/
def trackStopEffect (track : Byte) (s : State) : State :=
  match indexOf 2 track with
  | none => answer .badArg s
  | some t => answer .ok (if s.tracks[t].active then stopTrack t s else s)

/-- TRACK_STOP (R121). -/
def execTrackStop (track : Byte) (s : State) : Host.Outcome State Fault Refusal :=
  command (.trackStop track) s (trackStopEffect track)

/-- TRACK INFO's 24 bytes (R122, R171), the mask's two unnamed bits 0 (DESIGN CHOICE, log 34). -/
def trackInfoPayload (t : TrackNo) (r : Track) : List Byte :=
  let m := r.loopMark.getD ⟨0, 0, false⟩
  [byteOf t.val, byteOf r.state.code] ++ le3 r.nextAddr.toNat ++ le3 r.fetchAddr.toNat ++
  [byteOf r.mask.toNat, byteOf r.source.code] ++ le2 r.period ++ le2 r.divider ++
  [flagByte r.wait.isSome, optByte r.wait, flagByte r.loopMark.isSome] ++ le3 m.addr.toNat ++
  [byteOf m.remaining, flagByte m.forever, r.marker, byteOf r.buffer.length]

/-- TRACK INFO (R122). -/
def trackInfoEffect (track : Byte) (s : State) : State :=
  match indexOf 2 track with
  | none => answer .badArg s
  | some t => reply .ok (trackInfoPayload t s.tracks[t]) s

/-- TRACK_INFO (R122). -/
def execTrackInfo (track : Byte) (s : State) : Host.Outcome State Fault Refusal :=
  command (.trackInfo track) s (trackInfoEffect track)

/-! ## Events (R126 to R129) -/

/-- A voice event (R126): above 5 it is dropped with BAD_EVENT; for a voice the track does not own it is dropped
(R100); otherwise the request is made. -/
def voiceRequest (t : TrackNo) (e : Event) (request : VoiceNo → State → State) (s : State) : State :=
  match indexOf 6 e.voice with
  | none => setFault .badEvent s
  | some n => if s.voices[n].owner = .track t then request n s else s

/-- NOTE (R126, R98): the selected instrument, increment = value, volume = extra, at most 15. -/
def noteRequest (e : Event) (n : VoiceNo) (s : State) : State :=
  match startNote n s.voices[n].selected e.value.toNat (min e.extra.toNat 15) id s with
  | some t => t
  | none => setFault .badEvent s

/-- TEMPO's new period (R127). -/
def tempoPeriod (source : Source) (value : Nat) : Nat :=
  match source with
  | .time => max 16 value
  | .frame => max 1 (min 16 value)

/-- LOOP (R128): the mark stands at the event after the LOOP, which the track has already moved on to. A forever mark
keeps the extra, 0, as its remaining count (DEDUCED, log 18). -/
def loopRequest (e : Event) (r : Track) : Track :=
  { r with loopMark := some ⟨r.nextAddr, e.extra.toNat, e.extra == 0⟩ }

/-- The jump of a BACK (R128): both addresses become the mark's, and the buffer empties. -/
def jumpBack (t : TrackNo) (m : LoopMark) (s : State) : State :=
  flushFetch t (changeTrack t (fun r =>
    { r with nextAddr := m.addr, fetchAddr := m.addr, buffer := [], wait := none,
             loopMark := some { m with remaining := if m.forever then m.remaining else m.remaining - 1 } }) s)

/-- BACK (R128). -/
def backRequest (t : TrackNo) (s : State) : State :=
  match s.tracks[t].loopMark with
  | none => s
  | some m =>
    if m.forever ∨ 0 < m.remaining then jumpBack t m s
    else changeTrack t (fun r => { r with loopMark := none }) s

/-- MARKER (R129). -/
def markerRequest (t : TrackNo) (e : Event) (s : State) : State :=
  latchMarker t (changeTrack t (fun r => { r with marker := e.extra }) s)

/-- What an event does once it is acted on (R126 to R129). -/
def performEvent (t : TrackNo) (e : Event) (s : State) : State :=
  match e.kind.toNat with
  | 0x00 => stopTrack t s
  | 0x01 => voiceRequest t e (noteRequest e) s
  | 0x02 => voiceRequest t e releaseVoice s
  | 0x03 => voiceRequest t e (fun n s => setVoice n { s.voices[n] with selected := e.value.toNat % 16 } s) s
  | 0x04 => voiceRequest t e (fun n s => setVoice n { s.voices[n] with volume := min e.extra.toNat 15 } s) s
  | 0x05 => voiceRequest t e (fun n s => setVoice n { s.voices[n] with increment := e.value.toNat } s) s
  | 0x06 => changeTrack t (fun r => { r with period := tempoPeriod r.source e.value.toNat }) s
  | 0x07 => changeTrack t (loopRequest e) s
  | 0x08 => backRequest t s
  | 0x09 => markerRequest t e s
  | _ => stopTrack t (setFault .badEvent s)

/-! ## Due events (R125) -/

/-- The head event leaves the buffer, the next event address advances by 6, and the event does its work (R125). -/
def actOnEvent (t : TrackNo) (e : Event) (rest : List Event) (s : State) : State :=
  performEvent t e (changeTrack t (fun r => { r with buffer := rest, wait := none, nextAddr := r.nextAddr + 6 }) s)

/-- After an event: a stopped track stays so; an empty buffer makes the track WAITING; a head with a delta waits for it;
a head with delta 0 is acted on in the same step, up to n of them (R125). -/
def loadHead : Nat → TrackNo → State → State
  | n, t, s =>
    if s.tracks[t].state = .stopped then s
    else
      match s.tracks[t].buffer with
      | [] => changeTrack t (fun r => { r with state := .waiting, wait := none }) s
      | e :: rest =>
        if e.delta = 0 then
          match n with
          | 0 => s
          | n + 1 => loadHead n t (actOnEvent t e rest s)
        else changeTrack t (fun r => { r with state := .running, wait := some e.delta.toNat }) s

/-- The head event is acted on, and what follows it is loaded (R125). -/
def actOnHead (t : TrackNo) (s : State) : State :=
  match s.tracks[t].buffer with
  | [] => s
  | e :: rest => loadHead rest.length t (actOnEvent t e rest s)

/-- A track tick (R125): in RUNNING the wait counter falls, and at 0 the head is acted on; in WAITING the tick is lost
with SEQ_LATE. -/
def trackTick (t : TrackNo) (s : State) : State :=
  let r := s.tracks[t]
  match r.state with
  | .stopped => s
  | .waiting => setFault .seqLate s
  | .running =>
    match r.wait with
    | some w =>
      if w ≤ 1 then actOnHead t (setTrack t { r with wait := some 0 } s)
      else setTrack t { r with wait := some (w - 1) } s
    | none => s

/-- One count of a track's divider; at P or N the track ticks and the divider becomes 0 (R124). -/
def countTrack (t : TrackNo) (s : State) : State :=
  let r := s.tracks[t]
  if r.period ≤ r.divider + 1 then trackTick t (setTrack t { r with divider := 0 } s)
  else setTrack t { r with divider := r.divider + 1 } s

/-- The sample clock of one track: it counts when its source is TIME and it is not STOPPED (R124). -/
def sampleTrack (s : State) (t : TrackNo) : State :=
  if s.tracks[t].active && s.tracks[t].source == .time then countTrack t s else s

/-- A frame, real or synthetic, to one track: it counts when its source is FRAME and it is not STOPPED (R124). -/
def frameTrack (s : State) (t : TrackNo) : State :=
  if s.tracks[t].active && s.tracks[t].source == .frame then countTrack t s else s

/-- A frame goes to the sequencer (R130). -/
def giveFrame (s : State) : State := allTracks.foldl frameTrack s

/-- SAMPLE_CLOCK (R116, R124): the voices and the mixer, then the TIME tracks (log 6). -/
def execSampleClock (s : State) : Host.Outcome State Fault Refusal :=
  if ticking s then .next (allTracks.foldl sampleTrack (sampleVoices s)) else .next s

/-- Frame capture gives frames: PRESENT, by strobes, or LOST under COAST, by frame capture counts, which stop with the
crystal (R124, R132, R67). -/
def framesGiven (s : State) : Bool :=
  s.frame.state == .present || (s.frame.state == .lost && s.frame.mode == .coast && ticking s)

/-- The track's source gives ticks now (R66, R124). -/
def sourceRuns (s : State) (t : TrackNo) : Bool :=
  match s.tracks[t].source with
  | .time => ticking s
  | .frame => answered s && framesGiven s

/-- The track can tick: not STOPPED, its source running. -/
def canTick (s : State) (t : TrackNo) : Bool := powered s && s.tracks[t].active && sourceRuns s t

/-- The tick at which the divider reaches P or N: the divider becomes 0 and the track ticks (R124). -/
def fullTick (t : TrackNo) (s : State) : State :=
  trackTick t (changeTrack t (fun r => { r with divider := 0 }) s)

/-- TRACK_TICK (R124): the counts left of the divider are taken as having come (log 8). -/
def execTrackTick (t : TrackNo) (s : State) : Host.Outcome State Fault Refusal :=
  if canTick s t then .next (fullTick t s) else .next s

/-- The next tick makes the head event due, and it is of the given kind (R125). -/
def headDue (s : State) (t : TrackNo) (kind : Event → Bool) : Bool :=
  canTick s t && s.tracks[t].state == .running && s.tracks[t].wait == some 1 &&
    (match s.tracks[t].buffer with
      | e :: _ => kind e
      | [] => false)

/-- An event row: the track tick at which a head event of the kind falls due and is acted on (R125, log 9). -/
def dueEvent (t : TrackNo) (kind : Event → Bool) (s : State) : Host.Outcome State Fault Refusal :=
  if headDue s t kind then .next (fullTick t s) else .next s

/-- NOTE_EVENT (R126). -/
def execNoteEvent (t : TrackNo) (s : State) : Host.Outcome State Fault Refusal := dueEvent t (·.kind == 0x01) s

/-- OFF_EVENT (R126). -/
def execOffEvent (t : TrackNo) (s : State) : Host.Outcome State Fault Refusal := dueEvent t (·.kind == 0x02) s

/-- INSTR_EVENT (R126). -/
def execInstrEvent (t : TrackNo) (s : State) : Host.Outcome State Fault Refusal := dueEvent t (·.kind == 0x03) s

/-- VOL_EVENT (R126). -/
def execVolEvent (t : TrackNo) (s : State) : Host.Outcome State Fault Refusal := dueEvent t (·.kind == 0x04) s

/-- PITCH_EVENT (R126). -/
def execPitchEvent (t : TrackNo) (s : State) : Host.Outcome State Fault Refusal := dueEvent t (·.kind == 0x05) s

/-- TEMPO_EVENT (R127). -/
def execTempoEvent (t : TrackNo) (s : State) : Host.Outcome State Fault Refusal := dueEvent t (·.kind == 0x06) s

/-- LOOP_EVENT (R128). -/
def execLoopEvent (t : TrackNo) (s : State) : Host.Outcome State Fault Refusal := dueEvent t (·.kind == 0x07) s

/-- BACK_EVENT (R128). -/
def execBackEvent (t : TrackNo) (s : State) : Host.Outcome State Fault Refusal := dueEvent t (·.kind == 0x08) s

/-- MARKER_EVENT (R129). -/
def execMarkerEvent (t : TrackNo) (s : State) : Host.Outcome State Fault Refusal := dueEvent t (·.kind == 0x09) s

/-- END_EVENT (R129). -/
def execEndEvent (t : TrackNo) (s : State) : Host.Outcome State Fault Refusal := dueEvent t (·.kind == 0x00) s

/-- UNKNOWN_EVENT (R129). -/
def execUnknownEvent (t : TrackNo) (s : State) : Host.Outcome State Fault Refusal :=
  dueEvent t (fun e => decide (10 ≤ e.kind.toNat)) s

/-! ## The delivery of a ROM byte (R19, R107, R108, R123) -/

/-- The ROM address of a voice's next stream byte (R108). -/
def Voice.fetchAddr (v : Voice) : RomAddr := v.snapshot.start + BitVec.ofNat 24 v.fetch

/-- The fetch offset after one more byte (R108). -/
def nextFetch (snap : Snapshot) (fetch : Nat) : Nat :=
  if fetch + 1 = snap.length ∧ 0 < snap.loop then snap.length - snap.loop else fetch + 1

/-- The buffer holds what primes the note (R107): 8 bytes, or every byte of a shorter stream without loop. -/
def primes (snap : Snapshot) (held : Nat) : Bool :=
  decide (8 ≤ held) || (snap.loop == 0 && decide (snap.length ≤ held))

/-- A stream byte joins the buffer (R108). -/
def Voice.receive (v : Voice) (b : Byte) : Voice :=
  { v with buffer := v.buffer ++ [b], fetch := nextFetch v.snapshot v.fetch,
           primed := v.primed || primes v.snapshot (v.buffer.length + 1) }

/-- The grant after one more byte: it ends at the fourth, and where `last` says so (R19). The manual gives no moment at
which the next byte read begins: it begins with the delivery of the byte before it (DESIGN CHOICE, log 31). -/
def Grant.afterByte (g : Grant) (last : Bool) : Option Grant :=
  if last ∨ 4 ≤ g.delivered + 1 then none else some { g with delivered := g.delivered + 1, reading := true }

/-- Set the grant of the port. -/
def setGrant (g : Option Grant) (s : State) : State := { s with port := { s.port with grant := g } }

/-- A byte delivered to a voice (R19, R108). -/
def deliverVoice (g : Grant) (n : VoiceNo) (s : State) : State :=
  let v := s.voices[n].receive (romByte s s.voices[n].fetchAddr)
  let full := decide (Config.streamBufferSize ≤ v.buffer.length)
  let finished := decide (v.snapshot.length ≤ v.fetch)
  setGrant (g.afterByte (full || finished)) (setVoice n v s)

/-- The event of six bytes (R123, R171). -/
def eventOf : List Byte → Option Event
  | [delta, kind, voice, lo, hi, extra] => some ⟨delta, kind, voice, word16 lo hi, extra⟩
  | _ => none

/-- A complete event joins the tail of the buffer; in WAITING it becomes the head and is loaded (R123, R125). -/
def joinEvent (t : TrackNo) (e : Event) (s : State) : State :=
  let waiting := s.tracks[t].state == .waiting
  let s := changeTrack t (fun r => { r with buffer := r.buffer ++ [e], fetchAddr := r.fetchAddr + 6 }) s
  if waiting then loadHead s.tracks[t].buffer.length t s else s

/-- A byte delivered to a track (R19, R123): the sixth completes the event, which ends the grant. -/
def deliverTrack (g : Grant) (t : TrackNo) (s : State) : State :=
  let part := s.port.partials[t]
  let bytes := part ++ [romByte s (s.tracks[t].fetchAddr + BitVec.ofNat 24 part.length)]
  match eventOf bytes with
  | some e =>
    joinEvent t e (setGrant none { s with port := { s.port with partials := s.port.partials.set t.val [] t.isLt } })
  | none =>
    setGrant (g.afterByte false)
      { s with port := { s.port with partials := s.port.partials.set t.val bytes t.isLt } }

/-- ROM_BYTE_READ (R19): the byte read in progress ends and its byte goes to the holder. -/
def execRomByteRead (s : State) : Host.Outcome State Fault Refusal :=
  if answered s then
    match s.port.grant with
    | some g =>
      match g.holder with
      | .voice n => .next (deliverVoice g n s)
      | .track t => .next (deliverTrack g t s)
    | none => .next s
  else .next s

end Sys2Proof.Machine
end

