-- ==== Sys2Proof/Machine/FrameCapture.lean ====
section
/-! DEFINITION. Frame capture (ch. 7.6): strobes, the silence deadline, synthetic frames, FRAME MODE. -/

namespace Sys2Proof.Machine

/-- Set frame capture. -/
def setFrame (f : FrameCapture) (s : State) : State := { s with frame := f }

/-- The deadline of the silence count (R131). -/
def FrameCapture.deadline (f : FrameCapture) : Nat :=
  match f.period with
  | some p => 2 * p
  | none => 546

/-- The synthetic period (R132). -/
def FrameCapture.synthPeriod (f : FrameCapture) : Nat := f.period.getD 273

/-- A strobe accepted: the capture is C, the silence count 0, the state PRESENT (R130). -/
def FrameCapture.capture (f : FrameCapture) : FrameCapture :=
  { f with last := some f.counter, silence := 0, state := .present }

/-- The distance of a strobe from the last capture (R130). -/
def FrameCapture.distance (f : FrameCapture) : Nat :=
  match f.last with
  | some c => (f.counter - c).toNat
  | none => 0

/-- A rising edge of FRM (R130). -/
def strobe (s : State) : State :=
  match s.frame.state with
  | .waitingFirst => giveFrame (setFrame s.frame.capture s)
  | .lost => giveFrame (setFrame s.frame.capture s)
  | .present =>
    let d := s.frame.distance
    if d < 137 then s
    else giveFrame (setFrame
      { s.frame.capture with period := if d ≤ 1638 then some d else s.frame.period } s)

/-- Frame capture runs: powered, and not held by /CRST (R134). -/
def capturing (s : State) : Bool := answered s

/-- FRM_STROBE (R130). -/
def execFrmStrobe (s : State) : Host.Outcome State Fault Refusal :=
  if capturing s then .next (strobe s) else .next s

/-- The loss (R131): LOST, the latch, and under COAST a synthetic frame. -/
def loseFrame (s : State) : State :=
  let s := latchFrameLost (setFrame
    { s.frame with state := .lost, synth := if s.frame.mode = .coast then 0 else s.frame.synth } s)
  if s.frame.mode = .coast then giveFrame s else s

/-- The silence count runs: WAITING-FIRST or PRESENT (R131). -/
def FrameCapture.silent (f : FrameCapture) : Bool := f.state == .waitingFirst || f.state == .present

/-- The counter with some frame capture counts added (R130). -/
def FrameCapture.counted (f : FrameCapture) (n : Nat) : FrameCapture :=
  { f with counter := f.counter + BitVec.ofNat 16 n }

/-- FRAME_LOST (R131): the counts left to the deadline are taken as having come (log 8). -/
def execFrameLost (s : State) : Host.Outcome State Fault Refusal :=
  if capturing s && ticking s && s.frame.silent then
    .next (loseFrame (setFrame
      { s.frame.counted (s.frame.deadline - s.frame.silence) with silence := s.frame.deadline } s))
  else .next s

/-- A synthetic frame (R132). -/
def synthesize (s : State) : State := giveFrame (setFrame { s.frame with synth := 0 } s)

/-- SYNTHETIC_FRAME (R132): the counts left of the synthetic period are taken as having come (log 8). -/
def execSyntheticFrame (s : State) : Host.Outcome State Fault Refusal :=
  if capturing s && ticking s && s.frame.state == .lost && s.frame.mode == .coast then
    .next (synthesize (setFrame (s.frame.counted (s.frame.synthPeriod - s.frame.synth)) s))
  else .next s

/-- One frame capture count (R130 to R132): C, then the silence or the synthetic count. While /CRST is held C alone
counts (R134). -/
def captureCount (s : State) : State :=
  let f := s.frame.counted 1
  if !capturing s then setFrame f s
  else if f.silent then
    let s := setFrame { f with silence := f.silence + 1 } s
    if f.deadline ≤ f.silence + 1 then loseFrame s else s
  else if f.mode = .coast then
    if f.synthPeriod ≤ f.synth + 1 then synthesize (setFrame f s)
    else setFrame { f with synth := f.synth + 1 } s
  else setFrame f s

/-- FRAME MODE's reply (R133, R171). -/
def frameModePayload (f : FrameCapture) : List Byte :=
  [byteOf f.state.code, byteOf f.mode.code, flagByte f.period.isSome] ++ le2 (f.period.getD 0) ++
  [flagByte f.last.isSome] ++ le2 ((f.last.map BitVec.toNat).getD 0)

/-- FRAME MODE (R133): from HOLD to COAST while LOST the synthetic count becomes 0. -/
def frameModeEffect (mode : Byte) (s : State) : State :=
  match frameModeOf mode with
  | none => answer .badArg s
  | some m =>
    let restart := s.frame.state == .lost && s.frame.mode == .hold && m == .coast
    let s := setFrame { s.frame with mode := m, synth := if restart then 0 else s.frame.synth } s
    reply .ok (frameModePayload s.frame) s

/-- FRAME_MODE (R133). -/
def execFrameMode (mode : Byte) (s : State) : Host.Outcome State Fault Refusal :=
  command (.frameMode mode) s (frameModeEffect mode)

end Sys2Proof.Machine
end

