-- ==== Sys2Proof/Machine/Rumble.lean ====
section
/-! DEFINITION. The rumble drive (ch. 8): patterns, requests and their queue, the effective level, the kick rule, the
thermal estimate, the stall, the PWM slots, and the rumble commands. -/

namespace Sys2Proof.Machine

/-- Set the active request. -/
def setActive (a : Option Active) (s : State) : State := { s with rumble := { s.rumble with active := a } }

/-- The pattern a request plays, read from the table as it plays (R136). -/
def patternOf (s : State) (r : Request) : Pattern := s.rumble.patterns[r.pattern]

/-- The level of the step the request stands on; beyond the steps there is none to drive. -/
def activeLevel (s : State) (a : Active) : Level :=
  match (patternOf s a.request).steps[a.stepIndex]? with
  | some st => st.level
  | none => .drive 0

/-! ## The level the motor sees (R143) -/

/-- The effective level and the bridge state (R143). -/
def motorDrive (s : State) : Nat × Bridge :=
  if !s.profile.motor then (0, .off)
  else if s.supply.monitor ≠ .run then (0, .off)
  else if hasFault .stall s then (0, .off)
  else
    match s.rumble.active with
    | none => (0, .off)
    | some a =>
      match a.kick with
      | .waiting => (0, .off)
      | .kicking _ => (16, .drive)
      | .none =>
        match activeLevel s a with
        | .brake => (0, .brake)
        | .drive n => (if s.rumble.hot then min n 6 else n, .drive)

/-- The effective level (R143). -/
def effectiveLevel (s : State) : Nat := (motorDrive s).1

/-- The pins for slot k of a period (R144): drive gives MA high for the first n slots, brake both high, off both low. -/
def pwmPins (level : Nat) (bridge : Bridge) (k : Nat) : Bool × Bool :=
  match bridge with
  | .drive => (decide (k < level), false)
  | .brake => (true, true)
  | .off => (false, false)

/-- The next PWM slot (R144): slot 0 takes the level and bridge state that stand, the others keep them. -/
def pwmSlot (s : State) : State :=
  let k := (s.rumble.pwmSlot + 1) % 16
  let d := if k = 0 then motorDrive s else (s.rumble.pwmLevel, s.rumble.pwmBridge)
  let pins := pwmPins d.1 d.2 k
  { s with rumble := { s.rumble with pwmSlot := k, pwmLevel := d.1, pwmBridge := d.2, ma := some pins.1,
                                     mb := some pins.2 } }

/-- MOTOR_PWM_SLOT (R144). -/
def execMotorPwmSlot (s : State) : Host.Outcome State Fault Refusal :=
  if ticking s then .next (pwmSlot s) else .next s

/-! ## The kick rule (R145) -/

/-- The step is driven: level 1 to 15 (R145). -/
def Level.driven : Level → Bool
  | .drive n => decide (0 < n)
  | .brake => false

/-- The motor is stopped while the zero run is 8 (R145). -/
def motorStopped (s : State) : Bool := decide (8 ≤ s.rumble.zeroRun)

/-- The WARN spell that has ended lasted 8 rumble ticks or more, and no rumble tick has come since: the motor counts as
stopped for the kick rule at the next rumble tick (R147, log 30). -/
def stoppedByWarn (s : State) : Bool := s.supply.monitor == .run && decide (8 ≤ s.rumble.warnTicks)

/-- A kick begins, the motor being stopped or not (R145). -/
def kickBegins (stopped : Bool) (s : State) (a : Active) : Bool :=
  a.kick == .none && s.supply.monitor == .run && s.profile.motor && !hasFault .stall s &&
    (activeLevel s a).driven && stopped && !s.rumble.hot

/-- The kick rule, the motor being stopped or not (R145): the kick state becomes WAITING and the kicker requests the
grant. -/
def kickRuleIf (stopped : Bool) (s : State) : State :=
  match s.rumble.active with
  | some a => if kickBegins stopped s a then kickerRequest (setKick .waiting s) else s
  | none => s

/-- The kick rule by the zero run (R145). -/
def kickRule (s : State) : State := kickRuleIf (motorStopped s) s

/-! ## Requests (R137 to R139) -/

/-- The duration of a step of a pattern. -/
def stepDuration (p : Pattern) (i : Nat) : Nat :=
  match p.steps[i]? with
  | some st => st.duration
  | none => 0

/-- A request starts in one step, and the kick rule is applied (R138). -/
def startRequest (r : Request) (s : State) : State :=
  kickRule (setActive (some ⟨r, 0, stepDuration (patternOf s r) 0, r.allowance, .none⟩) s)

/-- The head of the queue starts (R139). -/
def startHead (s : State) : State :=
  match s.rumble.queue with
  | r :: rest => startRequest r { s with rumble := { s.rumble with queue := rest } }
  | [] => s

/-- The active request ends (R139): the reason, the end of its kick, RUMBLE END for every reason but PREEMPTED. -/
def closeRequest (reason : EndReason) (s : State) : State :=
  let s := setActive none (endKick { s with rumble := { s.rumble with lastEnd := reason } })
  if reason = .preempted then s else latchRumbleEnd s

/-- The active request ends and the head of the queue starts (R139). -/
def endRequest (reason : EndReason) (s : State) : State := startHead (closeRequest reason s)

/-- A request placed after every one of equal or higher priority and before every one of lower (R137). -/
def insertRequest (r : Request) : List Request → List Request
  | [] => [r]
  | q :: rest => if q.priority < r.priority then r :: q :: rest else q :: insertRequest r rest

/-- The refusal of a request after its arguments (R138 order 2 to 5). -/
def requestRefusal (r : Request) (s : State) : Option ReplyStatus :=
  if !s.profile.motor then some .noMotor
  else if hasFault .stall s then some .stalled
  else if (patternOf s r).steps = [] then some .badArg
  else
    match s.rumble.active with
    | some a =>
      if r.priority ≤ a.request.priority ∧ Config.rumbleQueueSize ≤ s.rumble.queue.length then some .queueFull
      else none
    | none => none

/-- A request is taken (R138): it starts, preempts or joins the queue. -/
def takeRequest (r : Request) (s : State) : ReplyStatus × State :=
  match s.rumble.active with
  | none => (.ok, startRequest r s)
  | some a =>
    if a.request.priority < r.priority then (.ok, startRequest r (closeRequest .preempted s))
    else (.queued, { s with rumble := { s.rumble with queue := insertRequest r s.rumble.queue } })

/-- The decision of a request (R138): the reply and the state, unchanged where it is refused. -/
def decideRequest (r : Request) (s : State) : ReplyStatus × State :=
  match requestRefusal r s with
  | some st => (st, s)
  | none => takeRequest r s

/-- The console's request, none where order 1 of R138 refuses the fields. -/
def consoleRequest (pattern priority allowance : Byte) : Option Request :=
  match indexOf 16 pattern with
  | some p =>
    if priority.toNat ≤ 3 ∧ allowance ≠ 0 then some ⟨p, priority.toNat, allowance.toNat, .console⟩ else none
  | none => none

/-- RUMBLE PLAY (R138). -/
def rumblePlayEffect (pattern priority allowance : Byte) (s : State) : State :=
  match consoleRequest pattern priority allowance with
  | none => answer .badArg s
  | some r =>
    let (st, t) := decideRequest r s
    answer st t

/-- RUMBLE_PLAY (R138). -/
def execRumblePlay (pattern priority allowance : Byte) (s : State) : Host.Outcome State Fault Refusal :=
  command (.rumblePlay pattern priority allowance) s (rumblePlayEffect pattern priority allowance)

/-- A cue's rumble action (R93): allowance 64, source CUE; refused, it is dropped without trace. -/
def submitCue (a : CueRumble) (s : State) : State :=
  if h : a.pattern < 16 then (decideRequest ⟨⟨a.pattern, h⟩, a.priority, 64, .cue⟩ s).2 else s

/-- RUMBLE STOP (R140). -/
def rumbleStopEffect (all : Byte) (s : State) : State :=
  match boolOf all with
  | none => answer .badArg s
  | some everything =>
    if s.rumble.active.isNone then answer .ok s
    else
      let s := if everything then { s with rumble := { s.rumble with queue := [] } } else s
      answer .ok (endRequest .stopped s)

/-- RUMBLE_STOP (R140). -/
def execRumbleStop (all : Byte) (s : State) : Host.Outcome State Fault Refusal :=
  command (.rumbleStop all) s (rumbleStopEffect all)

/-- RUMBLE RENEW (R141). -/
def rumbleRenewEffect (allowance : Byte) (s : State) : State :=
  if allowance = 0 then answer .badArg s
  else
    match s.rumble.active with
    | none => answer .wrongState s
    | some a =>
      if (patternOf s a.request).rep = .once then answer .wrongState s
      else answer .ok (setActive (some { a with allowanceLeft := allowance.toNat }) s)

/-- RUMBLE_RENEW (R141). -/
def execRumbleRenew (allowance : Byte) (s : State) : Host.Outcome State Fault Refusal :=
  command (.rumbleRenew allowance) s (rumbleRenewEffect allowance)

/-- The pattern that PATTERN LOAD's fields give, none where order 1 of R136 refuses them. -/
def patternFields (pattern repeatMode : Byte) (steps : List (Byte × Byte)) : Option (Fin 16 × Pattern) :=
  match indexOf 16 pattern, repeatOf repeatMode, stepsOf steps with
  | some i, some rep, some sts => if sts = [] ∨ 15 < sts.length then none else some (i, ⟨rep, sts⟩)
  | _, _, _ => none

/-- The active request plays this pattern (R136 order 2). -/
def playsPattern (s : State) (i : Fin 16) : Bool :=
  match s.rumble.active with
  | some a => a.request.pattern == i
  | none => false

/-- PATTERN LOAD (R136). -/
def patternLoadEffect (pattern repeatMode : Byte) (steps : List (Byte × Byte)) (s : State) : State :=
  match patternFields pattern repeatMode steps with
  | none => answer .badArg s
  | some (i, p) =>
    if playsPattern s i then answer .busy s
    else answer .ok { s with rumble := { s.rumble with patterns := s.rumble.patterns.set i.val p i.isLt } }

/-- PATTERN_LOAD (R136). More than 15 steps make no message of at most 32 payload bytes, and the row does nothing
(log 2). -/
def execPatternLoad (pattern repeatMode : Byte) (steps : List (Byte × Byte)) (s : State) :
    Host.Outcome State Fault Refusal :=
  if steps.length ≤ 15 then
    command (.patternLoad pattern repeatMode steps) s (patternLoadEffect pattern repeatMode steps)
  else .next s

/-- The 9 bytes of the active request in RUMBLE INFO (R151, R171), zeros when absent. -/
def activePayload (s : State) : List Byte :=
  match s.rumble.active with
  | none => [0, 0, 0, 0, 0, 0, 0, 0, 0]
  | some a =>
    [byteOf a.request.pattern.val, byteOf (patternOf s a.request).rep.code, byteOf a.request.priority,
     byteOf a.request.source.code, byteOf a.stepIndex, byteOf a.stepRemaining, byteOf a.allowanceLeft,
     byteOf a.kick.code, byteOf a.kick.left]

/-- The 3 bytes of a queued request: pattern, allowance, priority with the source in bit 7 (R171), the bits between, which
R171 leaves unnamed, 0 (DESIGN CHOICE, log 34). -/
def queuedPayload (r : Request) : List Byte :=
  [byteOf r.pattern.val, byteOf r.allowance, byteOf (r.priority + 128 * r.source.code)]

/-- RUMBLE INFO's 17 + 3 × queue count bytes (R151, R171). The flag bits that R171 leaves unnamed are 0 (DESIGN CHOICE,
log 34). -/
def rumbleInfoPayload (s : State) : List Byte :=
  let d := motorDrive s
  [byteOf (bitsOf [s.profile.motor, s.rumble.active.isSome, s.rumble.hot]), byteOf d.1, byteOf d.2.code] ++
  activePayload s ++ [byteOf s.rumble.queue.length] ++ le2 s.rumble.heat ++
  [byteOf s.rumble.zeroRun, byteOf s.rumble.lastEnd.code] ++ s.rumble.queue.flatMap queuedPayload

/-- RUMBLE_INFO (R151). -/
def execRumbleInfo (s : State) : Host.Outcome State Fault Refusal :=
  command .rumbleInfo s fun s => reply .ok (rumbleInfoPayload s) s

/-! ## The rumble tick (R142, R145, R146, R149) -/

/-- The thermal estimate after a tick at level L (R149). -/
def nextHeat (heat level : Nat) : Nat := min 65535 (heat - heat / 256 + 15 * level)

/-- HOT after a tick (R149). -/
def nextHot (hot : Bool) (heat : Nat) : Bool :=
  if 49152 ≤ heat then true else if heat ≤ 32768 then false else hot

/-- The zero run after a tick at level L (R145). -/
def nextZeroRun (run level : Nat) : Nat := if level = 0 then min 8 (run + 1) else 0

/-- The rumble ticks of the WARN spell after a tick (R147, log 30): counted up to 8 in WARN, 0 after a tick in RUN. -/
def nextWarnTicks (s : State) : Nat := if s.supply.monitor = .run then 0 else min 8 (s.rumble.warnTicks + 1)

/-- The zero run, the thermal estimate and the count of the WARN spell after a tick; if HOT becomes set the kick ends
(R145 to R147, R149). -/
def warmTick (s : State) : State :=
  let level := effectiveLevel s
  let heat := nextHeat s.rumble.heat level
  let hot := nextHot s.rumble.hot heat
  let t := { s with rumble := { s.rumble with zeroRun := nextZeroRun s.rumble.zeroRun level, heat := heat, hot := hot,
                                              warnTicks := nextWarnTicks s } }
  if hot && !s.rumble.hot then endKick t else t

/-- The tick of the kick (R146): at 0 the kick ends and the grant is released. -/
def kickTick (s : State) : State :=
  match s.rumble.active with
  | some a =>
    match a.kick with
    | .kicking n => if n ≤ 1 then endKick s else setKick (.kicking (n - 1)) s
    | .waiting => s
    | .none => s
  | none => s

/-- The request stands on a new step; a kick ends early on a step of level 0 or BRAKE (R142, R146). -/
def enterStep (i : Nat) (s : State) : State :=
  match s.rumble.active with
  | some a =>
    let a := { a with stepIndex := i, stepRemaining := stepDuration (patternOf s a.request) i }
    let s := setActive (some a) s
    if (activeLevel s a).driven then s else endKick s
  | none => s

/-- The step advances (R142): past the last step a ONCE pattern ends FINISHED and a LOOP pattern returns to step 0. -/
def advanceStep (s : State) : State :=
  match s.rumble.active with
  | some a =>
    let p := patternOf s a.request
    if a.stepIndex + 1 < p.steps.length then enterStep (a.stepIndex + 1) s
    else if p.rep = .once then endRequest .finished s
    else enterStep 0 s
  | none => s

/-- The step of a tick (R142): it counts unless the kick was WAITING. -/
def stepTick (wasWaiting : Bool) (s : State) : State :=
  match s.rumble.active with
  | some a =>
    if wasWaiting then s
    else if a.stepRemaining ≤ 1 then advanceStep s
    else setActive (some { a with stepRemaining := a.stepRemaining - 1 }) s
  | none => s

/-- The active request waits for the grant. -/
def kickWaits (s : State) : Bool :=
  match s.rumble.active with
  | some a => a.kick == .waiting
  | none => false

/-- The active request loops and its allowance reaches 0 at this tick (R142). -/
def allowanceEnds (s : State) : Bool :=
  match s.rumble.active with
  | some a => (patternOf s a.request).rep == .loop && decide (a.allowanceLeft ≤ 1)
  | none => false

/-- The allowance of a LOOP request counts down (R142). -/
def countAllowance (s : State) : State :=
  match s.rumble.active with
  | some a =>
    if (patternOf s a.request).rep = .loop then setActive (some { a with allowanceLeft := a.allowanceLeft - 1 }) s
    else s
  | none => s

/-- The counts of a tick (R142): heat and zero run, the allowance, the kick's and the step's counts. -/
def countTick (s : State) : State :=
  let t := warmTick s
  if allowanceEnds t then endRequest .allowance t
  else stepTick (kickWaits s) (kickTick (countAllowance t))

/-- The rumble tick of the drive (R142): the counts, then the kick rule, to which the motor is stopped also at the first
tick after a WARN spell of 8 ticks or more (R147, log 30). -/
def driveTick (s : State) : State :=
  let t := countTick s
  kickRuleIf (stoppedByWarn s || motorStopped t) t

/-- The rumble tick with all its owners (R66): the drive, and voice 5's cue hold (R110). -/
def rumbleTick (s : State) : State := holdTick (driveTick s)

/-- RUMBLE_TICK (R142). -/
def execRumbleTick (s : State) : Host.Outcome State Fault Refusal :=
  if ticking s then .next (rumbleTick s) else .next s

/-- ALLOWANCE_EXPIRY (R142): the rumble tick at which a LOOP request's allowance left reaches 0 (log 9). -/
def execAllowanceExpiry (s : State) : Host.Outcome State Fault Refusal :=
  if ticking s && allowanceEnds s then .next (rumbleTick s) else .next s

/-- The step remaining reaches 0 at this tick (R142). -/
def stepEnds (s : State) : Bool :=
  !allowanceEnds s && !kickWaits s &&
    (match s.rumble.active with
      | some a => decide (a.stepRemaining ≤ 1)
      | none => false)

/-- STEP_EXPIRY (R142): the rumble tick at which the step remaining reaches 0 (log 9). -/
def execStepExpiry (s : State) : Host.Outcome State Fault Refusal :=
  if ticking s && stepEnds s then .next (rumbleTick s) else .next s

/-- The kick ticks left reach 0 at this tick (R146). -/
def kickEnds (s : State) : Bool :=
  match s.rumble.active with
  | some a =>
    match a.kick with
    | .kicking n => decide (n ≤ 1)
    | .waiting => false
    | .none => false
  | none => false

/-- KICK_END (R146): the rumble tick at which the kick ticks left reach 0 (log 9). -/
def execKickEnd (s : State) : Host.Outcome State Fault Refusal :=
  if ticking s && kickEnds s then .next (rumbleTick s) else .next s

/-- Voice 5's hold counter reaches 0 at this tick (R110). -/
def holdEnds (s : State) : Bool :=
  let v := s.voices[(5 : VoiceNo)]
  v.holdRuns && (match v.hold with
    | some h => decide (h ≤ 1)
    | none => false)

/-- CUE_HOLD_EXPIRY (R110): the rumble tick at which voice 5's hold counter reaches 0 (log 9). -/
def execCueHoldExpiry (s : State) : Host.Outcome State Fault Refusal :=
  if ticking s && holdEnds s then .next (rumbleTick s) else .next s

/-! ## Stall (R148) -/

/-- The stall timer runs: STALL asserted under drive (R148). -/
def stallRuns (s : State) : Bool := s.rumble.stallInput && decide (0 < effectiveLevel s)

/-- STALL_INPUT (R148): the input's level; the stall timer starts from 0 or returns to 0. -/
def execStallInput (asserted : Bool) (s : State) : Host.Outcome State Fault Refusal :=
  .next { s with rumble := { s.rumble with stallInput := asserted, stallTimer := 0 } }

/-- The stall latches (R148): the flag, the empty queue, the end of the active request, nothing starts. -/
def latchStall (s : State) : State :=
  let s := setFault .stall s
  closeRequest .stall { s with rumble := { s.rumble with queue := [], stallTimer := 0 } }

/-- STALL_LATCH (R148): the timer, running, has reached 4 ms (log 7). -/
def execStallLatch (s : State) : Host.Outcome State Fault Refusal :=
  if powered s && stallRuns s then .next (latchStall s) else .next s

end Sys2Proof.Machine
end

