-- ==== Sys2Proof/Machine/Calendar.lean ====
section
/-! DEFINITION. The calendar (ch. 4): dates, the clock commands, stamps and elapsed time, the advance of the time, and
the crystal's stop and return. The second tick with its cues is in Machine/Cues.lean. -/

namespace Sys2Proof.Machine

/-! ## Dates (R73) -/

/-- A leap year of 2000-2179: divisible by 4, except 2100 (R73). -/
def isLeap (year : Nat) : Bool := year % 4 == 0 && year != 2100

/-- The days of a year (R73). -/
def yearLength (year : Nat) : Nat := if isLeap year then 366 else 365

/-- The days of a month (R73). -/
def monthLength (year month : Nat) : Nat :=
  match month with
  | 1 => 31
  | 2 => if isLeap year then 29 else 28
  | 3 => 31
  | 4 => 30
  | 5 => 31
  | 6 => 30
  | 7 => 31
  | 8 => 31
  | 9 => 30
  | 10 => 31
  | 11 => 30
  | 12 => 31
  | _ => 0

/-- The days in the first n whole years from 2000 (R73). -/
def daysOfYears : Nat → Nat
  | 0 => 0
  | n + 1 => daysOfYears n + yearLength (2000 + n)

/-- The days of the first n whole months of a year (R73). -/
def daysOfMonths (year : Nat) : Nat → Nat
  | 0 => 0
  | n + 1 => daysOfMonths year n + monthLength year (n + 1)

/-- The day number of a date (R73). -/
def dayNumber (year month day : Nat) : Nat := daysOfYears (year - 2000) + daysOfMonths year (month - 1) + day - 1

/-- A valid date (R73). -/
def validDate (year month day : Nat) : Bool :=
  decide (2000 ≤ year) && decide (year ≤ 2179) && decide (1 ≤ month) && decide (month ≤ 12) && decide (1 ≤ day) &&
    decide (day ≤ monthLength year month) && decide (dayNumber year month day ≤ 65535)

/-- The weekday of a day number, 0 = Sunday (R73). -/
def weekday (d : Nat) : Nat := (d + 6) % 7

/-- The year of a day number and the days left in it: years are taken away until fewer days remain than the next
holds (R77). -/
def findYear : Nat → Nat → Nat → Nat × Nat
  | 0, year, left => (year, left)
  | fuel + 1, year, left =>
    if left < yearLength year then (year, left) else findYear fuel (year + 1) (left - yearLength year)

/-- The month of a day of the year and the days left in it, in the same way (R77). -/
def findMonth (year : Nat) : Nat → Nat → Nat → Nat × Nat
  | 0, month, left => (month, left)
  | fuel + 1, month, left =>
    if left < monthLength year month then (month, left)
    else findMonth year fuel (month + 1) (left - monthLength year month)

/-- A date with its weekday and day of year (R77). -/
structure DateParts where
  year : Nat
  month : Nat
  day : Nat
  weekday : Nat
  dayOfYear : Nat
  deriving DecidableEq, Repr

/-- The date of a day number (R77). -/
def dateParts (d : Nat) : DateParts :=
  let y := findYear 180 2000 d
  let m := findMonth y.1 12 1 y.2
  ⟨y.1, m.1, m.2 + 1, weekday d, y.2⟩

/-! ## The clock commands (R74 to R79, R81) -/

/-- Set the time record. -/
def setCal (c : Calendar) (s : State) : State := { s with cal := c }

/-- CLOCK GET's 9 bytes (R74, R171). The bits that R171 leaves unnamed are 0 (DESIGN CHOICE, log 34). -/
def clockGetPayload (c : Calendar) : List Byte :=
  le2 c.day ++ le3 c.sec ++ [byteOf (c.prescaler / 128), byteOf (bitsOf [c.atEnd, c.doubt]), byteOf c.setCount,
    signedByte c.trim]

/-- CLOCK_GET (R74). -/
def execClockGet (s : State) : Host.Outcome State Fault Refusal :=
  command .clockGet s fun s => reply .ok (clockGetPayload s.cal) s

/-- The time record after an accepted CLOCK SET (R75). -/
def Calendar.setTo (c : Calendar) (day sec : Nat) : Calendar :=
  { c with day := day, sec := sec, prescaler := 0, extension := 0, setCount := min 255 (c.setCount + 1),
           doubt := false, atEnd := false }

/-- CLOCK SET (R75). -/
def clockSetEffect (year : Word16) (month day hour minute second : Byte) (s : State) : State :=
  if validDate year.toNat month.toNat day.toNat ∧ hour.toNat ≤ 23 ∧ minute.toNat ≤ 59 ∧ second.toNat ≤ 59 then
    answer .ok (setCal (s.cal.setTo (dayNumber year.toNat month.toNat day.toNat)
      (hour.toNat * 3600 + minute.toNat * 60 + second.toNat)) s)
  else answer .badArg s

/-- CLOCK_SET (R75). -/
def execClockSet (year : Word16) (month day hour minute second : Byte) (s : State) :
    Host.Outcome State Fault Refusal :=
  command (.clockSet year month day hour minute second) s (clockSetEffect year month day hour minute second)

/-- CLOCK TRIM (R76). -/
def clockTrimEffect (trim : Byte) (s : State) : State :=
  if signedOf trim < -64 ∨ 63 < signedOf trim then answer .badArg s
  else answer .ok (setCal { s.cal with trim := signedOf trim } s)

/-- CLOCK_TRIM (R76). -/
def execClockTrim (trim : Byte) (s : State) : Host.Outcome State Fault Refusal :=
  command (.clockTrim trim) s (clockTrimEffect trim)

/-- DATE OF's 7 bytes (R77, R171). -/
def datePayload (p : DateParts) : List Byte :=
  le2 p.year ++ [byteOf p.month, byteOf p.day, byteOf p.weekday] ++ le2 p.dayOfYear

/-- DATE_OF (R77). -/
def execDateOf (day : Word16) (s : State) : Host.Outcome State Fault Refusal :=
  command (.dateOf day) s (reply .ok (datePayload (dateParts day.toNat)))

/-- DAY OF (R78). -/
def dayOfEffect (year : Word16) (month day : Byte) (s : State) : State :=
  if validDate year.toNat month.toNat day.toNat then
    let d := dayNumber year.toNat month.toNat day.toNat
    reply .ok (le2 d ++ [byteOf (weekday d)]) s
  else answer .badArg s

/-- DAY_OF (R78). -/
def execDayOf (year : Word16) (month day : Byte) (s : State) : Host.Outcome State Fault Refusal :=
  command (.dayOf year month day) s (dayOfEffect year month day)

/-- DAYS SINCE (R79). -/
def daysSinceEffect (slot : Byte) (s : State) : State :=
  match indexOf 8 slot with
  | none => answer .badArg s
  | some n =>
    match s.dir.slots[n].stamp with
    | none => answer .wrongState s
    | some st =>
      let doubt := flagByte (st.doubt || s.cal.doubt)
      if s.cal.day < st.day then reply .future (le2 0 ++ [doubt]) s
      else reply .ok (le2 (s.cal.day - st.day) ++ [doubt]) s

/-- DAYS_SINCE (R79). -/
def execDaysSince (slot : Byte) (s : State) : Host.Outcome State Fault Refusal :=
  command (.daysSince slot) s (daysSinceEffect slot)

/-- The elapsed seconds between the power stamps (R81). "Never negative": a difference below 0, which no run gives, is
taken as 0 (DESIGN CHOICE, log 26). -/
def elapsedSeconds (down up : PowerStamp) : Nat :=
  (((up.day : Int) - down.day) * 86400 + ((up.sec : Int) - down.sec)).toNat

/-- ABSENCE's seconds and days fields (R81). -/
def absenceFields (c : Calendar) : Nat × Nat :=
  match c.down, c.up with
  | some down, some up => (min 16777215 (elapsedSeconds down up), elapsedSeconds down up / 86400)
  | _, _ => (0, 0)

/-- A power stamp with its presence byte (R171). -/
def stampBytes (st : Option PowerStamp) : List Byte :=
  let v := st.getD ⟨0, 0⟩
  flagByte st.isSome :: (le2 v.day ++ le3 v.sec)

/-- ABSENCE's 18 bytes (R81, R171). -/
def absencePayload (c : Calendar) : List Byte :=
  stampBytes c.down ++ stampBytes c.up ++ le3 (absenceFields c).1 ++ le2 (absenceFields c).2 ++ [flagByte c.doubt]

/-- ABSENCE (R81). -/
def execAbsence (s : State) : Host.Outcome State Fault Refusal :=
  command .absence s fun s => reply .ok (absencePayload s.cal) s

/-! ## The advance of the time (R69 to R71) -/

/-- The edge that arrives ends the second (R69). -/
def Calendar.endsSecond (c : Calendar) : Bool :=
  if c.sec % 60 ≠ 0 then decide (32767 ≤ c.prescaler)
  else if 0 ≤ c.trim then decide (32767 - c.trim ≤ (c.prescaler : Int))
  else decide (32767 ≤ c.prescaler) && decide (-c.trim ≤ (c.extension : Int))

/-- An edge that does not end the second (R69). -/
def Calendar.countEdge (c : Calendar) : Calendar :=
  if 32767 ≤ c.prescaler then { c with extension := c.extension + 1 } else { c with prescaler := c.prescaler + 1 }

/-- The hold value: day 65535, second 86399 (R71). -/
def Calendar.atHold (c : Calendar) : Bool := c.day == 65535 && c.sec == 86399

/-- The second starts afresh: P and X are 0 (R69). -/
def Calendar.restart (c : Calendar) : Calendar := { c with prescaler := 0, extension := 0 }

/-- The time one second on, with the day carry (R70). -/
def Calendar.advance (c : Calendar) : Calendar :=
  if c.sec < 86399 then { c with sec := c.sec + 1 } else { c with sec := 0, day := c.day + 1 }

/-- The advance carries into the next day (R70). -/
def Calendar.carries (c : Calendar) : Bool := decide (86399 ≤ c.sec)

/-! ## The crystal (R67) -/

/-- OSCILLATOR_STOP (R67): DOUBT is set and no edges come. The detector is powered with the battery domain. -/
def execOscillatorStop (s : State) : Host.Outcome State Fault Refusal :=
  if s.supply.domainValid then
    .next { s with crystal := { s.crystal with running := false }, cal := { s.cal with doubt := true } }
  else .next { s with crystal := { s.crystal with running := false } }

/-- CRYSTAL_EDGES_RETURN (R67): both counters go on from the values they held, DOUBT stays. -/
def execCrystalEdgesReturn (s : State) : Host.Outcome State Fault Refusal :=
  .next { s with crystal := { s.crystal with running := true } }

end Sys2Proof.Machine
end

