-- ==== Sys2Proof/Machine/Cues.lean ====
section
/-! DEFINITION. Cues (ch. 5): the records' commands, the evaluation at a second tick, firings and their actions; and the
second tick (R70, R71). -/

namespace Sys2Proof.Machine

/-! ## CUE SET, CUE CLEAR, CUE GET (R84 to R86) -/

/-- The trigger that CUE SET's fields give, none where R84 refuses it. -/
def triggerOf (f : CueFields) : Option Trigger :=
  match f.trigger.toNat with
  | 1 =>
    let sec := nat3 f.param0 f.param1 f.param2
    if sec ≤ 86399 then some (.daily sec) else none
  | 2 =>
    let period := nat2 f.param0 f.param1
    if period = 0 then none else some (.every period period)
  | 3 => some .dayroll
  | 4 =>
    let sec := nat3 f.param2 f.param3 f.param4
    if sec ≤ 86399 then some (.once (nat2 f.param0 f.param1) sec) else none
  | _ => none

/-- The sound action: the outer option is the refusal of R84, the inner one the action's presence. -/
def soundOf (f : CueFields) : Option (Option CueSound) :=
  match boolOf f.soundPresent with
  | none => none
  | some false => some none
  | some true =>
    if f.instrument.toNat ≤ 15 ∧ f.volume.toNat ≤ 15 ∧ f.hold ≠ 0 then
      some (some ⟨f.instrument.toNat, f.increment.toNat, f.volume.toNat, f.hold.toNat⟩)
    else none

/-- The rumble action, in the same form. -/
def rumbleOf (f : CueFields) : Option (Option CueRumble) :=
  match boolOf f.rumblePresent with
  | none => none
  | some false => some none
  | some true =>
    if f.pattern.toNat ≤ 15 ∧ f.priority.toNat ≤ 3 then some (some ⟨f.pattern.toNat, f.priority.toNat⟩) else none

/-- The record that CUE SET loads whole (R84), none where it is refused. -/
def cueOf (f : CueFields) : Option (CueNo × Cue) :=
  match indexOf 8 f.cue, triggerOf f, boolOf f.irq, soundOf f, rumbleOf f with
  | some n, some trigger, some irq, some sound, some rumble =>
    some (n, { trigger := trigger, armed := true, irq := irq, sound := sound, rumble := rumble, count := 0,
               pending := false, missed := false })
  | _, _, _, _, _ => none

/-- CUE SET (R84). -/
def cueSetEffect (f : CueFields) (s : State) : State :=
  match cueOf f with
  | some (n, c) => answer .ok (setCue n c s)
  | none => answer .badArg s

/-- CUE_SET (R84). -/
def execCueSet (f : CueFields) (s : State) : Host.Outcome State Fault Refusal :=
  command (.cueSet f) s (cueSetEffect f)

/-- CUE CLEAR (R85). -/
def cueClearEffect (cue : Byte) (s : State) : State :=
  match indexOf 8 cue with
  | some n => answer .ok (setCue n { s.cues[n] with armed := false } s)
  | none => answer .badArg s

/-- CUE_CLEAR (R85). -/
def execCueClear (cue : Byte) (s : State) : Host.Outcome State Fault Refusal :=
  command (.cueClear cue) s (cueClearEffect cue)

/-- The 5 parameter bytes of CUE GET (R171); bytes of parameters a trigger does not have are zero (DEDUCED, log 16). -/
def triggerBytes : Trigger → List Byte
  | .off => [0, 0, 0, 0, 0]
  | .daily sec => le3 sec ++ [0, 0]
  | .every period countdown => le2 period ++ le2 countdown ++ [0]
  | .dayroll => [0, 0, 0, 0, 0]
  | .once day sec => le2 day ++ le3 sec

/-- CUE GET's 21 bytes (R86, R171). -/
def cueGetPayload (n : CueNo) (c : Cue) : List Byte :=
  let sd := c.sound.getD ⟨0, 0, 0, 0⟩
  let rm := c.rumble.getD ⟨0, 0⟩
  [byteOf n.val, byteOf c.trigger.code] ++ triggerBytes c.trigger ++
  [flagByte c.armed, flagByte c.irq, flagByte c.sound.isSome, byteOf sd.instrument] ++ le2 sd.increment ++
  [byteOf sd.volume, byteOf sd.hold, flagByte c.rumble.isSome, byteOf rm.pattern, byteOf rm.priority, byteOf c.count,
   flagByte c.pending, flagByte c.missed]

/-- CUE GET (R86): the record is reported, then count, pending and missed are cleared in the same step. -/
def cueGetEffect (cue : Byte) (s : State) : State :=
  match indexOf 8 cue with
  | some n =>
    reply .ok (cueGetPayload n s.cues[n]) (setCue n { s.cues[n] with count := 0, pending := false, missed := false } s)
  | none => answer .badArg s

/-- CUE_GET (R86). -/
def execCueGet (cue : Byte) (s : State) : Host.Outcome State Fault Refusal :=
  command (.cueGet cue) s (cueGetEffect cue)

/-! ## Evaluation (R87 to R91) -/

/-- The moment a tick hands to the cue unit (R70): the new D and S, whether D advanced, and whether a firing now counts
as missed (R91). -/
structure TickMoment where
  day : Nat
  sec : Nat
  rolled : Bool
  missing : Bool
  deriving DecidableEq, Repr

/-- The armed cue's trigger fires at the moment (R88 to R90). -/
def Trigger.fires (m : TickMoment) : Trigger → Bool
  | .off => false
  | .daily sec => sec == m.sec
  | .every _ countdown => decide (countdown ≤ 1)
  | .dayroll => m.rolled
  | .once day sec => day == m.day && sec == m.sec

/-- The trigger after its evaluation: an EVERY countdown falls, and at 0 becomes the period again (R89). -/
def Trigger.stepped : Trigger → Trigger
  | .every period countdown => .every period (if countdown ≤ 1 then period else countdown - 1)
  | t => t

/-- A ONCE cue is disarmed by its firing (R90). -/
def Trigger.disarms : Trigger → Bool
  | .once _ _ => true
  | _ => false

/-- The cue fires at the moment: armed, and its trigger fires (R87). -/
def Cue.fires (m : TickMoment) (c : Cue) : Bool := c.armed && c.trigger.fires m

/-- The record of a cue that fires (R91). -/
def Cue.fired (m : TickMoment) (c : Cue) : Cue :=
  { c with armed := c.armed && !c.trigger.disarms, count := min 255 (c.count + 1), pending := c.pending || c.irq,
           missed := c.missed || m.missing }

/-- A cue after its evaluation (R87): disarmed it is passed over. -/
def Cue.evaluated (m : TickMoment) (c : Cue) : Cue :=
  if !c.armed then c
  else
    let d := if c.fires m then c.fired m else c
    { d with trigger := c.trigger.stepped }

/-- The cues that fire at the moment, in number order (R87). -/
def firingCues (m : TickMoment) (s : State) : List CueNo := allCues.filter fun n => s.cues[n].fires m

/-- The sound action delivered: that of the lowest-numbered firing cue that has one (R92). -/
def chosenSound (s : State) : List CueNo → Option CueSound
  | [] => none
  | n :: rest =>
    match s.cues[n].sound with
    | some a => some a
    | none => chosenSound s rest

/-- The rumble actions of the firing cues, in number order (R93). -/
def submitRumbles (cues : List CueNo) (s : State) : State :=
  cues.foldl (fun t n =>
    match s.cues[n].rumble with
    | some a => submitCue a t
    | none => t) s

/-- The delivery of the firings' actions: in RUN or WARN with /CRST released, the sound first (R91). -/
def deliverActions (cues : List CueNo) (s : State) : State :=
  if answered s then
    let t := match chosenSound s cues with
      | some a => cueNote a s
      | none => s
    submitRumbles cues t
  else s

/-- The evaluation of cues 0 to 7 as one step (R87). -/
def evaluateCues (m : TickMoment) (s : State) : State :=
  deliverActions (firingCues m s) { s with cues := tabulate fun n => s.cues[n].evaluated m }

/-! ## The second tick (R70, R71) -/

/-- The moment of a tick after which the record is c. -/
def momentOf (s : State) (c : Calendar) (rolled : Bool) : TickMoment :=
  ⟨c.day, c.sec, rolled, s.supply.monitor == .battery || s.supply.monitor == .starting⟩

/-- The end of a second (R69 to R71): P and X are 0; at the hold value END is set and nothing advances; otherwise, with
END clear, the time advances and the cue unit evaluates. -/
def secondTick (s : State) : State :=
  let c := s.cal.restart
  if c.atHold then setCal { c with atEnd := true } s
  else if c.atEnd then setCal c s
  else
    let d := c.advance
    evaluateCues (momentOf s d c.carries) (setCal d s)

/-- SECOND_TICK (R70): the edges left of the second are taken as having come (log 8). The calendar runs in every monitor
state, while the battery domain is valid and the crystal gives edges. -/
def execSecondTick (s : State) : Host.Outcome State Fault Refusal :=
  if s.supply.domainValid && s.crystal.running then .next (secondTick s) else .next s

end Sys2Proof.Machine
end

