-- ==== Sys2Proof/Machine/Supply.lean ====
section
/-! DEFINITION. The supply watch (ch. 9): the battery domain, start delay, console power-up, warning, failure, /CRST, the
coin cell sense; the sampling of the straps (R168) and SOFT RESET (R170). -/

namespace Sys2Proof.Machine

/-- Change the supply watch by a function. -/
def changeSupply (f : Supply → Supply) (s : State) : State := { s with supply := f s.supply }

/-! ## Straps and profile (R168, R169) -/

/-- The strap is high. -/
def strap (straps : Straps) (i : Nat) : Bool := straps.getLsbD i

/-- The ROM size code that the straps give (R168). -/
def strapRomCode (straps : Straps) : Nat := bitsOf [strap straps 0, strap straps 1, strap straps 2]

/-- The number of high straps is odd (R168). -/
def oddStraps (straps : Straps) : Bool :=
  (List.range 6).foldl (fun p i => p != strap straps i) false

/-- The straps are valid: an odd number of them high, and a ROM size code other than 7 (R168). -/
def validStraps (straps : Straps) : Bool := oddStraps straps && strapRomCode straps != 7

/-- The profile that a sampling of the straps makes (R168), with the last reset kind that goes with it (R169). -/
def sampledProfile (straps : Straps) (kind : ResetKind) : Profile :=
  if validStraps straps then
    { romCode := strapRomCode straps, blocks := if strap straps 3 then 16 else 8, motor := strap straps 4,
      fallback := false, straps := straps, lastReset := kind }
  else Profile.fallbackOf straps kind

/-- The profile is taken and the map loaded for its page count (R168, R4). -/
def loadProfile (p : Profile) (s : State) : State := { s with profile := p, map := loadedMap p.pageCount }

/-- STRAP and BATLOW, set after the clearing of the fault flags (R168, R159). -/
def flagSupply (s : State) : State :=
  setFaultIf s.supply.batlowSense .batlow (setFaultIf s.profile.fallback .strap s)

/-! ## What a reset does to the console-powered blocks -/

/-- The voices and the mixer after a reset (R118, R117). -/
def resetSound (s : State) : State :=
  { s with voices := initialVoices, mixer := { master := 16, dac := some 512 } }

/-- The sequencer, frame capture and ROM port after RESET LINE or SOFT RESET (R134, R20): the counter C goes on. -/
def resetSequencer (s : State) : State :=
  { s with tracks := initialTracks, frame := .initial s.frame.counter, port := .idle }

/-- The rumble drive after RESET LINE or SOFT RESET (R152): heat, HOT and the patterns are kept, and the PWM period that
runs is driven to its end (R144, log 23). -/
def Rumble.restarted (r : Rumble) : Rumble :=
  { r with active := none, queue := [], zeroRun := 8, stallTimer := 0, lastEnd := .none }

/-- The rumble drive releases its grant or withdraws its request, and takes its reset values (R152, R161). -/
def resetRumble (s : State) : State :=
  let t := endKick s
  { t with rumble := t.rumble.restarted }

/-- The blocks that RESET LINE and SOFT RESET treat alike (R63, R118, R134, R152). -/
def resetBlocks (s : State) : State := resetRumble (resetSequencer (resetSound (engineReset s)))

/-- Record the last reset kind (R169). -/
def setLastReset (kind : ResetKind) (s : State) : State := { s with profile := { s.profile with lastReset := kind } }

/-! ## SOFT RESET (R170) -/

/-- SOFT RESET (R170, R178, R4): the reply is made last; fault flags, fault record and profile are kept. -/
def softResetEffect (s : State) : State :=
  let t := setLastReset .softReset (loadProfile s.profile (resetBlocks s))
  answer .ok { t with cmd := .initial, cause := { t.cause with enables := 0, latches := .clear } }

/-- SOFT_RESET (R170). -/
def execSoftReset (s : State) : Host.Outcome State Fault Refusal := command .softReset s softResetEffect

/-! ## RESET LINE and its release (R160) -/

/-- The RESET LINE values of every block (R160): the straps and the map wait for the release. -/
def resetLineEffect (s : State) : State :=
  setLastReset .resetLine { resetBlocks s with cmd := .initial, cause := .initial }

/-- RESET_LINE (R160): /CRST goes to asserted; the reset is made in RUN and WARN, at the edge. -/
def execResetLine (s : State) : Host.Outcome State Fault Refusal :=
  let t := changeSupply (fun u => { u with crst := true }) s
  if answered s then .next (resetLineEffect t) else .next t

/-- What the blocks apply at the release of /CRST (R160, R4, R64, R168, R159). -/
def releaseEffect (straps : Straps) (s : State) : State :=
  flagSupply (fitPool (loadProfile (sampledProfile straps s.profile.lastReset) s))

/-- CRST_RELEASE (R160): the straps are sampled when /CRST was held in RUN or WARN. -/
def execCrstRelease (straps : Straps) (s : State) : Host.Outcome State Fault Refusal :=
  let t := changeSupply (fun u => { u with crst := false }) s
  if powered s && s.supply.crst then .next (releaseEffect straps t) else .next t

/-! ## The battery domain (R158) -/

/-- Every battery-kept field at its BATTERY ATTACH value (R43, R82, R95, R158); SRAM is not set (R43). -/
def attachValues (s : State) : State :=
  { s with
    dir := { s.dir with slots := Vector.replicate 8 SlotRecord.attached, protect := .attached },
    cal := .attached,
    cues := Vector.replicate 8 Cue.attached,
    supply := { s.supply with monitor := .battery, startTimer := 0, batlowFilter := 0, batlowSense := false } }

/-- BATTERY ATTACH (R158): the attach values, the attach mark set (R169), the domain valid. -/
def attach (s : State) : State :=
  changeSupply (fun u => { u with attachMark := true, domainValid := true }) (attachValues s)

/-- BATTERY_ATTACH (R158): a cell fitted while the domain is valid is no attach. -/
def execBatteryAttach (s : State) : Host.Outcome State Fault Refusal :=
  if s.supply.domainValid then .next s else .next (attach s)

/-! ## Start delay (R154, R155) -/

/-- Entry to STARTING (R155). -/
def enterStarting (s : State) : State := changeSupply (fun u => { u with monitor := .starting, startTimer := 0 }) s

/-- VCON_RISE (R155): in an invalid domain BATTERY ATTACH comes first (R158). -/
def execVconRise (s : State) : Host.Outcome State Fault Refusal :=
  if s.supply.monitor = .battery then
    .next (enterStarting (if s.supply.domainValid then s else attach s))
  else .next s

/-- Back to BATTERY with the timer at 0 (R155). -/
def abortStart (s : State) : State := changeSupply (fun u => { u with monitor := .battery, startTimer := 0 }) s

/-- STARTING_ABORT (R155). -/
def execStartingAbort (s : State) : Host.Outcome State Fault Refusal :=
  if s.supply.monitor = .starting then .next (abortStart s) else .next s

/-! ## CONSOLE POWER-UP (R155) -/

/-- The last reset kind that a CONSOLE POWER-UP leaves (R169). -/
def powerUpKind (s : State) : ResetKind := if s.supply.attachMark then .batteryAttach else .consolePowerUp

/-- The supply watch on entry to RUN: grant free, no request, attach mark cleared (R155, R161, R169). -/
def Supply.running (u : Supply) : Supply :=
  { u with monitor := .run, startTimer := 50, attachMark := false, holder := .none, engineReq := false,
           kickerReq := false }

/-- The blocks that hold nothing of their own across a power-up (R20, R66, R96, R118, R134, R152, R170, R178). -/
def powerUpBlocks (s : State) : State :=
  resetSound { s with
    slot := { last := none }, port := .idle, sound := [], saveAccess := none,
    tracks := initialTracks, frame := .initial 0, crystal := { s.crystal with divider := 0 },
    rumble := .initial s.rumble.stallInput (some false), cmd := .initial, cause := .initial }

/-- The calendar at CONSOLE POWER-UP: the power-up stamp (R80), and DOUBT when the BATLOW sense is true (R72, R159). -/
def Calendar.poweredUp (c : Calendar) (sense : Bool) : Calendar :=
  { c with up := some ⟨c.day, c.sec⟩, doubt := c.doubt || sense }

/-- CONSOLE POWER-UP with the straps as sampled (R155, R160). -/
def powerUp (straps : Straps) (s : State) : State :=
  let p := sampledProfile straps (powerUpKind s)
  let t := loadProfile p (powerUpBlocks (changeSupply Supply.running s))
  flagSupply (setCal (t.cal.poweredUp t.supply.batlowSense) (enginePowerUp t))

/-- CONSOLE_POWER_UP (R155): /CRST asserted at entry to RUN makes a RESET LINE at once. -/
def execConsolePowerUp (straps : Straps) (s : State) : Host.Outcome State Fault Refusal :=
  if s.supply.monitor = .starting then
    .next (if s.supply.crst then resetLineEffect (powerUp straps s) else powerUp straps s)
  else .next s

/-! ## Warning (R156) -/

/-- Set the monitor state. -/
def setMonitor (m : Monitor) (s : State) : State := changeSupply (fun u => { u with monitor := m }) s

/-- A WARN spell begins: no rumble tick of it has come (R147, log 30). -/
def beginSpell (s : State) : State := { s with rumble := { s.rumble with warnTicks := 0 } }

/-- Entry to WARN (R156, R147): a kick ends or withdraws, and a waiting engine request is given the grant (R161). -/
def enterWarn (s : State) : State := endKick (beginSpell (setMonitor .warn s))

/-- WARN_ENTRY (R156). -/
def execWarnEntry (s : State) : Host.Outcome State Fault Refusal :=
  if s.supply.monitor = .run then .next (enterWarn s) else .next s

/-- WARN_EXIT (R156). -/
def execWarnExit (s : State) : Host.Outcome State Fault Refusal :=
  if s.supply.monitor = .warn then .next (setMonitor .run s) else .next s

/-! ## FAIL (R157) -/

/-- The console-powered logic stops and its state is lost: it stands at the values of `State.reset` until the next
CONSOLE POWER-UP gives its own (R157, log 14). -/
def consoleOff (s : State) : State :=
  { s with
    slot := State.reset.slot, map := State.reset.map, profile := State.reset.profile, port := State.reset.port,
    sound := State.reset.sound, saveAccess := State.reset.saveAccess,
    crystal := { s.crystal with divider := 0 },
    voices := State.reset.voices, mixer := State.reset.mixer, tracks := State.reset.tracks,
    frame := State.reset.frame, rumble := .initial s.rumble.stallInput none, cmd := State.reset.cmd,
    cause := State.reset.cause }

/-- The supply watch after FAIL: BATTERY, grant free, no request (R157, R161). -/
def Supply.failed (u : Supply) : Supply :=
  { u with monitor := .battery, holder := .none, engineReq := false, kickerReq := false }

/-- FAIL taken from WARN (R157, R60, R80). -/
def failFromWarn (s : State) : State :=
  let t := engineFail s
  consoleOff (changeSupply Supply.failed (setCal { t.cal with down := some ⟨t.cal.day, t.cal.sec⟩ } t))

/-- A collapse of VCON from each monitor state (R154): from RUN through WARN, from STARTING with no FAIL. -/
def collapse (s : State) : State :=
  match s.supply.monitor with
  | .battery => s
  | .starting => abortStart s
  | .run => failFromWarn (enterWarn s)
  | .warn => failFromWarn s

/-- FAIL (R157); from the other states the collapse of R154. -/
def execFail (s : State) : Host.Outcome State Fault Refusal := .next (collapse s)

/-- The battery domain loses its contents (R158): the fields stand at their attach values and the SRAM at its unlisted
value until BATTERY ATTACH sets them (log 15). The cell is absent or spent, and an absent cell counts as VBAT at 0 V, so
VBAT lies below VL (R159) until it rises (BATLOW_SENSE_CLEAR). -/
def loseDomain (s : State) : State :=
  changeSupply (fun u => { u with attachMark := false, domainValid := false, vbatLow := true })
    { attachValues s with sram := [] }

/-- BATTERY_DOMAIN_INVALID (R158): VCON has failed too, so the console side collapses first. -/
def execBatteryDomainInvalid (s : State) : Host.Outcome State Fault Refusal := .next (loseDomain (collapse s))

/-! ## Coin cell sense (R159) -/

/-- What the sense becoming true does in each monitor state (R159). -/
def senseEffect (s : State) : State :=
  match s.supply.monitor with
  | .battery => setCal { s.cal with doubt := true } s
  | .starting => s
  | .run => setFault .batlow s
  | .warn => setFault .batlow s

/-- BATLOW_SENSE_SET (R159): the filter, running, has reached 2 ms (log 7). -/
def execBatlowSenseSet (s : State) : Host.Outcome State Fault Refusal :=
  if s.supply.domainValid && s.supply.vbatLow && !s.supply.batlowSense then
    .next (senseEffect (changeSupply (fun u => { u with batlowFilter := 2, batlowSense := true }) s))
  else .next s

/-- BATLOW_SENSE_CLEAR (R159). -/
def execBatlowSenseClear (s : State) : Host.Outcome State Fault Refusal :=
  .next (changeSupply (fun u => { u with vbatLow := false, batlowFilter := 0, batlowSense := false }) s)

/-- VBAT_LOW (R159): the filter begins to run. -/
def execVbatLow (s : State) : Host.Outcome State Fault Refusal :=
  .next (changeSupply (fun u => { u with vbatLow := true }) s)

end Sys2Proof.Machine
end

