-- ==== Sys2Proof/Machine/Dispatch.lean ====
section
/-! DEFINITION. The dispatch: one arm per row of the opcode table, each one direct call of the row's meaning. -/

namespace Sys2Proof.Machine

/-- A command's effect on everything but the queue. -/
def exec (i : Instr) (s : State) : Host.Outcome State Fault Refusal :=
  match i with
  | .consoleRead addr => Sys2Proof.Machine.execConsoleRead addr s
  | .consoleWrite addr data => Sys2Proof.Machine.execConsoleWrite addr data s
  | .cmdWrite data => Sys2Proof.Machine.execCmdWrite data s
  | .replyRead => Sys2Proof.Machine.execReplyRead s
  | .statusRead => Sys2Proof.Machine.execStatusRead s
  | .sync data => Sys2Proof.Machine.execSync data s
  | .causeRead => Sys2Proof.Machine.execCauseRead s
  | .apertureIgnoredWrite offset data => Sys2Proof.Machine.execApertureIgnoredWrite offset data s
  | .messageRefused msg => Sys2Proof.Machine.execMessageRefused msg s
  | .mapSet strip kind page writable => Sys2Proof.Machine.execMapSet strip kind page writable s
  | .mapGet strip => Sys2Proof.Machine.execMapGet strip s
  | .profile => Sys2Proof.Machine.execProfile s
  | .faults => Sys2Proof.Machine.execFaults s
  | .faultClear mask => Sys2Proof.Machine.execFaultClear mask s
  | .irqMask mask => Sys2Proof.Machine.execIrqMask mask s
  | .softReset => Sys2Proof.Machine.execSoftReset s
  | .slotInfo slot => Sys2Proof.Machine.execSlotInfo slot s
  | .slotOpen slot => Sys2Proof.Machine.execSlotOpen slot s
  | .slotCommit slot => Sys2Proof.Machine.execSlotCommit slot s
  | .slotAbandon slot => Sys2Proof.Machine.execSlotAbandon slot s
  | .slotErase slot => Sys2Proof.Machine.execSlotErase slot s
  | .slotVerify slot => Sys2Proof.Machine.execSlotVerify slot s
  | .slotProtect count side invert => Sys2Proof.Machine.execSlotProtect count side invert s
  | .poolInfo => Sys2Proof.Machine.execPoolInfo s
  | .engineStart => Sys2Proof.Machine.execEngineStart s
  | .engineByteAccess => Sys2Proof.Machine.execEngineByteAccess s
  | .openEnd => Sys2Proof.Machine.execOpenEnd s
  | .eraseFlip => Sys2Proof.Machine.execEraseFlip s
  | .verifyEnd => Sys2Proof.Machine.execVerifyEnd s
  | .sweepStep => Sys2Proof.Machine.execSweepStep s
  | .sweepScanEnd => Sys2Proof.Machine.execSweepScanEnd s
  | .clockGet => Sys2Proof.Machine.execClockGet s
  | .clockSet year month day hour minute second => Sys2Proof.Machine.execClockSet year month day hour minute second s
  | .clockTrim trim => Sys2Proof.Machine.execClockTrim trim s
  | .dateOf day => Sys2Proof.Machine.execDateOf day s
  | .dayOf year month day => Sys2Proof.Machine.execDayOf year month day s
  | .daysSince slot => Sys2Proof.Machine.execDaysSince slot s
  | .absence => Sys2Proof.Machine.execAbsence s
  | .secondTick => Sys2Proof.Machine.execSecondTick s
  | .oscillatorStop => Sys2Proof.Machine.execOscillatorStop s
  | .cueSet fields => Sys2Proof.Machine.execCueSet fields s
  | .cueClear cue => Sys2Proof.Machine.execCueClear cue s
  | .cueGet cue => Sys2Proof.Machine.execCueGet cue s
  | .voicePlay voice instrument increment volume => Sys2Proof.Machine.execVoicePlay voice instrument increment volume s
  | .voiceSet voice increment volume => Sys2Proof.Machine.execVoiceSet voice increment volume s
  | .voiceRelease voice => Sys2Proof.Machine.execVoiceRelease voice s
  | .voiceStop voice => Sys2Proof.Machine.execVoiceStop voice s
  | .master value => Sys2Proof.Machine.execMaster value s
  | .voiceInfo voice => Sys2Proof.Machine.execVoiceInfo voice s
  | .sampleClock => Sys2Proof.Machine.execSampleClock s
  | .envelopeTick => Sys2Proof.Machine.execEnvelopeTick s
  | .cueHoldExpiry => Sys2Proof.Machine.execCueHoldExpiry s
  | .romArbitration => Sys2Proof.Machine.execRomArbitration s
  | .romByteRead => Sys2Proof.Machine.execRomByteRead s
  | .trackStart track address mask source period => Sys2Proof.Machine.execTrackStart track address mask source period s
  | .trackStop track => Sys2Proof.Machine.execTrackStop track s
  | .trackInfo track => Sys2Proof.Machine.execTrackInfo track s
  | .trackTick track => Sys2Proof.Machine.execTrackTick track s
  | .noteEvent track => Sys2Proof.Machine.execNoteEvent track s
  | .offEvent track => Sys2Proof.Machine.execOffEvent track s
  | .instrEvent track => Sys2Proof.Machine.execInstrEvent track s
  | .volEvent track => Sys2Proof.Machine.execVolEvent track s
  | .pitchEvent track => Sys2Proof.Machine.execPitchEvent track s
  | .tempoEvent track => Sys2Proof.Machine.execTempoEvent track s
  | .loopEvent track => Sys2Proof.Machine.execLoopEvent track s
  | .backEvent track => Sys2Proof.Machine.execBackEvent track s
  | .markerEvent track => Sys2Proof.Machine.execMarkerEvent track s
  | .endEvent track => Sys2Proof.Machine.execEndEvent track s
  | .unknownEvent track => Sys2Proof.Machine.execUnknownEvent track s
  | .frmStrobe => Sys2Proof.Machine.execFrmStrobe s
  | .frameLost => Sys2Proof.Machine.execFrameLost s
  | .syntheticFrame => Sys2Proof.Machine.execSyntheticFrame s
  | .frameMode mode => Sys2Proof.Machine.execFrameMode mode s
  | .rumblePlay pattern priority allowance => Sys2Proof.Machine.execRumblePlay pattern priority allowance s
  | .rumbleStop all => Sys2Proof.Machine.execRumbleStop all s
  | .rumbleRenew allowance => Sys2Proof.Machine.execRumbleRenew allowance s
  | .patternLoad pattern repeatMode steps => Sys2Proof.Machine.execPatternLoad pattern repeatMode steps s
  | .rumbleInfo => Sys2Proof.Machine.execRumbleInfo s
  | .rumbleTick => Sys2Proof.Machine.execRumbleTick s
  | .allowanceExpiry => Sys2Proof.Machine.execAllowanceExpiry s
  | .stepExpiry => Sys2Proof.Machine.execStepExpiry s
  | .kickEnd => Sys2Proof.Machine.execKickEnd s
  | .stallInput asserted => Sys2Proof.Machine.execStallInput asserted s
  | .stallLatch => Sys2Proof.Machine.execStallLatch s
  | .batteryAttach => Sys2Proof.Machine.execBatteryAttach s
  | .batteryDomainInvalid => Sys2Proof.Machine.execBatteryDomainInvalid s
  | .vconRise => Sys2Proof.Machine.execVconRise s
  | .startingAbort => Sys2Proof.Machine.execStartingAbort s
  | .consolePowerUp straps => Sys2Proof.Machine.execConsolePowerUp straps s
  | .warnEntry => Sys2Proof.Machine.execWarnEntry s
  | .warnExit => Sys2Proof.Machine.execWarnExit s
  | .fail => Sys2Proof.Machine.execFail s
  | .resetLine => Sys2Proof.Machine.execResetLine s
  | .crstRelease straps => Sys2Proof.Machine.execCrstRelease straps s
  | .batlowSenseSet => Sys2Proof.Machine.execBatlowSenseSet s
  | .batlowSenseClear => Sys2Proof.Machine.execBatlowSenseClear s
  | .vbatLow => Sys2Proof.Machine.execVbatLow s
  | .crystalEdgesReturn => Sys2Proof.Machine.execCrystalEdgesReturn s
  | .motorPwmSlot => Sys2Proof.Machine.execMotorPwmSlot s

end Sys2Proof.Machine
end

