-- ==== Sys2Proof/Machine/Idle.lean ====
section
/-! DEFINITION. What the part does by itself when no command waits (log 4): a step that the rules make at once, and
otherwise one crystal edge with the ticks it gives (R66, R69). -/

namespace Sys2Proof.Machine

/-! ## Steps the rules make at once -/

/-- The end of the operation in flight, when its last position is done (R55, R57, R58, R62). -/
def dueEnd (s : State) : Option Instr :=
  match s.engine.flight with
  | none => none
  | some f =>
    match f.kind with
    | .open => if scannedAll f then some .openEnd else none
    | .verify => if scannedAll f then some (if f.bySweep then .sweepScanEnd else .verifyEnd) else none
    | .erase => if eraseReady f s then some .eraseFlip else none
    | .commit => none

/-- What an idle engine starts: the oldest entry, or with an empty queue a step of the sweep (R45, R62). -/
def dueStart (s : State) : Option Instr :=
  if !engineIdle s then none
  else if !s.engine.queue.isEmpty then some .engineStart
  else if sweepDue s then some .sweepStep
  else none

/-- A grant that an idle ROM port gives (R18). -/
def dueGrant (s : State) : Option Instr :=
  if portIdle s && (nextHolder s).isSome then some .romArbitration else none

/-- The step that the rules make at once, if one stands: the end of an operation, a start of the engine (R45: an entry
accepted while the engine is idle leaves the queue at once, before a further message is taken), a grant of the ROM port
(R18), a message that can be taken (R165). -/
def dueStep (s : State) : Option Instr :=
  if powered s then
    (dueEnd s).or ((dueStart s).or ((dueGrant s).or (standingMessage s)))
  else none

/-! ## The crystal edge -/

/-- A tick that a crystal edge gives, with its owner (R66, R69). -/
inductive Tick where
  | second | voices | track (t : TrackNo) | pwm | capture | envelope | rumble
  deriving DecidableEq, Repr

/-- What a tick does. -/
def Tick.act (k : Tick) (s : State) : State :=
  match k with
  | .second => secondTick s
  | .voices => sampleVoices s
  | .track t => sampleTrack s t
  | .pwm => pwmSlot s
  | .capture => captureCount s
  | .envelope => envelopeAll s
  | .rumble => rumbleTick s

/-- The ticks given when the divider's count becomes c (R66). -/
def dividerTicks (c : Nat) : List Tick :=
  (if c % 2 = 0 then [.voices, .track 0, .track 1, .pwm, .capture] else []) ++
  (if c % 128 = 0 then [.envelope] else []) ++
  (if c = 0 then [.rumble] else [])

/-- Put a at place n of a list. -/
def insertAt {α : Type} (a : α) : Nat → List α → List α
  | 0, l => a :: l
  | _ + 1, [] => [a]
  | n + 1, b :: l => b :: insertAt a n l

/-- A rearrangement of a list, chosen by a number; every one is chosen by some number. -/
def rearrange {α : Type} : Nat → List α → List α
  | _, [] => []
  | n, a :: l => insertAt a (n % (l.length + 1)) (rearrange (n / (l.length + 1)) l)

/-- The calendar counts an edge that does not end the second (R69). -/
def calendarEdge (s : State) : State :=
  if s.supply.domainValid && !s.cal.endsSecond then setCal s.cal.countEdge s else s

/-- The divider counts an edge from CONSOLE POWER-UP to FAIL (R66). -/
def dividerEdge (s : State) : State :=
  if powered s then { s with crystal := { s.crystal with divider := (s.crystal.divider + 1) % 512 } } else s

/-- The ticks of the next edge (R66, R69): the second's end, and those of the divider's new count. -/
def edgeTicks (s : State) : List Tick :=
  (if s.supply.domainValid && s.cal.endsSecond then [.second] else []) ++
  (if powered s then dividerTicks ((s.crystal.divider + 1) % 512) else [])

/-- One crystal edge (R66, R69). Its ticks are taken in the order that the free value `Config.edgeOrder` chooses
(DESIGN CHOICE, log 5). -/
def crystalEdge (s : State) : State :=
  let order := rearrange (Config.edgeOrder s.freeIndex) (edgeTicks s)
  order.foldl (fun t k => k.act t) (dividerEdge (calendarEdge { s with freeIndex := s.freeIndex + 1 }))

/-- What an empty queue does (DESIGN CHOICE, log 4): the due step, or a crystal edge while the crystal gives edges. -/
def idle (s : State) : Host.Outcome State Fault Refusal :=
  match dueStep s with
  | some c => exec c s
  | none => .next (if s.crystal.running then crystalEdge s else s)

end Sys2Proof.Machine
end

