-- ==== Sys2Proof/Safety.lean ====
section
/-! DEFINITION. What a run keeps: the ranges and relations the manual gives its state, as decidable properties of a state
that every step preserves; and what it means that a message stands ready to be taken and what its reply leaves. -/

namespace Sys2Proof.Safety

open Sys2Proof.Machine

/-! ## Messages -/

/-- A command's message stands ready (R165): transactions are answered, the reply FIFO has 35 or more free bytes, and
the command FIFO holds the message's bytes, and behind them the rest. -/
abbrev Ready (c : Instr) (rest : List Byte) (s : State) : Prop :=
  answered s = true ∧ s.cmd.reply.length + 35 ≤ 64 ∧ s.cmd.fifo = frameOf c ++ rest

/-- The state with the message taken, the rest left in the command FIFO (R165). -/
def taken (rest : List Byte) (s : State) : State := { s with cmd := { s.cmd with fifo := rest } }

/-- The state with a reply joined to the reply FIFO (R164, R166). -/
def replied (st : ReplyStatus) (payload : List Byte) (s : State) : State :=
  { s with cmd := { s.cmd with reply := s.cmd.reply ++ frame st.code payload } }

/-- The command's message, standing ready in s with the rest behind it, is taken: t is what it makes of s outside the
command unit, and the reply has this status and payload. -/
abbrev Answers (c : Instr) (rest : List Byte) (s : State) (st : ReplyStatus) (payload : List Byte) (t : State) : Prop :=
  exec c s = .next (replied st payload (taken rest t))

/-- The command's message, standing ready in s, is refused with a status: nothing but the command unit changes. -/
abbrev Refuses (c : Instr) (rest : List Byte) (s : State) (st : ReplyStatus) : Prop := Answers c rest s st [] s

/-! ## Memories, profile, map -/

/-- The profile is one that R168 can give. -/
abbrev ProfileLegal (s : State) : Prop := s.profile.romCode ≤ 6 ∧ (s.profile.blocks = 8 ∨ s.profile.blocks = 16)

/-- The three memories keep their canonical form and size (R9, R12, R21). -/
abbrev MemoriesCanonical (s : State) : Prop :=
  Memory.wf romUnlisted 16777216 s.rom ∧ Memory.wf sramUnlisted 65536 s.sram ∧ Memory.wf soundUnlisted 4096 s.sound

/-- What the memories need to keep their form: blocks of the profile lie inside the SRAM. -/
abbrev MemoryKept (s : State) : Prop := ProfileLegal s ∧ MemoriesCanonical s

/-- A legal map entry for a page count (R3). -/
abbrev EntryLegal (pages : Nat) (e : MapEntry) : Prop :=
  (e.kind = .rom → e.page < pages) ∧ (e.kind = .saveSlot → e.page ≤ 7) ∧
  (e.kind ≠ .rom → e.kind ≠ .saveSlot → e.page = 0) ∧
  (e.writable = true → e.kind = .saveSlot ∨ e.kind = .soundRam)

/-- Every map entry is legal (R3), under a legal profile. -/
abbrev MapKept (s : State) : Prop := ProfileLegal s ∧ ∀ i : Fin 16, EntryLegal s.profile.pageCount s.map[i]

/-! ## FIFOs and queues -/

/-- The free pool: ascending, without duplicates, below the block count (R26). -/
abbrev PoolLegal (s : State) : Prop :=
  s.dir.pool.Pairwise (fun a b => a < b) ∧ ∀ b ∈ s.dir.pool, b < s.profile.blocks

/-- FIFOs, queues and the sweep stay inside their sizes (R52, R45, R137, R163, R166). -/
abbrev BoundsKept (s : State) : Prop :=
  ProfileLegal s ∧ PoolLegal s ∧ s.cmd.fifo.length ≤ 64 ∧ s.cmd.reply.length ≤ 64 ∧ s.engine.queue.length ≤ 4 ∧
  s.engine.sweep ≤ 8 ∧ (∀ f ∈ s.engine.flight, f.bySweep = true → f.kind = .verify ∧ s.engine.sweep < 8) ∧
  s.rumble.queue.length ≤ 4

/-- An invalid battery domain has no console either (R158). -/
abbrev DomainFits (s : State) : Prop := s.supply.domainValid = false → s.supply.monitor = .battery

/-! ## The surge grant -/

/-- The operation in flight waits for the grant (R59). -/
def engineWaits (s : State) : Bool :=
  match s.engine.flight with
  | some f => (f.kind == .commit || f.kind == .erase) && f.stage == .grantWait
  | none => false

/-- The operation in flight draws current under the grant: an ERASE in FILL or FLIP (R57). -/
def engineDraws (s : State) : Bool :=
  match s.engine.flight with
  | some f => f.kind == .erase && (f.stage == .fill || f.stage == .flip)
  | none => false

/-- The stage is one of its operation's kind (R45). -/
def stageFits (s : State) : Bool :=
  match s.engine.flight with
  | none => true
  | some f =>
    match f.kind with
    | .open => f.stage == .copy || f.stage == .fill
    | .commit => f.stage == .grantWait
    | .erase => f.stage == .grantWait || f.stage == .fill || f.stage == .flip
    | .verify => f.stage == .scan

/-- The active request's kick is in progress, with 1 to 3 ticks left (R146). -/
def kicks (s : State) : Bool :=
  match s.rumble.active with
  | some a =>
    match a.kick with
    | .kicking n => decide (1 ≤ n) && decide (n ≤ 3)
    | .none => false
    | .waiting => false
  | none => false

/-- The active request has no kick at all, or none whose count is out of range (R146). -/
def kickFits (s : State) : Bool :=
  match s.rumble.active with
  | some a =>
    match a.kick with
    | .kicking n => decide (1 ≤ n) && decide (n ≤ 3)
    | .none => true
    | .waiting => true
  | none => true

/-- The surge grant and its requests (R161, R146, R59): who holds it is at work under it, who waits for it has its
request standing, and a request stands only behind the other holder. -/
abbrev GrantKept (s : State) : Prop :=
  stageFits s = true ∧ kickFits s = true ∧ DomainFits s ∧
  (s.supply.holder = .kicker ↔ kicks s = true) ∧ (s.supply.holder = .engine ↔ engineDraws s = true) ∧
  (s.supply.engineReq = true ↔ engineWaits s = true) ∧ (s.supply.kickerReq = true ↔ kickWaits s = true) ∧
  (s.supply.holder ≠ .none → powered s = true) ∧
  (s.supply.holder = .kicker → s.supply.monitor = .run) ∧ (s.supply.kickerReq = true → s.supply.monitor = .run) ∧
  (s.supply.engineReq = true → s.supply.holder = .kicker) ∧ (s.supply.kickerReq = true → s.supply.holder = .engine)

/-! ## Calendar and cues -/

/-- A power stamp lies in its ranges (R68). -/
abbrev StampLegal (st : PowerStamp) : Prop := st.day ≤ 65535 ∧ st.sec ≤ 86399

/-- The time record lies in its ranges (R68), END only at the hold value (R71); the divider lies in its range (R66). -/
abbrev CalendarKept (s : State) : Prop :=
  s.cal.day ≤ 65535 ∧ s.cal.sec ≤ 86399 ∧ s.cal.prescaler ≤ 32767 ∧ s.cal.extension ≤ 64 ∧ -64 ≤ s.cal.trim ∧
  s.cal.trim ≤ 63 ∧ s.cal.setCount ≤ 255 ∧ (s.cal.atEnd = true → s.cal.day = 65535 ∧ s.cal.sec = 86399) ∧
  (∀ st ∈ s.cal.down, StampLegal st) ∧ (∀ st ∈ s.cal.up, StampLegal st) ∧ s.crystal.divider < 512

/-- A trigger lies in its ranges (R83). -/
def triggerLegal : Trigger → Bool
  | .off => true
  | .daily sec => decide (sec ≤ 86399)
  | .every period countdown => decide (1 ≤ countdown) && decide (countdown ≤ period) && decide (period ≤ 65535)
  | .dayroll => true
  | .once day sec => decide (day ≤ 65535) && decide (sec ≤ 86399)

/-- A sound action lies in its ranges (R83). -/
abbrev SoundLegal (a : CueSound) : Prop :=
  a.instrument ≤ 15 ∧ a.increment ≤ 65535 ∧ a.volume ≤ 15 ∧ 1 ≤ a.hold ∧ a.hold ≤ 255

/-- A cue record lies in its ranges (R83); armed only with a trigger, pending only for a fired cue with the IRQ action,
missed only for a fired cue (R84, R85, R91). -/
abbrev CueLegal (c : Cue) : Prop :=
  triggerLegal c.trigger = true ∧ (c.armed = true → c.trigger ≠ .off) ∧ (∀ a ∈ c.sound, SoundLegal a) ∧
  (∀ a ∈ c.rumble, a.pattern ≤ 15 ∧ a.priority ≤ 3) ∧ c.count ≤ 255 ∧
  (c.pending = true → c.irq = true ∧ 1 ≤ c.count) ∧ (c.missed = true → 1 ≤ c.count)

/-- Every cue record is legal. -/
abbrev CuesKept (s : State) : Prop := ∀ n : CueNo, CueLegal s.cues[n]

/-! ## Voices, ROM port, tracks -/

/-- A snapshot lies in the ranges that the taking of a record gives (R97, R98). -/
abbrev SnapshotLegal (p : Snapshot) : Prop :=
  p.wave ≤ 15 ∧ p.length ≤ 65535 ∧ p.loop ≤ p.length ∧ p.attack ≤ 127 ∧ p.decay ≤ 127 ∧ p.sustain ≤ 127 ∧
  p.release ≤ 127 ∧ (p.mode = .stream → 1 ≤ p.length)

/-- A voice record lies in its ranges (R99); CUE owns voice 5 alone and the hold counter is CUE's (R92, R110); an IDLE
voice has E 0, an empty buffer, no hold, and belongs to its home (R105). -/
abbrev VoiceLegal (n : VoiceNo) (v : Voice) : Prop :=
  SnapshotLegal v.snapshot ∧ v.noteInstrument ≤ 15 ∧ v.selected ≤ 15 ∧ v.increment ≤ 65535 ∧ v.volume ≤ 15 ∧
  v.env ≤ 127 ∧ v.acc < 131072 ∧ v.fraction < 4096 ∧ v.buffer.length ≤ 16 ∧ v.lfsr ≤ 32767 ∧ -128 ≤ v.last ∧
  v.last ≤ 127 ∧ (v.owner = .cue → n = 5) ∧ (∀ h ∈ v.hold, v.owner = .cue ∧ 1 ≤ h ∧ h ≤ 255) ∧
  (v.phase = .idle → v.env = 0 ∧ v.buffer = [] ∧ v.hold = none ∧ v.owner = ownerOfHome v.home)

/-- The grant of a voice: it plays a STREAM note, has a further byte to fetch and room for it (R16, R19). -/
def voiceGrantFits (s : State) : Bool :=
  match s.port.grant with
  | some g =>
    decide (g.delivered ≤ 3) &&
    (match g.holder with
      | .voice n =>
        let v := s.voices[n]
        v.phase != .idle && v.snapshot.mode == .stream && decide (v.fetch < v.snapshot.length) &&
          decide (v.buffer.length < 16)
      | .track _ => true)
  | none => true

/-- Homes follow the masks of the tracks that run, and two tracks that run share no voice (R101, R120, R121). -/
abbrev HomesKept (s : State) : Prop :=
  (∀ t : TrackNo, ∀ v : VoiceNo,
    s.voices[v].home = some t ↔ (s.tracks[t].active = true ∧ inMask s.tracks[t].mask v = true)) ∧
  (s.tracks[(0 : TrackNo)].active = true → s.tracks[(1 : TrackNo)].active = true →
    s.tracks[(0 : TrackNo)].mask &&& s.tracks[(1 : TrackNo)].mask = 0)

/-- Every voice record is legal, and so are the homes and the cues that start notes; the DAC code lies in 0-1023, and
AOUT is driven exactly in RUN and WARN (R117). -/
abbrev VoicesKept (s : State) : Prop :=
  DomainFits s ∧ HomesKept s ∧ CuesKept s ∧ (∀ n : VoiceNo, VoiceLegal n s.voices[n]) ∧ voiceGrantFits s = true ∧
  s.mixer.master ≤ 16 ∧ (∀ d ∈ s.mixer.dac, d ≤ 1023) ∧ (s.mixer.dac.isSome = true ↔ powered s = true)

/-- A track record lies in its ranges (R119, R124); which state goes with which wait counter and buffer (R125); fetching
has gone no further than an END or unknown event (R123), and the fetch address stands behind the buffered events. -/
abbrev TrackLegal (r : Track) : Prop :=
  (r.source = .time → 16 ≤ r.period ∧ r.period ≤ 65535) ∧ (r.source = .frame → 1 ≤ r.period ∧ r.period ≤ 16) ∧
  r.divider ≤ 65534 ∧ r.buffer.length ≤ 4 ∧
  (r.active = true → r.fetchAddr = r.nextAddr + BitVec.ofNat 24 (6 * r.buffer.length)) ∧
  r.buffer.dropLast.all Event.goesOn = true ∧
  (∀ m ∈ r.loopMark, m.remaining ≤ 255) ∧ (∀ w ∈ r.wait, 1 ≤ w ∧ w ≤ 255) ∧
  (r.state = .stopped → r.buffer = [] ∧ r.wait = none ∧ r.loopMark = none) ∧
  (r.state = .waiting → r.buffer = [] ∧ r.wait = none) ∧ (r.state = .running → r.buffer ≠ [] ∧ r.wait.isSome = true)

/-- The grant of a track: it runs, has an event to fetch and room for it (R16, R19). -/
def trackGrantFits (s : State) : Bool :=
  match s.port.grant with
  | some g =>
    match g.holder with
    | .track t => s.tracks[t].active && s.tracks[t].buffer.all Event.goesOn && decide (s.tracks[t].buffer.length < 4)
    | .voice _ => true
  | none => true

/-- Every track record is legal; a partly fetched event has fewer than 6 bytes, and a STOPPED track has none. -/
abbrev TracksKept (s : State) : Prop :=
  (∀ t : TrackNo, TrackLegal s.tracks[t] ∧ s.port.partials[t].length ≤ 5 ∧
    (s.tracks[t].state = .stopped → s.port.partials[t] = [])) ∧ trackGrantFits s = true

/-- What the stop of a track leaves of a voice (R121): a voice it owns takes a release request, and a voice whose home it
is loses the home and, where the track still owns it, the owner (R105, R101). -/
def leftBy (t : TrackNo) (v : Voice) : Voice :=
  let asked :=
    if v.owner ≠ .track t ∨ v.phase = .idle ∨ v.phase = .release then v
    else if v.snapshot.release ≠ 0 then { v with phase := .release }
    else { v with phase := .idle, env := 0, buffer := [], hold := none, owner := ownerOfHome v.home }
  let owner := if asked.owner = .track t then Owner.none else asked.owner
  if asked.home = some t then { asked with home := none, owner := owner } else asked

/-- A source gives both tracks one count (R124): a track of that source that is not STOPPED counts it, and at P or N its
divider becomes 0 and it ticks (R125). A tick that leaves the head event waiting only lowers the wait counter; one in
WAITING is lost with SEQ_LATE. Tracks of the other source, and STOPPED tracks, stay as they are. -/
abbrev SourceCounts (source : Source) (s t : State) : Prop :=
  ∀ k : TrackNo,
    let r := s.tracks[k]
    (r.source ≠ source ∨ r.state = .stopped → t.tracks[k] = r) ∧
    (r.source = source → r.state ≠ .stopped → r.divider + 1 < r.period →
      t.tracks[k] = { r with divider := r.divider + 1 }) ∧
    (∀ w, r.source = source → r.state = .running → r.period ≤ r.divider + 1 → r.wait = some (w + 2) →
      t.tracks[k] = { r with divider := 0, wait := some (w + 1) }) ∧
    (r.source = source → r.state = .waiting → r.period ≤ r.divider + 1 →
      t.tracks[k] = { r with divider := 0 } ∧ hasFault .seqLate t = true)

/-! ## Frame capture, causes -/

/-- Frame capture lies in its ranges (R130 to R132): a period that a strobe can set, and no capture in
WAITING-FIRST and one in PRESENT. -/
abbrev FrameKept (s : State) : Prop :=
  (∀ p ∈ s.frame.period, 137 ≤ p ∧ p ≤ 1638) ∧ s.frame.silence ≤ 3276 ∧ s.frame.synth ≤ 1637 ∧
  (s.frame.state = .waitingFirst → s.frame.last = none) ∧ (s.frame.state = .present → s.frame.last.isSome = true) ∧
  (s.frame.silent = true → s.frame.silence < s.frame.deadline)

/-- An edge latch is set only while its class is enabled (R174). -/
abbrev LatchesKept (s : State) : Prop := s.cause.latches = s.cause.latches.keep s.cause.enables

/-! ## Rumble -/

/-- A pattern step lies in its ranges (R136). -/
def stepLegal (st : Step) : Bool :=
  decide (1 ≤ st.duration) && decide (st.duration ≤ 255) &&
  (match st.level with
    | .drive n => decide (n ≤ 15)
    | .brake => true)

/-- A pattern lies in its ranges (R136). -/
abbrev PatternLegal (p : Pattern) : Prop := p.steps.length ≤ 15 ∧ p.steps.all stepLegal = true

/-- A request lies in its ranges and its pattern is not empty (R135, R138). -/
abbrev RequestLegal (s : State) (r : Request) : Prop :=
  r.priority ≤ 3 ∧ 1 ≤ r.allowance ∧ r.allowance ≤ 255 ∧ (patternOf s r).steps ≠ []

/-- The active request lies in its ranges and stands on a step of its pattern (R135). -/
abbrev ActiveLegal (s : State) (a : Active) : Prop :=
  RequestLegal s a.request ∧ a.stepIndex < (patternOf s a.request).steps.length ∧ 1 ≤ a.stepRemaining ∧
  a.stepRemaining ≤ 255 ∧ 1 ≤ a.allowanceLeft ∧ a.allowanceLeft ≤ 255

/-- The rumble drive (R135 to R149): the queue ordered by priority, none above the active request's, none without an
active request; no request without a motor, under STALL, or while the console is not answered. -/
abbrev RumbleKept (s : State) : Prop :=
  DomainFits s ∧ (∀ i : Fin 16, PatternLegal s.rumble.patterns[i]) ∧ CuesKept s ∧ s.rumble.queue.length ≤ 4 ∧
  s.rumble.queue.Pairwise (fun a b => b.priority ≤ a.priority) ∧ (∀ r ∈ s.rumble.queue, RequestLegal s r) ∧
  (s.rumble.active = none → s.rumble.queue = []) ∧
  (∀ a ∈ s.rumble.active, ActiveLegal s a ∧ ∀ r ∈ s.rumble.queue, r.priority ≤ a.request.priority) ∧
  (s.profile.motor = false ∨ hasFault .stall s = true ∨ answered s = false → s.rumble.active = none) ∧
  s.rumble.heat ≤ 65535 ∧ s.rumble.zeroRun ≤ 8 ∧ s.rumble.warnTicks ≤ 8 ∧ s.rumble.pwmSlot < 16 ∧ s.rumble.pwmLevel ≤ 16 ∧
  (s.rumble.ma.isSome = true ↔ powered s = true) ∧ (s.rumble.mb.isSome = true ↔ powered s = true)

/-! ## Directory and engine -/

/-- A save check lies in its range (R29). -/
abbrev CheckLegal (c : Check) : Prop := c.s1 ≤ 250 ∧ c.s2 ≤ 250

/-- Which optional fields a slot's state gives it (R24). -/
abbrev SlotLegal (r : SlotRecord) : Prop :=
  (r.working.isSome = true ↔ r.unsaved = true) ∧ (r.workCheck.isSome = true ↔ r.working.isSome = true) ∧
  (r.stored.isSome = true ↔ r.current.isSome = true) ∧ (r.stamp.isSome = true ↔ r.current.isSome = true) ∧
  (r.state = .empty → r.current = none ∧ r.damaged = false) ∧
  (r.state = .valid ∨ r.state = .erasing → r.current.isSome = true) ∧ r.generation ≤ 65535 ∧
  (∀ c ∈ r.stored, CheckLegal c) ∧ (∀ c ∈ r.workCheck, CheckLegal c)

/-- The blocks that a slot holds. -/
def heldBy (r : SlotRecord) : List Nat := r.current.toList ++ r.working.toList

/-- The blocks that the slots hold, in slot order. -/
def heldBlocks (s : State) : List Nat := allSlots.flatMap fun n => heldBy s.dir.slots[n]

/-- Every block below the block count is held by one slot in one role, or is free (R25); in BATTERY and STARTING there
is no pool (R26). -/
abbrev BlocksKept (s : State) : Prop :=
  (heldBlocks s ++ s.dir.pool).Nodup ∧ (∀ b ∈ heldBlocks s, b ≤ 15) ∧ PoolLegal s ∧
  (powered s = true → ∀ b : Fin 16, b.val < s.profile.blocks → b.val ∈ heldBlocks s ++ s.dir.pool) ∧
  (powered s = false → s.dir.pool = [])

/-- The operations that stand for a slot: queued entries, then the one in flight that a command made. -/
def standingOps (s : State) : List QueueEntry :=
  s.engine.queue ++
  (match s.engine.flight with
    | some f => if f.bySweep then [] else [⟨f.kind, f.slot⟩]
    | none => [])

/-- The slot's state that a standing operation of the kind goes with (R47 to R51). -/
def opFits (r : SlotRecord) : OpKind → Bool
  | .open => r.state == .opening
  | .commit => r.state == .committing
  | .erase => r.state == .erasing
  | .verify => r.state == .valid && r.verifyPending

/-- The operations that stand and the slots' states agree (R24, R35, R47 to R51): no slot is named twice, and in RUN and
WARN no slot waits for an operation that does not stand. Without power there is no operation. -/
abbrev EngineKept (s : State) : Prop :=
  ((standingOps s).map (fun e => e.slot)).Nodup ∧ (∀ e ∈ standingOps s, opFits s.dir.slots[e.slot] e.kind = true) ∧
  (powered s = false → s.engine.queue = [] ∧ s.engine.flight = none) ∧
  (powered s = true → ∀ n : SlotNo,
    (s.dir.slots[n].state = .opening → ⟨.open, n⟩ ∈ standingOps s) ∧
    (s.dir.slots[n].state = .committing → ⟨.commit, n⟩ ∈ standingOps s) ∧
    (s.dir.slots[n].state = .erasing → ⟨.erase, n⟩ ∈ standingOps s) ∧
    (s.dir.slots[n].verifyPending = true → ⟨.verify, n⟩ ∈ standingOps s)) ∧
  (∀ f ∈ s.engine.flight, f.position ≤ 4096 ∧ CheckLegal f.check ∧
    (f.bySweep = true → f.kind = .verify ∧ s.dir.slots[f.slot].current.isSome = true)) ∧
  DomainFits s

/-- The working blocks of slots that an OPEN fills or the console writes lie within the profile: the profile changes
only when every such slot has been reverted (R63, R64). -/
abbrev WorkingInside (s : State) : Prop :=
  (∀ n : SlotNo, s.dir.slots[n].state = .opening ∨ s.dir.slots[n].state = .opened → powered s = true →
    ∀ b ∈ s.dir.slots[n].working, b < s.profile.blocks) ∧
  (powered s = true → s.supply.crst = true →
    ∀ n : SlotNo, s.dir.slots[n].state ≠ .opening ∧ s.dir.slots[n].state ≠ .opened)

/-- The directory and the save engine together. -/
abbrev DirectoryKept (s : State) : Prop :=
  ProfileLegal s ∧ stageFits s = true ∧ (∀ n : SlotNo, SlotLegal s.dir.slots[n]) ∧ BlocksKept s ∧ EngineKept s ∧
  WorkingInside s

/-- The check that a slot's working check must be: over the whole working block, but for an OPEN in flight over the
positions it has filled, and for a queued OPEN over none (R30, R54). -/
def workingSpan (s : State) (n : SlotNo) : Nat :=
  match s.dir.slots[n].state with
  | .opening =>
    match s.engine.flight with
    | some f => if opensSlot n f then f.position else 0
    | none => 0
  | _ => 4096

/-- The working check of every slot that has one agrees with the contents of its working block (R30), and an OPEN's
running check is the slot's working check (R54). Without power a slot caught OPENING keeps the check it had. -/
abbrev ChecksTrue (s : State) : Prop :=
  (∀ n : SlotNo, s.dir.slots[n].state = .opening → powered s = true → ∀ b ∈ s.dir.slots[n].working,
    s.dir.slots[n].workCheck = some (checkUpTo s b (workingSpan s n))) ∧
  (∀ n : SlotNo, s.dir.slots[n].state = .opened ∨ s.dir.slots[n].state = .committing →
    ∀ b ∈ s.dir.slots[n].working, s.dir.slots[n].workCheck = some (blockCheck s b)) ∧
  (∀ f ∈ s.engine.flight, f.kind = .open → s.dir.slots[f.slot].workCheck = some f.check)

/-- The checks of the open saves, with all that they rest on. -/
abbrev SavesKept (s : State) : Prop := MemoryKept s ∧ DirectoryKept s ∧ ChecksTrue s

/-! ## All together -/

/-- Every property of this file. -/
abbrev AllKept (s : State) : Prop :=
  SavesKept s ∧ MapKept s ∧ BoundsKept s ∧ GrantKept s ∧ CalendarKept s ∧ VoicesKept s ∧ TracksKept s ∧
  FrameKept s ∧ LatchesKept s ∧ RumbleKept s

end Sys2Proof.Safety
end

