-- ==== Sys2Proof/Certificates/Slice0/Obligations.lean ====
section
/-! DEFINITION. The statements for the provers, read from the manual's rules: what every command does where it has its
effect, what a step keeps, and that messages decode to the commands they are. -/

open Sys2Proof Sys2Proof.Machine Sys2Proof.Safety

/-! ## Steps -/

/-- A step takes the command at the front of the queue and is its effect on the state with the rest of the queue. -/
def Obligations.StepRunsFrontCommand : Prop :=
  ∀ (c : Instr) (rest : List Instr) (s : State),
    step { s with pending := c :: rest } = exec c { s with pending := rest }

/-- Every command answers a next state, touches no other waiting command, and never writes ROM (R8: "no path of the part
writes it"). -/
def Obligations.EveryCommandAnswers : Prop :=
  ∀ (c : Instr) (s : State), ∃ t, exec c s = .next t ∧ t.pending = s.pending ∧ t.rom = s.rom

/-- The state after reset has every property that a step keeps. Its values where the manual gives none are the model's
(log 13). -/
def Obligations.ResetMeetsEveryProperty : Prop := AllKept State.reset

/-! ## What every step keeps -/

/-- The three memories keep their canonical form and size, and every map entry stays one that R3 allows. -/
def Obligations.MemoriesAndMapKeepTheirForm : Prop :=
  ∀ s t : State, step s = .next t → (MemoryKept s → MemoryKept t) ∧ (MapKept s → MapKept t)

/-- FIFOs, queues, the pool and the sweep stay inside their sizes: both FIFOs at 64 bytes, the save queue at 4 entries,
the rumble queue at 4 requests. -/
def Obligations.QueuesStayInBounds : Prop := ∀ s t : State, BoundsKept s → step s = .next t → BoundsKept t

/-- The surge grant has at most one holder, at work under it; never held outside RUN and WARN, by the kicker only in RUN;
a request stands only behind the other holder. -/
def Obligations.GrantRuleIsKept : Prop := ∀ s t : State, GrantKept s → step s = .next t → GrantKept t

/-- The time record and the divider stay in their ranges, END only at the hold value; frame capture stays in its ranges,
the silence count below its deadline; an edge latch exists only while its class is enabled. -/
def Obligations.TimeFramesAndLatchesKept : Prop :=
  ∀ s t : State, step s = .next t →
    (CalendarKept s → CalendarKept t) ∧ (FrameKept s → FrameKept t) ∧ (LatchesKept s → LatchesKept t)

/-- Voices, cues, the ROM grant of a voice and the DAC code stay in their ranges: CUE owns voice 5 alone, an IDLE voice
belongs to its home, the stream buffer holds at most 16 bytes, the code lies in 0-1023. -/
def Obligations.VoicesStayInRange : Prop := ∀ s t : State, VoicesKept s → step s = .next t → VoicesKept t

/-- Tracks stay in their ranges: the wait counter goes with RUNNING, an empty buffer with WAITING, at most 4 events; and a
voice's home is the track that runs with the voice in its mask, where two running tracks share no voice. -/
def Obligations.TracksAndHomesStayInRange : Prop :=
  ∀ s t : State, step s = .next t → (TracksKept s → TracksKept t) ∧ (HomesKept s → HomesKept t)

/-- The rumble drive stays in its ranges: the queue in descending priority, none above the active request's, no request
without a motor or under STALL. -/
def Obligations.RumbleStaysInRange : Prop := ∀ s t : State, RumbleKept s → step s = .next t → RumbleKept t

/-- Every save block below the block count is the current block of one slot, the working block of one slot or a member of
the free pool; each slot has the fields of its state; no slot is named by two operations. -/
def Obligations.SaveBlocksAreAccounted : Prop :=
  ∀ s t : State, DirectoryKept s → step s = .next t → DirectoryKept t

/-- For every slot in OPEN or COMMITTING the working check is the save check of its working block's contents. -/
def Obligations.WorkingChecksStayTrue : Prop := ∀ s t : State, SavesKept s → step s = .next t → SavesKept t

/-! ## Slot transactions -/

/-- How the slot is answered by monitor state and /CRST (R14): in BATTERY a read is undriven and a write not taken; in
STARTING and under /CRST a read is 0xFF and a write ignored. The model keeps the transaction's bytes (log 25). -/
def Obligations.SlotAnsweredByMonitorState : Prop :=
  ∀ (addr : SlotAddr) (data : Byte) (s : State),
    (s.supply.monitor = .battery →
      exec (.consoleRead addr) s = .next { s with slot := { last := some ⟨addr, false, none⟩ } } ∧
      exec (.consoleWrite addr data) s = .next s) ∧
    (s.supply.monitor = .starting ∨ s.supply.monitor ≠ .battery ∧ s.supply.crst = true →
      exec (.consoleRead addr) s = .next { s with slot := { last := some ⟨addr, false, some 0xFF⟩ } } ∧
      exec (.consoleWrite addr data) s = .next { s with slot := { last := some ⟨addr, true, some data⟩ } })

/-- Reads through UNMAPPED, ROM, SAVE_RAW and SOUND_RAM entries (R7, R8, R11, R12): the byte driven, and that nothing
else changes but the save SRAM port's access and, at a ROM read, the fetch byte read made again under the same grant, which
neither ends nor counts the byte (R17). That a byte read is in progress throughout a grant is the model's (log 31). -/
def Obligations.MapReadsReachTheirTarget : Prop :=
  ∀ (addr : SlotAddr) (s : State), MapKept s → answered s = true → addr.toNat < 0xFFF00 →
    let e := s.map[addr.toNat / 65536]'(by have := addr.isLt; omega)
    let off := addr.toNat % 65536
    ∃ t b, exec (.consoleRead addr) s = .next t ∧ t.slot.last = some ⟨addr, false, some b⟩ ∧
      (e.kind = .unmapped → b = 0xFF ∧ { t with slot := s.slot } = s) ∧
      (e.kind = .rom → b = readMem romUnlisted s.rom (e.page * 65536 + off) ∧
        { t with slot := s.slot, port := s.port } = s ∧ t.port.partials = s.port.partials ∧
        t.port.grant = s.port.grant.map fun g => { g with reading := true }) ∧
      (e.kind = .soundRam → b = readMem soundUnlisted s.sound (off % 4096) ∧ { t with slot := s.slot } = s) ∧
      (e.kind = .saveRaw → off / 4096 < s.profile.blocks →
        b = readMem sramUnlisted s.sram off ∧ { t with slot := s.slot, saveAccess := s.saveAccess } = s) ∧
      (e.kind = .saveRaw → s.profile.blocks ≤ off / 4096 → b = 0xFF ∧ { t with slot := s.slot } = s)

/-- A read through a slot view below offset 4096 (R31): the byte of the current block, of the working block, or 0xFF, by
the slot's state and the block count in force. -/
def Obligations.SlotViewReadsByState : Prop :=
  ∀ (addr : SlotAddr) (n : SlotNo) (s : State), answered s = true → addr.toNat < 0xFFF00 →
    let e := s.map[addr.toNat / 65536]'(by have := addr.isLt; omega)
    let p := addr.toNat % 65536
    let r := s.dir.slots[n]
    let byteOfBlock := fun o : Option Nat =>
      match o with
      | some b => if b < s.profile.blocks then readMem sramUnlisted s.sram (b * 4096 + p) else 0xFF
      | none => 0xFF
    e.kind = .saveSlot → e.page = n.val → p < 4096 →
    ∃ t, exec (.consoleRead addr) s = .next t ∧
      t.slot.last = some ⟨addr, false, some
        (match r.state with
          | .empty => 0xFF
          | .opening => byteOfBlock r.current
          | .valid => byteOfBlock r.current
          | .erasing => byteOfBlock r.current
          | .opened => byteOfBlock r.working
          | .committing => byteOfBlock r.working)⟩ ∧
      { t with slot := s.slot, saveAccess := s.saveAccess } = s

/-- A write that lands (R33, R30): an OPEN slot through a writable entry takes the byte into its working block, and its
working check is updated by the byte's change; every other byte of the save SRAM reads as before. Through the other
entries (R7, R8, R12): UNMAPPED and ROM ignore the write; a writable SOUND_RAM entry takes the byte at the offset modulo
4096. -/
def Obligations.WritesLandOrAreIgnored : Prop :=
  ∀ (addr : SlotAddr) (data : Byte) (s : State), MemoryKept s → answered s = true → addr.toNat < 0xFFF00 →
    let e := s.map[addr.toNat / 65536]'(by have := addr.isLt; omega)
    let p := addr.toNat % 65536
    let done := { s with slot := { last := some ⟨addr, true, some data⟩ } }
    (∀ (n : SlotNo) (b : Nat) (c : Check),
      let r := s.dir.slots[n]
      let d : Int := data.toNat - (readMem sramUnlisted s.sram (b * 4096 + p)).toNat
      let updated : Check := ⟨((c.s1 + d) % 251).toNat, ((c.s2 + ((4096 - p) % 251 : Nat) * d) % 251).toNat⟩
      e.kind = .saveSlot → e.page = n.val → e.writable = true → p < 4096 → r.state = .opened →
      r.working = some b → b < s.profile.blocks → r.workCheck = some c →
      ∃ t, exec (.consoleWrite addr data) s = .next t ∧
        readMem sramUnlisted t.sram (b * 4096 + p) = data ∧
        (∀ a, a ≠ b * 4096 + p → readMem sramUnlisted t.sram a = readMem sramUnlisted s.sram a) ∧
        t.dir.slots[n] = { r with workCheck := some updated } ∧
        (∀ m : SlotNo, m ≠ n → t.dir.slots[m] = s.dir.slots[m]) ∧
        { t with sram := s.sram, saveAccess := s.saveAccess, dir := s.dir } = done ∧
        { t.dir with slots := s.dir.slots } = s.dir) ∧
    (e.kind = .unmapped ∨ e.kind = .rom → exec (.consoleWrite addr data) s = .next done) ∧
    (e.kind = .soundRam → e.writable = true →
      ∃ t, exec (.consoleWrite addr data) s = .next t ∧ { t with sound := s.sound } = done ∧
        ∀ a, readMem soundUnlisted t.sound a =
          if a = p % 4096 then data else readMem soundUnlisted s.sound a)

/-- A refused access (R13): its flag is set, raising FAULT from clear to set under an enabled class, and the fault record
is overwritten whole; nothing else changes. The reasons are those of R10, R11, R12 and R32. -/
def Obligations.RefusedAccessesAreRecorded : Prop :=
  ∀ (addr : SlotAddr) (data : Byte) (n : SlotNo) (s : State), answered s = true → addr.toNat < 0xFFF00 →
    let e := s.map[addr.toNat / 65536]'(by have := addr.isLt; omega)
    let off := addr.toNat % 65536
    let recorded := fun (c : Instr) (f : FaultFlag) (isWrite : Bool) (byte : Byte) (reason : RefuseReason) =>
      exec c s = .next { s with
        slot := { last := some ⟨addr, isWrite, some byte⟩ },
        cause := { (setFault f s).cause with record := some ⟨addr.toNat / 65536, off, isWrite, reason⟩ } }
    (e.kind = .saveSlot → 4096 ≤ off →
      recorded (.consoleRead addr) .range false 0xFF .beyondTarget ∧
      recorded (.consoleWrite addr data) .range true data .beyondTarget) ∧
    (e.kind = .saveSlot → e.page = n.val → off < 4096 → s.dir.slots[n].state ≠ .opened →
      recorded (.consoleWrite addr data) .refusedWrite true data .slotNotOpen) ∧
    (e.kind = .saveSlot → e.page = n.val → off < 4096 → s.dir.slots[n].state = .opened → e.writable = false →
      recorded (.consoleWrite addr data) .refusedWrite true data .entryReadOnly) ∧
    (e.kind = .saveRaw → recorded (.consoleWrite addr data) .refusedWrite true data .rawView) ∧
    (e.kind = .soundRam → e.writable = false →
      recorded (.consoleWrite addr data) .refusedWrite true data .entryReadOnly)

/-- A fault flag's event (R172, R175): the flag is set and every other flag kept; the FAULT latch is set exactly when the
flag was clear and the FAULT class is enabled; a flag already set changes nothing. -/
def Obligations.FaultFlagLatchesOnce : Prop :=
  ∀ (f g : FaultFlag) (s : State),
    hasFault g (setFault f s) = (decide (g = f) || hasFault g s) ∧
    (hasFault f s = true → setFault f s = s) ∧
    (setFault f s).cause.latches.fault = (s.cause.latches.fault || (!hasFault f s && enabled .fault s)) ∧
    { setFault f s with cause := s.cause } = s ∧
    { (setFault f s).cause with
      flags := s.cause.flags, latches := { (setFault f s).cause.latches with fault := s.cause.latches.fault } } = s.cause

/-- The aperture's accesses but CAUSE (R162, R163, R166, R167): a CMD write joins the command FIFO or is lost with
OVERRUN, and a CMD read gives its free bytes; SYNC empties it; ignored writes, and reads of 0xFF, at the other offsets; the
head byte leaves the reply FIFO, or 0xFF is read; STATUS gives the eight indications, then OVERRUN clears. Console accesses
at aperture addresses reach these first, whatever the map holds (R2; that the console rows resolve them so is log 22). -/
def Obligations.ApertureAccessesAct : Prop :=
  ∀ (data offset : Byte) (s : State), answered s = true →
    let wrote := fun (off : Byte) (t : State) => { t with slot := { last := some ⟨apertureAddr off, true, some data⟩ } }
    let gave := fun (off b : Byte) (t : State) => { t with slot := { last := some ⟨apertureAddr off, false, some b⟩ } }
    (s.cmd.fifo.length < 64 →
      exec (.cmdWrite data) s = .next (wrote 0 { s with cmd := { s.cmd with fifo := s.cmd.fifo ++ [data] } })) ∧
    (64 ≤ s.cmd.fifo.length →
      exec (.cmdWrite data) s =
        .next (wrote 0 { s with cmd := { s.cmd with overrun := true }, cause := (setFault .cmdOverrun s).cause })) ∧
    exec (.sync data) s = .next (wrote 2 { s with cmd := { s.cmd with fifo := [] } }) ∧
    (offset ≠ 0 → offset ≠ 2 → exec (.apertureIgnoredWrite offset data) s = .next (wrote offset s)) ∧
    (∀ b rest, s.cmd.reply = b :: rest →
      exec .replyRead s = .next (gave 1 b { s with cmd := { s.cmd with reply := rest } })) ∧
    (s.cmd.reply = [] → exec .replyRead s = .next (gave 1 0xFF s)) ∧
    exec (.consoleRead (apertureAddr 0)) s = .next (gave 0 (byteOf (64 - s.cmd.fifo.length)) s) ∧
    (4 ≤ offset.toNat → exec (.consoleRead (apertureAddr offset)) s = .next (gave offset 0xFF s)) ∧
    (exec (.consoleRead (apertureAddr 1)) s = exec .replyRead s ∧
      exec (.consoleRead (apertureAddr 2)) s = exec .statusRead s ∧
      exec (.consoleRead (apertureAddr 3)) s = exec .causeRead s ∧
      exec (.consoleWrite (apertureAddr 0) data) s = exec (.cmdWrite data) s ∧
      exec (.consoleWrite (apertureAddr 2) data) s = exec (.sync data) s ∧
      (offset ≠ 0 → offset ≠ 2 →
        exec (.consoleWrite (apertureAddr offset) data) s = exec (.apertureIgnoredWrite offset data) s)) ∧
    ∃ b : Byte,
      exec .statusRead s = .next (gave 2 b { s with cmd := { s.cmd with overrun := false } }) ∧
      b.getLsbD 0 = decide (s.cmd.reply ≠ []) ∧ b.getLsbD 1 = s.cmd.overrun ∧
      b.getLsbD 2 = decide (s.cause.flags ≠ 0) ∧
      b.getLsbD 3 = (decide (s.engine.queue ≠ []) || s.engine.flight.isSome || decide (s.engine.sweep < 8)) ∧
      b.getLsbD 4 = decide (s.supply.monitor = .warn) ∧
      b.getLsbD 5 = decide (∃ c ∈ allCauses, causePending s c = true) ∧
      b.getLsbD 6 = s.rumble.active.isSome ∧ b.getLsbD 7 = s.profile.fallback

/-- A CAUSE read (R177): the pending enabled cause with the lowest code, released; WARN is not released; with none
pending, 0x00 and nothing changes. -/
def Obligations.CauseReadReleasesTheLowest : Prop :=
  ∀ s : State, answered s = true →
    ((∀ c ∈ allCauses, causePending s c = false) →
      exec .causeRead s = .next { s with slot := { last := some ⟨apertureAddr 3, false, some 0⟩ } }) ∧
    (∀ c ∈ allCauses, causePending s c = true → (∀ d ∈ allCauses, d.code < c.code → causePending s d = false) →
      ∃ t, exec .causeRead s = .next t ∧ t.slot.last = some ⟨apertureAddr 3, false, some (byteOf c.code)⟩ ∧
        (c ≠ .warn → c.raised t = false) ∧ (∀ d ∈ allCauses, d ≠ c ∨ d = .warn → d.raised t = d.raised s) ∧
        (∀ n : SlotNo, { t.dir.slots[n] with done := s.dir.slots[n].done } = s.dir.slots[n]) ∧
        (∀ n : CueNo, { t.cues[n] with pending := s.cues[n].pending } = s.cues[n]) ∧
        { t.dir with slots := s.dir.slots } = s.dir ∧ { t.cause with latches := s.cause.latches } = s.cause ∧
        { t with slot := s.slot, dir := s.dir, cues := s.cues, cause := s.cause } = s)

/-! ## Messages -/

/-- Cases 1 to 4 of R165, in their order: what leaves the FIFO, the reply, the flag. -/
def Obligations.RefusedMessagesByCase : Prop :=
  ∀ (code len : Byte) (body rest : List Byte) (s : State),
    let msg := code :: len :: body
    answered s = true → s.cmd.reply.length + 35 ≤ 64 → s.cmd.fifo = msg ++ rest →
    (32 < len.toNat →
      exec (.messageRefused msg) s =
        .next (replied .badLength [] (taken [] { s with cause := (setFault .badFrame s).cause }))) ∧
    (len.toNat ≤ 32 → body.length = len.toNat + 1 →
      (byteSum msg ≠ 0 →
        exec (.messageRefused msg) s =
          .next (replied .badCheck [] (taken rest { s with cause := (setFault .badFrame s).cause }))) ∧
      (byteSum msg = 0 → codeTable.lookup code.toNat = none →
        exec (.messageRefused msg) s = .next (replied .unknown [] (taken rest s))) ∧
      (∀ lens, byteSum msg = 0 → codeTable.lookup code.toNat = some lens → len.toNat ∉ lens →
        exec (.messageRefused msg) s = .next (replied .badLength [] (taken rest s))))

/-- With no command waiting (the model's choice, log 4). First what the rules make at once: an operation whose work is done
ends, also under /CRST (R63); an idle engine starts the oldest entry (R45) or steps the sweep (R62); an idle ROM port grants
(R18); where the engine and the port have nothing to do at once, a well-formed command's message standing ready is taken as
the command it is, and the messages that R165 refuses in its cases 1 to 4 as refused. Otherwise one crystal edge: with the
console on, /CRST released or asserted, the divider counts, and each tick that R66 gives its count is taken once, with the
second's end (R69), in an order that is free (log 5); with the console off the prescaler counts. With the crystal stopped
nothing happens (R67). The ticks are those of their rows, where it is the model's that SAMPLE_CLOCK is the voices' tick and
then the two tracks' (log 6) and that SECOND_TICK takes the edges left of the second as come (log 8). -/
def Obligations.IdleStepTakesMessagesOrCountsEdge : Prop :=
  ∀ (c : Instr) (code len : Byte) (body rest : List Byte) (e : QueueEntry) (q : List QueueEntry) (s : State),
    s.pending = [] →
    let working := ∀ f, s.engine.flight = some f → (f.kind = .open ∨ f.kind = .verify → f.position < 4096) ∧
      (f.kind = .erase → f.stage = .grantWait ∨
        f.stage = .fill ∧ ∃ b, s.dir.slots[f.slot].current = some b ∧ b < s.profile.blocks)
    let engineQuiet := working ∧ (s.engine.flight = none → s.engine.queue = [] ∧ s.engine.sweep = 8)
    let portQuiet := s.port.grant.isSome = true ∨
      (∀ v, voiceRequests s v = false) ∧ ∀ k, trackRequests s k = false
    let msg := code :: len :: body
    let noMessage := s.cmd.fifo.length < 2 ∨ 29 < s.cmd.reply.length ∨
      (len.toNat ≤ 32 ∧ body.length ≤ len.toNat ∧ s.cmd.fifo = msg)
    let n := (s.crystal.divider + 1) % 512
    let counted := { s with
      crystal := { s.crystal with divider := n }, freeIndex := s.freeIndex + 1,
      cal := if s.supply.domainValid = true ∧ s.cal.endsSecond = false then s.cal.countEdge else s.cal }
    let ticks : List Tick :=
      (if s.supply.domainValid = true ∧ s.cal.endsSecond = true then [.second] else []) ++
      (if n % 2 = 0 then [.voices, .track 0, .track 1, .pwm, .capture] else []) ++
      (if n % 128 = 0 then [.envelope] else []) ++ (if n = 0 then [.rumble] else [])
    (∀ f, powered s = true → s.engine.flight = some f →
      (f.kind = .open → 4096 ≤ f.position → step s = exec .openEnd s) ∧
      (f.kind = .verify → 4096 ≤ f.position → step s = exec (if f.bySweep then .sweepScanEnd else .verifyEnd) s) ∧
      (f.kind = .erase → f.stage = .flip → step s = exec .eraseFlip s)) ∧
    (answered s = true → s.engine.flight = none → s.engine.queue = e :: q → step s = exec .engineStart s) ∧
    (answered s = true → s.engine.flight = none → s.engine.queue = [] → s.engine.sweep < 8 → step s = exec .sweepStep s) ∧
    (answered s = true → engineQuiet → s.port.grant = none →
      (∃ v, voiceRequests s v = true) ∨ (∃ k, trackRequests s k = true) → step s = exec .romArbitration s) ∧
    (answered s = true → engineQuiet → portQuiet → s.cmd.reply.length + 35 ≤ 64 →
      (s.cmd.fifo = frameOf c ++ rest → c.wellFormed = true → (messageOf c).isSome = true → step s = exec c s) ∧
      (s.cmd.fifo = code :: len :: rest → 32 < len.toNat → step s = exec (.messageRefused [code, len]) s) ∧
      (s.cmd.fifo = msg ++ rest → len.toNat ≤ 32 → body.length = len.toNat + 1 →
        byteSum msg ≠ 0 ∨ codeTable.lookup code.toNat = none ∨
          (∃ lens, codeTable.lookup code.toNat = some lens ∧ len.toNat ∉ lens) →
        step s = exec (.messageRefused msg) s)) ∧
    ((answered s = true ∧ engineQuiet ∧ portQuiet ∧ noMessage) ∨
        (powered s = true ∧ s.supply.crst = true ∧ working) →
      (s.crystal.running = false → step s = .next s) ∧
      (s.crystal.running = true →
        ∃ l : List Tick, l.Perm ticks ∧ step s = .next (l.foldl (fun t k => k.act t) counted))) ∧
    (powered s = false →
      (s.crystal.running = false → step s = .next s) ∧
      (s.crystal.running = true → s.supply.domainValid = true → s.cal.endsSecond = false →
        step s = .next { s with cal := s.cal.countEdge, freeIndex := s.freeIndex + 1 }) ∧
      (s.crystal.running = true → s.supply.domainValid = true → s.cal.sec % 60 ≠ 0 → s.cal.prescaler < 32767 →
        step s =
          .next { s with cal := { s.cal with prescaler := s.cal.prescaler + 1 }, freeIndex := s.freeIndex + 1 })) ∧
    (powered s = true → s.crystal.running = true →
      (s.supply.domainValid = true → exec .secondTick s = .next (Tick.second.act s)) ∧
      exec .sampleClock s = .next ((Tick.track 1).act ((Tick.track 0).act (Tick.voices.act s))) ∧
      exec .motorPwmSlot s = .next (Tick.pwm.act s) ∧ exec .envelopeTick s = .next (Tick.envelope.act s) ∧
      exec .rumbleTick s = .next (Tick.rumble.act s))

/-- Messages and commands: the bytes of a well-formed command's message pass the check, have a length its code accepts,
and decode to the command with every field at its value; and a payload that decodes to a command is that command's. -/
def Obligations.MessagesDecodeToTheirCommands : Prop :=
  (∀ (i : Instr) (code : Byte) (payload : List Byte), i.wellFormed = true → messageOf i = some (code, payload) →
    decodeMessage code payload = some i ∧ acceptsLength code payload.length = true ∧ payload.length ≤ 32 ∧
    frameOf i = code :: byteOf payload.length :: payload ++ [-(code + byteOf payload.length + byteSum payload)] ∧
    checkPasses (frameOf i) = true) ∧
  (∀ (i : Instr) (code : Byte) (payload : List Byte), decodeMessage code payload = some i →
    messageOf i = some (code, payload)) ∧
  (∀ (code : Byte) (payload : List Byte), acceptsLength code payload.length = true →
    (decodeMessage code payload).isSome = true)

/-- MAP SET (R5): an entry that R3 would not allow, or a field out of range, is refused with BAD_ARG and changes nothing;
otherwise the entry of the strip is replaced whole and the reply is OK. -/
def Obligations.MapSetReplacesLegalEntry : Prop :=
  ∀ (strip kind page writable : Byte) (rest : List Byte) (s : State),
    let c := Instr.mapSet strip kind page writable
    let bad := 15 < strip.toNat ∨ 4 < kind.toNat ∨ 1 < writable.toNat ∨
      (kind = 1 ∧ s.profile.pageCount ≤ page.toNat) ∨ (kind = 2 ∧ 7 < page.toNat) ∨
      ((kind = 0 ∨ kind = 3 ∨ kind = 4) ∧ page ≠ 0) ∨ (writable = 1 ∧ (kind = 1 ∨ kind = 3 ∨ kind = 0))
    Ready c rest s →
    (bad → Refuses c rest s .badArg) ∧
    (¬bad → ∃ m : Vector MapEntry 16, Answers c rest s .ok [] { s with map := m } ∧
      ∀ i : Fin 16,
        (i.val = strip.toNat → (m[i].kind.code = kind.toNat ∧ m[i].page = page.toNat ∧
          m[i].writable = decide (writable = 1))) ∧
        (i.val ≠ strip.toNat → m[i] = s.map[i]))

/-- MAP GET (R6). -/
def Obligations.MapGetReportsEntry : Prop :=
  ∀ (strip : Byte) (rest : List Byte) (s : State),
    let c := Instr.mapGet strip
    Ready c rest s →
    (15 < strip.toNat → Refuses c rest s .badArg) ∧
    (∀ i : Fin 16, strip.toNat = i.val →
      Answers c rest s .ok
        [strip, byteOf s.map[i].kind.code, byteOf s.map[i].page, if s.map[i].writable then 1 else 0] s)

/-- FAULT CLEAR (R173) and IRQ MASK (R174): masks with unused bits are refused; the named flags clear and nothing else; the
enables are replaced, and the latches of disabled classes clear. -/
def Obligations.FaultClearAndIrqMask : Prop :=
  ∀ (mask : Word16) (classes : Byte) (rest : List Byte) (s : State),
    (Ready (.faultClear mask) rest s →
      (4095 < mask.toNat → Refuses (.faultClear mask) rest s .badArg) ∧
      (mask.toNat ≤ 4095 → ∃ flags : BitVec 12,
        Answers (.faultClear mask) rest s .ok [] { s with cause := { s.cause with flags := flags } } ∧
        ∀ i < 12, flags.getLsbD i = (s.cause.flags.getLsbD i && !mask.getLsbD i))) ∧
    (Ready (.irqMask classes) rest s →
      (127 < classes.toNat → Refuses (.irqMask classes) rest s .badArg) ∧
      (classes.toNat ≤ 127 → ∃ enables : BitVec 7, (∀ i < 7, enables.getLsbD i = classes.getLsbD i) ∧
        Answers (.irqMask classes) rest s .ok []
          { s with cause := { s.cause with enables := enables, latches :=
            { fault := s.cause.latches.fault && classes.getLsbD 0,
              frameLost := s.cause.latches.frameLost && classes.getLsbD 1,
              rumbleEnd := s.cause.latches.rumbleEnd && classes.getLsbD 2,
              marker0 := s.cause.latches.marker0 && classes.getLsbD 5,
              marker1 := s.cause.latches.marker1 && classes.getLsbD 5 } } }))

/-! ## Slot directory -/

/-- SLOT PROTECT (R40, R37): arguments before the window; otherwise the setting is replaced and the reply carries one
membership bit for each slot. -/
def Obligations.ProtectReplacesSetting : Prop :=
  ∀ (count side invert : Byte) (rest : List Byte) (s : State),
    let c := Instr.slotProtect count side invert
    let bad := 8 < count.toNat ∨ 1 < side.toNat ∨ 1 < invert.toNat
    Ready c rest s →
    (bad → Refuses c rest s .badArg) ∧
    (¬bad → s.dir.windowOpen = false → Refuses c rest s .locked) ∧
    (¬bad → s.dir.windowOpen = true → ∃ m : Byte,
      Answers c rest s .ok [m] { s with dir := { s.dir with protect :=
        ⟨count.toNat, if side = 0 then .low else .high, decide (invert = 1)⟩ } } ∧
      ∀ n : SlotNo, m.getLsbD n.val =
        ((if side = 0 then decide (n.val < count.toNat) else decide (8 - count.toNat ≤ n.val)) != decide (invert = 1)))

/-! ## Save engine -/

/-- The refusals of the five save commands, each in its order (R47 to R51): the first condition that holds decides, and
nothing but the reply changes. -/
def Obligations.SaveCommandsRefusedInOrder : Prop :=
  ∀ (slot : Byte) (n : SlotNo) (rest : List Byte) (s : State),
    let r := s.dir.slots[n]
    let out := r.state = .valid ∧ ∃ b, r.current = some b ∧ s.profile.blocks ≤ b
    let first := fun (c : Instr) (l : List (Prop × ReplyStatus)) =>
      ∀ pre p st post, l = pre ++ (p, st) :: post → (∀ q ∈ pre, ¬q.1) → p → Refuses c rest s st
    (∀ c, c = .slotOpen slot ∨ c = .slotCommit slot ∨ c = .slotAbandon slot ∨ c = .slotErase slot ∨
        c = .slotVerify slot → 7 < slot.toNat → Ready c rest s → Refuses c rest s .badArg) ∧
    (slot.toNat = n.val →
      (Ready (.slotOpen slot) rest s → first (.slotOpen slot)
        [(r.state ≠ .empty ∧ r.state ≠ .valid, .wrongState), (out, .wrongState), (r.verifyPending = true, .busy),
         (isProtected s.dir.protect n = true, .locked), (4 ≤ s.engine.queue.length, .queueFull),
         (s.dir.pool = [], .noBlock)]) ∧
      (Ready (.slotCommit slot) rest s → first (.slotCommit slot)
        [(r.state ≠ .opened, .wrongState), (4 ≤ s.engine.queue.length, .queueFull)]) ∧
      (Ready (.slotAbandon slot) rest s → first (.slotAbandon slot)
        [(r.state = .committing, .busy), (r.state ≠ .opened ∧ r.state ≠ .opening, .wrongState)]) ∧
      (Ready (.slotErase slot) rest s → first (.slotErase slot)
        [(r.state ≠ .valid, .wrongState), (out, .wrongState), (r.verifyPending = true, .busy),
         (isProtected s.dir.protect n = true, .locked), (4 ≤ s.engine.queue.length, .queueFull)]) ∧
      (Ready (.slotVerify slot) rest s → first (.slotVerify slot)
        [(r.state ≠ .valid, .wrongState), (out, .wrongState), (r.verifyPending = true, .busy),
         (4 ≤ s.engine.queue.length, .queueFull)]))

/-- The acceptances of SLOT OPEN, COMMIT, ERASE and VERIFY (R47, R48, R50, R51): the slot's record, the entry at the
queue's tail, the lowest free block to an OPEN, the protect window closed by all but VERIFY (R39); nothing else changes. -/
def Obligations.SaveCommandsAccepted : Prop :=
  ∀ (slot : Byte) (n : SlotNo) (rest : List Byte) (s : State),
    let r := s.dir.slots[n]
    let inside := ∀ b, r.current = some b → b < s.profile.blocks
    let joined := fun (k : OpKind) => { s.engine with queue := s.engine.queue ++ [⟨k, n⟩] }
    let record := fun (q : SlotRecord) => s.dir.slots.set n.val q n.isLt
    slot.toNat = n.val → s.engine.queue.length < 4 →
    (Ready (.slotOpen slot) rest s → r.state = .empty ∨ r.state = .valid ∧ inside → r.verifyPending = false →
      isProtected s.dir.protect n = false → ∀ b pool, s.dir.pool = b :: pool →
      Answers (.slotOpen slot) rest s .queued []
        { s with engine := joined .open, dir := { s.dir with
          slots := record { r with state := .opening, working := some b, workCheck := some ⟨0, 0⟩ },
          pool := pool, windowOpen := false } }) ∧
    (Ready (.slotCommit slot) rest s → r.state = .opened →
      Answers (.slotCommit slot) rest s .queued []
        { s with engine := joined .commit, dir := { s.dir with
          slots := record { r with state := .committing }, windowOpen := false } }) ∧
    (Ready (.slotErase slot) rest s → r.state = .valid → inside → r.verifyPending = false →
      isProtected s.dir.protect n = false →
      Answers (.slotErase slot) rest s .queued []
        { s with engine := joined .erase, dir := { s.dir with
          slots := record { r with state := .erasing }, windowOpen := false } }) ∧
    (Ready (.slotVerify slot) rest s → r.state = .valid → inside → r.verifyPending = false →
      Answers (.slotVerify slot) rest s .queued []
        { s with engine := joined .verify, dir := { s.dir with
          slots := record { r with verifyPending := true } } })

/-- SLOT ABANDON accepted (R49): a queued OPEN leaves the queue and one in flight ends, the entries behind keep their
order, the working block returns to the pool in its place by number, and the record goes back to its committed contents. -/
def Obligations.AbandonReturnsWorkingBlock : Prop :=
  ∀ (slot : Byte) (n : SlotNo) (w : Nat) (rest : List Byte) (s : State),
    let r := s.dir.slots[n]
    DirectoryKept s → slot.toNat = n.val → Ready (.slotAbandon slot) rest s →
    r.state = .opening ∨ r.state = .opened → r.working = some w →
    ∃ t, Answers (.slotAbandon slot) rest s .ok [] t ∧
      t.dir.slots[n] = { r with state := if r.current.isSome then .valid else .empty, working := none,
                                workCheck := none } ∧
      (∀ m : SlotNo, m ≠ n → t.dir.slots[m] = s.dir.slots[m]) ∧
      (∀ b, b ∈ t.dir.pool ↔ b ∈ s.dir.pool ∨ b = w) ∧ t.dir.pool.Pairwise (fun a b => a < b) ∧
      t.dir.windowOpen = false ∧ t.dir.protect = s.dir.protect ∧
      t.engine.queue = s.engine.queue.filter (fun e => decide (e ≠ ⟨.open, n⟩)) ∧
      t.engine.flight = (match s.engine.flight with
        | some f => if f.kind = .open ∧ f.slot = n then none else some f
        | none => none) ∧
      t.engine.sweep = s.engine.sweep ∧ { t with dir := s.dir, engine := s.engine } = s

/-- ENGINE_START (R45): an idle engine starts the oldest entry in the first stage of its kind. A COMMIT or an ERASE
requests the surge grant (R59): behind the kicker it waits; a free grant is given at once, an ERASE going on to FILL (R57)
and a COMMIT flipping its slot in the same step (R56), after which a kicker's standing request is given the grant in RUN
(R161, R146). -/
def Obligations.EngineStartsTheOldestEntry : Prop :=
  ∀ (n : SlotNo) (rest : List QueueEntry) (s : State),
    let r := s.dir.slots[n]
    let flying := fun (k : OpKind) (st : Stage) => { s.engine with queue := rest, flight := some ⟨k, n, st, 0, ⟨0, 0⟩, false⟩ }
    answered s = true → s.engine.flight = none →
    (s.engine.queue = ⟨.open, n⟩ :: rest →
      exec .engineStart s =
        .next { s with engine := flying .open (if r.current.isSome then .copy else .fill) }) ∧
    (s.engine.queue = ⟨.verify, n⟩ :: rest →
      exec .engineStart s = .next { s with engine := flying .verify .scan }) ∧
    (∀ k, k = .commit ∨ k = .erase → s.engine.queue = ⟨k, n⟩ :: rest → s.supply.holder = .kicker →
      exec .engineStart s =
        .next { s with engine := flying k .grantWait, supply := { s.supply with engineReq := true } }) ∧
    (s.engine.queue = ⟨.erase, n⟩ :: rest → s.supply.holder = .none →
      exec .engineStart s =
        .next { s with engine := flying .erase .fill,
                       supply := { s.supply with holder := .engine, engineReq := false } }) ∧
    (s.engine.queue = ⟨.commit, n⟩ :: rest → s.supply.holder = .none →
      ∃ t, exec .engineStart s = .next t ∧
        t.dir.slots[n] = { state := .valid, current := r.working, working := none,
                           generation := (r.generation + 1) % 65536, stored := r.workCheck, workCheck := none,
                           stamp := some ⟨s.cal.day, s.cal.sec, s.cal.doubt⟩, damaged := false,
                           verifyPending := r.verifyPending, lastResult := .done, done := true } ∧
        (∀ m : SlotNo, m ≠ n → t.dir.slots[m] = s.dir.slots[m]) ∧
        (∀ b, b ∈ t.dir.pool ↔ b ∈ s.dir.pool ∨ (r.current = some b ∧ b < s.profile.blocks)) ∧
        t.engine = { s.engine with queue := rest, flight := none } ∧
        (s.supply.kickerReq = false ∨ s.supply.monitor = .warn →
          t.supply = { s.supply with holder := .none, engineReq := false } ∧ t.rumble = s.rumble) ∧
        (∀ a, s.supply.kickerReq = true → s.supply.monitor = .run → s.rumble.active = some a →
          t.supply = { s.supply with holder := .kicker, engineReq := false, kickerReq := false } ∧
          t.rumble = { s.rumble with active := some { a with kick := .kicking 3 } }) ∧
        { t.dir with slots := s.dir.slots, pool := s.dir.pool } = s.dir ∧
        { t with dir := s.dir, engine := s.engine, supply := s.supply, rumble := s.rumble } = s)

/-- ENGINE_BYTE_ACCESS (R53, R54, R57, R58): one position of a COPY, FILL or SCAN. An OPEN writes the byte it copied, or
0xFF, and its running check is the slot's working check; a SCAN adds what it reads; an ERASE writes 0xFF, and after
position 4095 its stage is FLIP. No other byte of the save SRAM changes. That the read and the write of a COPY's position
are one access row is the model's (log 24). -/
def Obligations.EngineWorksOnePosition : Prop :=
  ∀ (f : Flight) (s : State), MemoryKept s → powered s = true → s.engine.flight = some f → f.position < 4096 →
    let r := s.dir.slots[f.slot]
    let p := f.position
    let byteAt := fun (m : State) (b : Nat) => readMem sramUnlisted m.sram (b * 4096 + p)
    let add := fun (b : Byte) => Check.mk ((f.check.s1 + b.toNat) % 251) ((f.check.s2 + (4096 - p) % 251 * b.toNat) % 251)
    let others := fun (t : State) (w : Nat) =>
      ∀ a, a ≠ w * 4096 + p → readMem sramUnlisted t.sram a = readMem sramUnlisted s.sram a
    (∀ w x, f.kind = .open → r.working = some w → w < s.profile.blocks →
      (f.stage = .copy ∧ (∃ cur, r.current = some cur ∧ cur < s.profile.blocks ∧ x = byteAt s cur)) ∨
        (f.stage = .fill ∧ x = 0xFF) →
      ∃ t, exec .engineByteAccess s = .next t ∧ byteAt t w = x ∧ others t w ∧
        t.engine = { s.engine with flight := some { f with position := p + 1, check := add x } } ∧
        t.dir = { s.dir with slots := s.dir.slots.set f.slot.val { r with workCheck := some (add x) } f.slot.isLt } ∧
        { t with sram := s.sram, saveAccess := s.saveAccess, dir := s.dir, engine := s.engine } = s) ∧
    (∀ cur, f.kind = .verify → f.stage = .scan → r.current = some cur → cur < s.profile.blocks →
      ∃ t, exec .engineByteAccess s = .next t ∧
        t.engine = { s.engine with flight := some { f with position := p + 1, check := add (byteAt s cur) } } ∧
        { t with saveAccess := s.saveAccess, engine := s.engine } = s) ∧
    (∀ cur, f.kind = .erase → f.stage = .fill → r.current = some cur → cur < s.profile.blocks →
      ∃ t, exec .engineByteAccess s = .next t ∧ byteAt t cur = 0xFF ∧ others t cur ∧
        t.engine.flight = some { f with position := p + 1, stage := if p = 4095 then .flip else .fill } ∧
        { t.engine with flight := s.engine.flight } = s.engine ∧
        { t with sram := s.sram, saveAccess := s.saveAccess, engine := s.engine } = s)

/-- The ends of operations (R55, R57, R58): OPEN_END and VERIFY_END compare the checks, where a difference sets the
damaged mark and DAMAGED and gives DAMAGED, and an agreement, or the FILL of an OPEN, gives DONE; ERASE_FLIP, after the
fill or at a block beyond the profile (R64), empties the slot and releases the grant, which a kicker's standing request is
given in RUN: its kick is then in progress with 3 ticks left (R161, R146). The done flag is set and the engine is idle. -/
def Obligations.OperationsEndTheirWork : Prop :=
  ∀ (f : Flight) (s : State), powered s = true → s.engine.flight = some f →
    let r := s.dir.slots[f.slot]
    let record := fun (bad : Bool) (q : SlotRecord) =>
      { q with damaged := q.damaged || bad, lastResult := if bad then LastResult.damaged else .done, done := true }
    let ended := fun (bad : Bool) (q : SlotRecord) =>
      { s with engine := { s.engine with flight := none },
               cause := if bad then (setFault .damaged s).cause else s.cause,
               dir := { s.dir with slots := s.dir.slots.set f.slot.val (record bad q) f.slot.isLt } }
    (f.position = 4096 → f.kind = .open → f.stage = .copy ∨ f.stage = .fill →
      exec .openEnd s = .next (ended (decide (f.stage = .copy ∧ r.stored ≠ some f.check))
        { r with state := .opened, workCheck := some f.check })) ∧
    (f.position = 4096 → f.kind = .verify → f.bySweep = false →
      exec .verifyEnd s = .next (ended (decide (r.stored ≠ some f.check)) { r with verifyPending := false })) ∧
    (f.kind = .erase → f.stage = .flip ∨ (f.stage = .fill ∧ ∃ b, r.current = some b ∧ s.profile.blocks ≤ b) →
      s.supply.engineReq = false →
      ∃ t, exec .eraseFlip s = .next t ∧
        t.dir.slots[f.slot] = { r with state := .empty, current := none, stored := none, stamp := none,
                                       damaged := false, lastResult := .done, done := true } ∧
        (∀ m : SlotNo, m ≠ f.slot → t.dir.slots[m] = s.dir.slots[m]) ∧
        (∀ b, b ∈ t.dir.pool ↔ b ∈ s.dir.pool ∨ (r.current = some b ∧ b < s.profile.blocks)) ∧
        t.engine = { s.engine with flight := none } ∧
        (s.supply.kickerReq = false ∨ s.supply.monitor = .warn →
          t.supply = { s.supply with holder := .none } ∧ t.rumble = s.rumble) ∧
        (∀ a, s.supply.kickerReq = true → s.supply.monitor = .run → s.rumble.active = some a →
          t.supply = { s.supply with holder := .kicker, kickerReq := false } ∧
          t.rumble = { s.rumble with active := some { a with kick := .kicking 3 } }) ∧
        { t.dir with slots := s.dir.slots, pool := s.dir.pool } = s.dir ∧
        { t with dir := s.dir, engine := s.engine, supply := s.supply, rumble := s.rumble } = s)

/-- The power-up sweep (R62): a step scans a VALID slot within the profile and passes over any other; the end of a scan
marks a disagreement and leaves last result, done flag and verify-pending mark. -/
def Obligations.SweepScansValidSlots : Prop :=
  ∀ (n : SlotNo) (f : Flight) (s : State),
    let r := s.dir.slots[n]
    let q := s.dir.slots[f.slot]
    (answered s = true → s.engine.flight = none → s.engine.queue = [] → s.engine.sweep = n.val →
      (∀ b, r.state = .valid → r.current = some b → b < s.profile.blocks →
        exec .sweepStep s =
          .next { s with engine := { s.engine with flight := some ⟨.verify, n, .scan, 0, ⟨0, 0⟩, true⟩ } }) ∧
      (r.state ≠ .valid ∨ (∃ b, r.current = some b ∧ s.profile.blocks ≤ b) →
        exec .sweepStep s = .next { s with engine := { s.engine with sweep := n.val + 1 } })) ∧
    (powered s = true → s.engine.flight = some f → f.kind = .verify → f.bySweep = true → f.position = 4096 →
      let idle := { s.engine with flight := none, sweep := s.engine.sweep + 1 }
      (q.stored = some f.check → exec .sweepScanEnd s = .next { s with engine := idle }) ∧
      (q.stored ≠ some f.check →
        exec .sweepScanEnd s = .next { s with engine := idle, cause := (setFault .damaged s).cause, dir :=
          { s.dir with slots := s.dir.slots.set f.slot.val { q with damaged := true } f.slot.isLt } }))

/-- The save check is additive and the incremental update of R30 agrees with R29: changing the byte at position p from a
to b changes the check of the block as `Check.replace` says. -/
def Obligations.ReplacedByteGivesBlockCheck : Prop :=
  ∀ (s t : State) (block p : Nat) (a b : Byte), p < 4096 → sramByte s block p = a → sramByte t block p = b →
    (∀ q, q ≠ p → sramByte t block q = sramByte s block q) →
    blockCheck t block = (blockCheck s block).replace p a b

/-! ## Queries -/

/-- PROFILE, FAULTS, SLOT INFO, POOL INFO (R169, R173, R41, R42): their replies in the layout of R171, and nothing else
changes. The order of the bits of SLOT INFO's presence and marks bytes is the model's reading (log 17), and so is that the
bits which R171 leaves unnamed in the straps and flags of PROFILE and FAULTS are 0 (log 34). -/
def Obligations.DirectoryQueriesReport : Prop :=
  ∀ (slot : Byte) (rest : List Byte) (s : State),
    (Ready .profile rest s →
      Answers .profile rest s .ok
        [0x48, 1, byteOf s.profile.romCode, byteOf s.profile.blocks, if s.profile.motor then 1 else 0,
         if s.profile.fallback then 1 else 0, byteOf s.profile.straps.toNat, byteOf s.profile.lastReset.code] s) ∧
    (Ready .faults rest s →
      Answers .faults rest s .ok
        ([byteOf s.cause.flags.toNat, byteOf (s.cause.flags.toNat / 256)] ++
          (match s.cause.record with
            | some r => [1, byteOf r.strip, byteOf r.offset, byteOf (r.offset / 256), if r.isWrite then 1 else 0,
                byteOf r.reason.code]
            | none => [0, 0, 0, 0, 0, 0])) s) ∧
    (Ready (.slotInfo slot) rest s →
      (7 < slot.toNat → Refuses (.slotInfo slot) rest s .badArg) ∧
      (∀ n : SlotNo, slot.toNat = n.val →
        let r := s.dir.slots[n]
        let out := decide (r.state = .valid) && r.current.any (fun b => decide (s.profile.blocks ≤ b))
        let stored := r.stored.getD ⟨0, 0⟩
        let work := r.workCheck.getD ⟨0, 0⟩
        let stamp := r.stamp.getD ⟨0, 0, false⟩
        Answers (.slotInfo slot) rest s .ok
          [slot, byteOf r.state.code,
           byteOf (bitsOf [r.current.isSome, r.working.isSome, r.stored.isSome, r.workCheck.isSome, r.stamp.isSome]),
           byteOf (r.current.getD 0), byteOf (r.working.getD 0), byteOf stored.s1, byteOf stored.s2, byteOf work.s1,
           byteOf work.s2, byteOf r.generation, byteOf (r.generation / 256), byteOf stamp.day,
           byteOf (stamp.day / 256), byteOf stamp.sec, byteOf (stamp.sec / 256), byteOf (stamp.sec / 65536),
           if stamp.doubt then 1 else 0,
           byteOf (bitsOf [r.damaged || out, r.verifyPending, r.done, isProtected s.dir.protect n, out]),
           byteOf r.lastResult.code] s)) ∧
    (Ready .poolInfo rest s →
      Answers .poolInfo rest s .ok
        ([byteOf s.profile.blocks, byteOf s.dir.pool.length, byteOf s.dir.protect.count,
          byteOf s.dir.protect.side.code, if s.dir.protect.invert then 1 else 0,
          if s.dir.windowOpen then 1 else 0] ++ s.dir.pool.map byteOf) s)

/-- VOICE INFO, TRACK INFO and RUMBLE INFO (R114, R122, R151): their replies in the layout of R171, and nothing else
changes. The model's own are: the low 16 bits of a stream position above 65535, which a stream without loop can end at
(log 32), the remaining count 0 of a forever mark (log 18), and zeros in the bits that R171 leaves unnamed in the mask, the
flags and a queued request's priority byte (log 34). -/
def Obligations.SoundAndRumbleQueriesReport : Prop :=
  ∀ (b : Byte) (rest : List Byte) (s : State),
    (Ready (.voiceInfo b) rest s →
      (5 < b.toNat → Refuses (.voiceInfo b) rest s .badArg) ∧
      (∀ n : VoiceNo, b.toNat = n.val →
        let v := s.voices[n]
        Answers (.voiceInfo b) rest s .ok
          [b, byteOf (homeCode v.home), byteOf v.owner.code, byteOf v.phase.code, byteOf v.noteInstrument,
           byteOf v.selected, byteOf v.snapshot.mode.code, byteOf v.increment, byteOf (v.increment / 256),
           byteOf v.volume, byteOf v.env, byteOf v.acc, byteOf (v.acc / 256), byteOf (v.acc / 65536),
           byteOf v.position, byteOf (v.position / 256), byteOf v.fraction, byteOf (v.fraction / 256),
           byteOf v.fetch, byteOf (v.fetch / 256), byteOf v.buffer.length, if v.primed then 1 else 0,
           byteOf v.lfsr, byteOf (v.lfsr / 256), BitVec.ofInt 8 v.last, if v.hold.isSome then 1 else 0,
           byteOf (v.hold.getD 0)] s)) ∧
    (Ready (.trackInfo b) rest s →
      (1 < b.toNat → Refuses (.trackInfo b) rest s .badArg) ∧
      (∀ k : TrackNo, b.toNat = k.val →
        let r := s.tracks[k]
        let m := r.loopMark.getD ⟨0, 0, false⟩
        let addr := fun a : RomAddr => [byteOf a.toNat, byteOf (a.toNat / 256), byteOf (a.toNat / 65536)]
        Answers (.trackInfo b) rest s .ok
          ([b, byteOf r.state.code] ++ addr r.nextAddr ++ addr r.fetchAddr ++
           [byteOf r.mask.toNat, byteOf r.source.code, byteOf r.period, byteOf (r.period / 256), byteOf r.divider,
            byteOf (r.divider / 256), if r.wait.isSome then 1 else 0, byteOf (r.wait.getD 0),
            if r.loopMark.isSome then 1 else 0] ++ addr m.addr ++
           [byteOf m.remaining, if m.forever then 1 else 0, r.marker, byteOf r.buffer.length]) s)) ∧
    (Ready .rumbleInfo rest s →
      let d := motorDrive s
      Answers .rumbleInfo rest s .ok
        ([byteOf (bitsOf [s.profile.motor, s.rumble.active.isSome, s.rumble.hot]), byteOf d.1, byteOf d.2.code] ++
         (match s.rumble.active with
          | none => List.replicate 9 0
          | some a => [byteOf a.request.pattern.val, byteOf s.rumble.patterns[a.request.pattern].rep.code,
              byteOf a.request.priority, byteOf a.request.source.code, byteOf a.stepIndex, byteOf a.stepRemaining,
              byteOf a.allowanceLeft, byteOf a.kick.code, byteOf a.kick.left]) ++
         [byteOf s.rumble.queue.length, byteOf s.rumble.heat, byteOf (s.rumble.heat / 256), byteOf s.rumble.zeroRun,
          byteOf s.rumble.lastEnd.code] ++
         s.rumble.queue.flatMap (fun q => [byteOf q.pattern.val, byteOf q.allowance,
           byteOf (q.priority + 128 * q.source.code)])) s)

/-! ## Calendar -/

/-- CLOCK SET and CLOCK TRIM (R75, R76): an invalid date or time is refused; otherwise the time is set, the second starts
afresh, the set count rises up to 255, DOUBT and END clear, and nothing else changes. -/
def Obligations.ClockCommandsSetTime : Prop :=
  ∀ (year : Word16) (month day hour minute second trim : Byte) (rest : List Byte) (s : State),
    let y := year.toNat
    let m := month.toNat
    let d := day.toNat
    let ok := 2000 ≤ y ∧ y ≤ 2179 ∧ 1 ≤ m ∧ m ≤ 12 ∧ 1 ≤ d ∧ d ≤ monthLength y m ∧
      (y < 2179 ∨ m < 6 ∨ m = 6 ∧ d ≤ 6) ∧ hour.toNat ≤ 23 ∧ minute.toNat ≤ 59 ∧ second.toNat ≤ 59
    let number := ((List.range (y - 2000)).map fun i => yearLength (2000 + i)).sum +
      ((List.range (m - 1)).map fun i => monthLength y (i + 1)).sum + d - 1
    (Ready (.clockSet year month day hour minute second) rest s →
      (¬ok → Refuses (.clockSet year month day hour minute second) rest s .badArg) ∧
      (ok → Answers (.clockSet year month day hour minute second) rest s .ok [] { s with cal := { s.cal with
        day := number, sec := hour.toNat * 3600 + minute.toNat * 60 + second.toNat, prescaler := 0, extension := 0,
        setCount := min 255 (s.cal.setCount + 1), doubt := false, atEnd := false } })) ∧
    (Ready (.clockTrim trim) rest s →
      (trim.toInt < -64 ∨ 63 < trim.toInt → Refuses (.clockTrim trim) rest s .badArg) ∧
      (-64 ≤ trim.toInt → trim.toInt ≤ 63 →
        Answers (.clockTrim trim) rest s .ok [] { s with cal := { s.cal with trim := trim.toInt } }))

/-- Dates and day numbers (R73, R77, R78): every day number is that of a valid date, the conversion and its inverse
agree, and the range points are as stated. -/
def Obligations.DatesAndDayNumbersAgree : Prop :=
  (∀ n ≤ 65535, let p := dateParts n
    validDate p.year p.month p.day = true ∧ dayNumber p.year p.month p.day = n ∧ p.weekday = (n + 6) % 7 ∧
      p.dayOfYear + dayNumber p.year 1 1 = n) ∧
  (∀ y m d, validDate y m d = true →
    (dateParts (dayNumber y m d)).year = y ∧ (dateParts (dayNumber y m d)).month = m ∧
      (dateParts (dayNumber y m d)).day = d) ∧
  dayNumber 2179 1 1 = 65379 ∧ dayNumber 2179 6 6 = 65535 ∧ validDate 2179 6 7 = false ∧ validDate 2100 2 29 = false

/-- CLOCK GET, DATE OF, DAY OF, DAYS SINCE and ABSENCE (R74, R77 to R79, R81): their replies in the layout of R171, and
nothing else changes. That the unnamed bits of CLOCK GET's flags are 0 is the model's (log 34). -/
def Obligations.CalendarQueriesReport : Prop :=
  ∀ (w : Word16) (month day slot : Byte) (rest : List Byte) (s : State),
    let p := dateParts w.toNat
    let stampBytes := fun o : Option PowerStamp =>
      match o with
      | some v => [1, byteOf v.day, byteOf (v.day / 256), byteOf v.sec, byteOf (v.sec / 256), byteOf (v.sec / 65536)]
      | none => [0, 0, 0, 0, 0, 0]
    (Ready .clockGet rest s →
      Answers .clockGet rest s .ok
        [byteOf s.cal.day, byteOf (s.cal.day / 256), byteOf s.cal.sec, byteOf (s.cal.sec / 256),
         byteOf (s.cal.sec / 65536), byteOf (s.cal.prescaler / 128), byteOf (bitsOf [s.cal.atEnd, s.cal.doubt]),
         byteOf s.cal.setCount, BitVec.ofInt 8 s.cal.trim] s) ∧
    (Ready (.dateOf w) rest s →
      Answers (.dateOf w) rest s .ok
        [byteOf p.year, byteOf (p.year / 256), byteOf p.month, byteOf p.day, byteOf p.weekday, byteOf p.dayOfYear,
         byteOf (p.dayOfYear / 256)] s) ∧
    (Ready (.dayOf w month day) rest s →
      let n := dayNumber w.toNat month.toNat day.toNat
      (validDate w.toNat month.toNat day.toNat = false → Refuses (.dayOf w month day) rest s .badArg) ∧
      (validDate w.toNat month.toNat day.toNat = true →
        Answers (.dayOf w month day) rest s .ok [byteOf n, byteOf (n / 256), byteOf ((n + 6) % 7)] s)) ∧
    (Ready (.daysSince slot) rest s →
      (7 < slot.toNat → Refuses (.daysSince slot) rest s .badArg) ∧
      (∀ n : SlotNo, slot.toNat = n.val →
        (s.dir.slots[n].stamp = none → Refuses (.daysSince slot) rest s .wrongState) ∧
        (∀ st, s.dir.slots[n].stamp = some st →
          let mark : Byte := if st.doubt || s.cal.doubt then 1 else 0
          let e := s.cal.day - st.day
          (s.cal.day < st.day → Answers (.daysSince slot) rest s .future [0, 0, mark] s) ∧
          (st.day ≤ s.cal.day → Answers (.daysSince slot) rest s .ok [byteOf e, byteOf (e / 256), mark] s)))) ∧
    (Ready .absence rest s →
      (∀ down up, s.cal.down = some down → s.cal.up = some up → down.day * 86400 + down.sec ≤ up.day * 86400 + up.sec →
        let e := up.day * 86400 + up.sec - (down.day * 86400 + down.sec)
        let sec := min 16777215 e
        Answers .absence rest s .ok
          (stampBytes s.cal.down ++ stampBytes s.cal.up ++
            [byteOf sec, byteOf (sec / 256), byteOf (sec / 65536), byteOf (e / 86400), byteOf (e / 86400 / 256),
             if s.cal.doubt then 1 else 0]) s) ∧
      (s.cal.down = none ∨ s.cal.up = none →
        Answers .absence rest s .ok
          (stampBytes s.cal.down ++ stampBytes s.cal.up ++ [0, 0, 0, 0, 0, if s.cal.doubt then 1 else 0]) s))

/-- The length of a second (R69): from P and X at 0, an ordinary second ends at its 32768th edge and a trim second at its
(32768 − T)th, and at no edge before. The crystal's stop and return (R67): DOUBT is set and no edges come; they come again
from the counts that were held. -/
def Obligations.SecondsLastTheirEdges : Prop :=
  (∀ c : Calendar, c.prescaler = 0 → c.extension = 0 → -64 ≤ c.trim → c.trim ≤ 63 →
    let edges := if c.sec % 60 = 0 then (32768 - c.trim).toNat else 32768
    (∀ k, k + 1 < edges → (Calendar.countEdge^[k] c).endsSecond = false) ∧
    (Calendar.countEdge^[edges - 1] c).endsSecond = true) ∧
  (∀ s : State,
    (s.supply.domainValid = true →
      exec .oscillatorStop s =
        .next { s with crystal := { s.crystal with running := false }, cal := { s.cal with doubt := true } }) ∧
    exec .crystalEdgesReturn s = .next { s with crystal := { s.crystal with running := true } })

/-- SECOND_TICK (R70, R71, R87 to R91): at the hold value END is set and nothing advances; otherwise the time advances
with the day carry, and every armed cue is evaluated against it: DAILY, EVERY, DAYROLL and ONCE fire as stated, a firing
counts up to 255, sets pending for an IRQ action, and missed in BATTERY and STARTING. Without an answered console nothing
else changes. That the edges left of the second count as come is the model's (log 8). -/
def Obligations.SecondTickAdvancesAndFiresCues : Prop :=
  ∀ s : State, s.supply.domainValid = true → s.crystal.running = true →
    let c := { s.cal with prescaler := 0, extension := 0 }
    let hold := s.cal.day = 65535 ∧ s.cal.sec = 86399
    (hold → exec .secondTick s = .next { s with cal := { c with atEnd := true } }) ∧
    (¬hold → s.cal.atEnd = false →
      ∃ t, exec .secondTick s = .next t ∧
        (s.cal.sec < 86399 → t.cal = { c with sec := s.cal.sec + 1 }) ∧
        (s.cal.sec = 86399 → t.cal = { c with sec := 0, day := s.cal.day + 1 }) ∧
        (s.cal.sec ≤ 86399 → ∀ n : CueNo,
          let q := s.cues[n]
          let fires := match q.trigger with
            | .off => False
            | .daily sec => t.cal.sec = sec
            | .every _ left => left ≤ 1
            | .dayroll => s.cal.sec = 86399
            | .once day sec => t.cal.day = day ∧ t.cal.sec = sec
          let next := match q.trigger with
            | .every period left => Trigger.every period (if left ≤ 1 then period else left - 1)
            | other => other
          let once := match q.trigger with
            | .once _ _ => True
            | _ => False
          (q.armed = false → t.cues[n] = q) ∧
          (q.armed = true → ¬fires → t.cues[n] = { q with trigger := next }) ∧
          (q.armed = true → fires →
            t.cues[n].trigger = next ∧ (t.cues[n].armed = true ↔ ¬once) ∧ t.cues[n].count = min 255 (q.count + 1) ∧
            t.cues[n].pending = (q.pending || q.irq) ∧
            (t.cues[n].missed = true ↔ q.missed = true ∨ s.supply.monitor = .battery ∨ s.supply.monitor = .starting) ∧
            t.cues[n].irq = q.irq ∧ t.cues[n].sound = q.sound ∧ t.cues[n].rumble = q.rumble)) ∧
        (answered s = false → { t with cal := s.cal, cues := s.cues } = s) ∧
        { t with cal := s.cal, cues := s.cues, voices := s.voices, port := s.port, rumble := s.rumble,
                 supply := s.supply, cause := s.cause, dir := s.dir, engine := s.engine } = s)

/-! ## Cues -/

/-- CUE SET, CUE CLEAR and CUE GET (R84 to R86): the refusals; the record replaced whole; armed cleared; the record
reported and then count, pending and missed cleared. The parameter bytes that a trigger does not have are zero by the
model's reading (log 16). -/
def Obligations.CueCommandsLoadAndReport : Prop :=
  ∀ (f : CueFields) (b : Byte) (n : CueNo) (rest : List Byte) (s : State),
    let kind := f.trigger.toNat
    let sec3 := fun (x y z : Byte) => x.toNat + 256 * y.toNat + 65536 * z.toNat
    let bad := 7 < f.cue.toNat ∨ kind = 0 ∨ 4 < kind ∨ (kind = 1 ∧ 86399 < sec3 f.param0 f.param1 f.param2) ∨
      (kind = 2 ∧ f.param0 = 0 ∧ f.param1 = 0) ∨ (kind = 4 ∧ 86399 < sec3 f.param2 f.param3 f.param4) ∨
      1 < f.irq.toNat ∨ 1 < f.soundPresent.toNat ∨ 1 < f.rumblePresent.toNat ∨
      (f.soundPresent = 1 ∧ (15 < f.instrument.toNat ∨ 15 < f.volume.toNat ∨ f.hold = 0)) ∨
      (f.rumblePresent = 1 ∧ (15 < f.pattern.toNat ∨ 3 < f.priority.toNat))
    let two := f.param0.toNat + 256 * f.param1.toNat
    let loaded : Cue :=
      { trigger := if kind = 1 then .daily (sec3 f.param0 f.param1 f.param2) else if kind = 2 then .every two two
          else if kind = 3 then .dayroll else .once two (sec3 f.param2 f.param3 f.param4),
        armed := true, irq := decide (f.irq = 1),
        sound := if f.soundPresent = 1 then
          some ⟨f.instrument.toNat, f.increment.toNat, f.volume.toNat, f.hold.toNat⟩ else none,
        rumble := if f.rumblePresent = 1 then some ⟨f.pattern.toNat, f.priority.toNat⟩ else none,
        count := 0, pending := false, missed := false }
    let q := s.cues[n]
    let params : List Byte := match q.trigger with
      | .off => [0, 0, 0, 0, 0]
      | .daily x => [byteOf x, byteOf (x / 256), byteOf (x / 65536), 0, 0]
      | .every p l => [byteOf p, byteOf (p / 256), byteOf l, byteOf (l / 256), 0]
      | .dayroll => [0, 0, 0, 0, 0]
      | .once d x => [byteOf d, byteOf (d / 256), byteOf x, byteOf (x / 256), byteOf (x / 65536)]
    let sd := q.sound.getD ⟨0, 0, 0, 0⟩
    let rm := q.rumble.getD ⟨0, 0⟩
    let put := fun c : Cue => { s with cues := s.cues.set n.val c n.isLt }
    (Ready (.cueSet f) rest s →
      (bad → Refuses (.cueSet f) rest s .badArg) ∧
      (¬bad → f.cue.toNat = n.val →
        Answers (.cueSet f) rest s .ok [] (put loaded))) ∧
    (Ready (.cueClear b) rest s →
      (7 < b.toNat → Refuses (.cueClear b) rest s .badArg) ∧
      (b.toNat = n.val →
        Answers (.cueClear b) rest s .ok [] (put { q with armed := false }))) ∧
    (Ready (.cueGet b) rest s →
      (7 < b.toNat → Refuses (.cueGet b) rest s .badArg) ∧
      (b.toNat = n.val →
        Answers (.cueGet b) rest s .ok
          ([b, byteOf q.trigger.code] ++ params ++
           [if q.armed then 1 else 0, if q.irq then 1 else 0, if q.sound.isSome then 1 else 0, byteOf sd.instrument,
            byteOf sd.increment, byteOf (sd.increment / 256), byteOf sd.volume, byteOf sd.hold,
            if q.rumble.isSome then 1 else 0, byteOf rm.pattern, byteOf rm.priority, byteOf q.count,
            if q.pending then 1 else 0, if q.missed then 1 else 0])
          (put { q with count := 0, pending := false, missed := false })))

/-- Instrument records, and the actions of the cues that fire at a tick. The taking of a record (R97, R98): its 16 bytes
read at 0x200 + 16 × n, clamped field by field, invalid where its mode is above 3 or its stream empty. The lowest-numbered
firing cue with a sound action starts a cue note on voice 5 from a valid record, and from an invalid record none starts; with
no sound action the voices stay (R92). Each firing cue's rumble action is a request of allowance 64 and source CUE, made in
cue order and decided as R138 decides, one refused being dropped (R93); one that starts does so under the kick rule (R145),
a preempted request's kick ending first (R139, R161). SECOND_TICK makes this evaluation at the new time, taking the edges
left of the second as come (the model's, log 8). The hold counter (R110): it counts in ATTACK, DECAY and SUSTAIN, and
CUE_HOLD_EXPIRY is the tick at which it reaches 0 and voice 5 takes a release request (a row of its own, log 9). -/
def Obligations.CueNotesStartAndEnd : Prop :=
  ∀ (m : TickMoment) (a : CueRumble) (i : Fin 16) (s : State),
    let v := s.voices[(5 : VoiceNo)]
    let t := evaluateCues m s
    let fires := fun n : CueNo => s.cues[n].fires m = true
    let request : Request := ⟨i, a.priority, 64, .cue⟩
    let pattern := s.rumble.patterns[i]
    let begun : Active := ⟨request, 0, (pattern.steps.head?.map fun st => st.duration).getD 0, 64, .none⟩
    let withRumble := fun r : Rumble => { s with rumble := r }
    let refused := s.profile.motor = false ∨ hasFault .stall s = true ∨ pattern.steps = [] ∨
      ∃ b, s.rumble.active = some b ∧ a.priority ≤ b.request.priority ∧ 4 ≤ s.rumble.queue.length
    let kicks := 8 ≤ s.rumble.zeroRun ∧ s.supply.monitor = .run ∧ s.rumble.hot = false ∧
      ∃ l, pattern.steps.head?.map (fun st => st.level) = some (.drive (l + 1))
    let asked := submitCue a s
    let starts := fun (x : Rumble) (u : Supply) =>
      (¬kicks → asked.rumble = { x with active := some begun } ∧ asked.supply = u) ∧
      (kicks → u.holder = .none → asked.rumble = { x with active := some { begun with kick := .kicking 3 } } ∧
        asked.supply = { u with holder := .kicker, kickerReq := false }) ∧
      (kicks → u.holder ≠ .none → asked.rumble = { x with active := some { begun with kick := .waiting } } ∧
        asked.supply = { u with kickerReq := true })
    let kicking := fun b : Active => (∃ n, b.kick = .kicking n) ∧ s.supply.holder = .kicker ∧ s.supply.kickerReq = false
    let leaves := fun (b : Active) (u : Supply) =>
      (b.kick = .none ∧ u = s.supply) ∨ (b.kick = .waiting ∧ u = { s.supply with kickerReq := false }) ∨
      (kicking b ∧ s.supply.engineReq = false ∧ u = { s.supply with holder := .none })
    let afterSecond : Calendar := { s.cal with
      prescaler := 0, extension := 0, sec := if s.cal.sec = 86399 then 0 else s.cal.sec + 1,
      day := if s.cal.sec = 86399 then s.cal.day + 1 else s.cal.day }
    (∀ n ≤ 15,
      let b := fun j => readMem soundUnlisted s.sound (512 + 16 * n + j)
      let two := fun j => (b j).toNat + 256 * (b (j + 1)).toNat
      (3 < (b 0).toNat ∨ (b 0 = 1 ∧ two 5 = 0) → instrumentOf s n = none) ∧
      (∀ mode, (b 0, mode) ∈ [((0 : Byte), Mode.wave), (1, .stream), (2, .noiseLong), (3, .noiseShort)] →
        (mode = .stream → two 5 ≠ 0) →
        instrumentOf s n = some { mode := mode, wave := min (b 1).toNat 15, start := romAddr (b 2) (b 3) (b 4),
                                  length := two 5, loop := min (two 7) (two 5), attack := min (b 9).toNat 127,
                                  decay := min (b 10).toNat 127, sustain := min (b 11).toNat 127,
                                  release := min (b 12).toNat 127 })) ∧
    (answered s = true →
      ((∀ n, fires n → s.cues[n].sound = none) → t.voices = s.voices) ∧
      (∀ n a, fires n → s.cues[n].sound = some a → (∀ k, k < n → fires k → s.cues[k].sound = none) →
        (instrumentOf s a.instrument = none → t.voices = s.voices) ∧
        (∀ snap, instrumentOf s a.instrument = some snap →
          t.voices[(5 : VoiceNo)] =
            { v with snapshot := snap, noteInstrument := a.instrument, increment := a.increment, volume := a.volume,
                     acc := 0, position := 0, fraction := 0, fetch := 0, buffer := [], primed := false,
                     lfsr := if snap.mode = .noiseLong then 32767 else if snap.mode = .noiseShort then 127 else v.lfsr,
                     last := 0, env := if snap.attack = 0 then 127 else 0,
                     phase := if snap.attack = 0 then .decay else .attack, hold := some a.hold, owner := .cue } ∧
          ∀ w : VoiceNo, w ≠ 5 → t.voices[w] = s.voices[w])) ∧
      ∃ x : State, x.rumble = s.rumble ∧ x.supply = s.supply ∧ x.profile = s.profile ∧ x.cause = s.cause ∧
        t = ([0, 1, 2, 3, 4, 5, 6, 7] : List CueNo).foldl (fun y n =>
          if s.cues[n].fires m = true then (s.cues[n].rumble.map fun a => submitCue a y).getD y else y) x) ∧
    (a.pattern = i.val →
      (refused → submitCue a s = s) ∧
      (¬refused →
        (∀ b, s.rumble.active = some b → a.priority ≤ b.request.priority →
          ∃ before after, s.rumble.queue = before ++ after ∧ (∀ q ∈ before, a.priority ≤ q.priority) ∧
            (∀ q ∈ after.head?, q.priority < a.priority) ∧
            submitCue a s = withRumble { s.rumble with queue := before ++ request :: after }) ∧
        (s.rumble.active = none →
          starts s.rumble s.supply ∧ { asked with rumble := s.rumble, supply := s.supply } = s) ∧
        (∀ b, s.rumble.active = some b → b.request.priority < a.priority →
          (∀ u, leaves b u →
            starts { s.rumble with lastEnd := .preempted } u ∧
            { asked with rumble := s.rumble, supply := s.supply } = s) ∧
          (∀ f, kicking b → s.supply.engineReq = true → s.engine.flight = some f →
            { asked with rumble := s.rumble, supply := s.supply, dir := s.dir, engine := s.engine } = s ∧
            (f.kind = .erase → asked.engine = { s.engine with flight := some { f with stage := .fill } } ∧
              asked.dir = s.dir ∧
              starts { s.rumble with lastEnd := .preempted } { s.supply with holder := .engine, engineReq := false }) ∧
            (f.kind = .commit → asked.engine = { s.engine with flight := none } ∧
              asked.dir.slots[f.slot].state = .valid ∧
              asked.dir.slots[f.slot].current = s.dir.slots[f.slot].working ∧
              asked.dir.slots[f.slot].stored = s.dir.slots[f.slot].workCheck ∧
              (∀ w : SlotNo, w ≠ f.slot → asked.dir.slots[w] = s.dir.slots[w]) ∧
              starts { s.rumble with lastEnd := .preempted } { s.supply with holder := .none, engineReq := false }))))) ∧
    (s.supply.domainValid = true → s.crystal.running = true → s.cal.atEnd = false → s.cal.sec ≤ 86399 →
      ¬(s.cal.day = 65535 ∧ s.cal.sec = 86399) →
      exec .secondTick s = .next (evaluateCues
        ⟨afterSecond.day, afterSecond.sec, decide (s.cal.sec = 86399),
          decide (s.supply.monitor = .battery ∨ s.supply.monitor = .starting)⟩ { s with cal := afterSecond })) ∧
    (powered s = true → s.crystal.running = true → v.phase = .attack ∨ v.phase = .decay ∨ v.phase = .sustain →
      (∀ h, v.hold = some (h + 2) → ∃ u, exec .rumbleTick s = .next u ∧
        u.voices[(5 : VoiceNo)] = { v with hold := some (h + 1) } ∧ ∀ w : VoiceNo, w ≠ 5 → u.voices[w] = s.voices[w]) ∧
      (v.hold = some 1 →
        ∃ u, exec .cueHoldExpiry s = .next u ∧ (∀ w : VoiceNo, w ≠ 5 → u.voices[w] = s.voices[w]) ∧
          (v.snapshot.release ≠ 0 → u.voices[(5 : VoiceNo)] = { v with hold := none, phase := .release }) ∧
          (v.snapshot.release = 0 → u.voices[(5 : VoiceNo)] =
            { v with hold := none, phase := .idle, env := 0, buffer := [], owner := ownerOfHome v.home }) ∧
          { u with voices := s.voices, port := s.port, rumble := s.rumble, cause := s.cause, supply := s.supply,
                   dir := s.dir, engine := s.engine } = s))

/-! ## Voices -/

/-- VOICE PLAY, SET, RELEASE, STOP and MASTER (R111 to R113, R115): their refusals in order, the note-on of R103, the
release and stop requests of R105, the clamp of MASTER. -/
def Obligations.VoiceCommandsAct : Prop :=
  ∀ (b instrument : Byte) (increment : Word16) (volume : Byte) (n : VoiceNo) (rest : List Byte) (s : State),
    let v := s.voices[n]
    let put := fun w : Voice => { s with voices := s.voices.set n.val w n.isLt }
    let ended := { s.port with grant := s.port.grant.filter fun g => decide (g.holder ≠ .voice n) }
    let idle := { v with phase := .idle, env := 0, buffer := [], hold := none, owner := ownerOfHome v.home }
    let play := Instr.voicePlay b instrument increment volume
    let set := Instr.voiceSet b increment volume
    (Ready play rest s →
      (5 < b.toNat ∨ 15 < instrument.toNat ∨ 15 < volume.toNat → Refuses play rest s .badArg) ∧
      (b.toNat = n.val → instrument.toNat ≤ 15 → volume.toNat ≤ 15 →
        (v.owner = .cue → Refuses play rest s .busy) ∧
        (v.owner ≠ .cue → instrumentOf s instrument.toNat = none → Refuses play rest s .badArg) ∧
        (∀ snap, v.owner ≠ .cue → instrumentOf s instrument.toNat = some snap →
          Answers play rest s .ok []
            { put { v with snapshot := snap, noteInstrument := instrument.toNat, increment := increment.toNat,
                           volume := volume.toNat, acc := 0, position := 0, fraction := 0, fetch := 0, buffer := [],
                           primed := false, last := 0, hold := none, owner := .console,
                           lfsr := if snap.mode = .noiseLong then 32767 else
                             if snap.mode = .noiseShort then 127 else v.lfsr,
                           env := if snap.attack = 0 then 127 else 0,
                           phase := if snap.attack = 0 then .decay else .attack }
              with port := ended }))) ∧
    (∀ c, c = set ∨ c = .voiceRelease b → Ready c rest s →
      (5 < b.toNat ∨ c = set ∧ 15 < volume.toNat → Refuses c rest s .badArg) ∧
      (b.toNat = n.val → (c = set → volume.toNat ≤ 15) →
        (v.owner = .cue ∨ (∃ k, v.owner = .track k) → Refuses c rest s .busy) ∧
        (v.owner = .none → Refuses c rest s .wrongState))) ∧
    (b.toNat = n.val → v.owner = .console →
      (Ready set rest s → volume.toNat ≤ 15 →
        Answers set rest s .ok [] (put { v with increment := increment.toNat, volume := volume.toNat })) ∧
      (Ready (.voiceRelease b) rest s →
        (v.phase = .attack ∨ v.phase = .decay ∨ v.phase = .sustain → v.snapshot.release ≠ 0 →
          Answers (.voiceRelease b) rest s .ok [] (put { v with phase := .release })) ∧
        (v.phase = .attack ∨ v.phase = .decay ∨ v.phase = .sustain → v.snapshot.release = 0 →
          Answers (.voiceRelease b) rest s .ok [] { put idle with port := ended }) ∧
        (v.phase = .release → Answers (.voiceRelease b) rest s .ok [] s))) ∧
    (Ready (.voiceStop b) rest s →
      (5 < b.toNat → Refuses (.voiceStop b) rest s .badArg) ∧
      (b.toNat = n.val → v.phase ≠ .idle → Answers (.voiceStop b) rest s .ok [] { put idle with port := ended }) ∧
      (b.toNat = n.val → v.phase = .idle → (∀ g ∈ s.port.grant, g.holder ≠ .voice n) →
        Answers (.voiceStop b) rest s .ok [] s)) ∧
    (Ready (.master b) rest s →
      Answers (.master b) rest s .ok [] { s with mixer := { s.mixer with master := min 16 b.toNat } })

/-- SAMPLE_CLOCK. The DAC code from the samples, envelopes and volumes of the six voices and M, with its one clamp, which
sets CLIP (R116, R117); 512 while every voice is IDLE or M is 0. While no track runs, each voice advances by its mode: WAVE
its accumulator (R106); a STREAM voice not primed stays, one short of bytes holds its sample with UNDERRUN set, a fed one
consumes its bytes, goes back by its loop, or reaches IDLE at the end of a stream without loop (R107); NOISE its LFSR (R109).
The TIME tracks count (R124); that they do so in the same step is the model's (log 6), and so is the position a stream
without loop ends at (log 32). -/
def Obligations.SampleClockMakesDacCode : Prop :=
  ∀ s : State, powered s = true → s.crystal.running = true →
    let count := fun v : Voice => (v.fraction + v.increment) / 4096
    let need := fun v : Voice =>
      if v.snapshot.loop = 0 then min (max 1 (count v)) (v.snapshot.length - v.position) else max 1 (count v)
    let fed := fun v : Voice => v.primed = true ∧ need v ≤ v.buffer.length
    let noise : Voice → Int := fun v => if v.lfsr % 2 = 1 then 127 else -128
    let x : Voice → Int := fun v =>
      match v.snapshot.mode with
      | .wave => sampleOf (soundByte s (32 * v.snapshot.wave + v.acc / 4096))
      | .stream => if fed v then sampleOf (v.buffer.headD 0) else v.last
      | .noiseLong => noise v
      | .noiseShort => noise v
    let y : VoiceNo → Int := fun n =>
      if s.voices[n].phase = .idle then 0 else x s.voices[n] * s.voices[n].env * s.voices[n].volume / 128
    let z : Int := (y 0 + y 1 + y 2 + y 3 + y 4 + y 5) * s.mixer.master / 64
    let stopped := ∀ k : TrackNo, s.tracks[k].state = .stopped
    ∃ t, exec .sampleClock s = .next t ∧ t.mixer.dac = some (max (-512) (min 511 z) + 512).toNat ∧
      t.mixer.master = s.mixer.master ∧ (z < -512 ∨ 511 < z → hasFault .clip t = true) ∧
      (stopped → -512 ≤ z → z ≤ 511 → hasFault .clip t = hasFault .clip s) ∧
      ((∀ n : VoiceNo, s.voices[n].phase = .idle) ∨ s.mixer.master = 0 → t.mixer.dac = some 512) ∧
      (stopped → ∀ n : VoiceNo,
        let v := s.voices[n]
        let length := v.snapshot.length
        let loop := v.snapshot.loop
        let ahead := v.position + count v
        let moved := { v with last := x v, buffer := v.buffer.drop (count v), position := ahead,
                              fraction := (v.fraction + v.increment) % 4096 }
        let shifted := fun l => l / 2 +
          (if v.snapshot.mode = .noiseShort then 64 else 16384) * (if l % 2 = l / 2 % 2 then 0 else 1)
        (v.phase = .idle → t.voices[n] = v) ∧
        (v.phase ≠ .idle → v.snapshot.mode = .wave →
          t.voices[n] = { v with last := x v, acc := (v.acc + v.increment) % 131072 }) ∧
        (v.phase ≠ .idle → v.snapshot.mode = .stream →
          (v.primed = false → t.voices[n] = v) ∧
          (v.primed = true → v.buffer.length < need v → t.voices[n] = v ∧ hasFault .underrun t = true) ∧
          (fed v → ahead < length → t.voices[n] = moved) ∧
          (fed v → length ≤ ahead → loop = 0 →
            t.voices[n] = { moved with phase := .idle, env := 0, buffer := [], hold := none,
                                       owner := ownerOfHome v.home } ∧
            ∀ g ∈ t.port.grant, g.holder ≠ .voice n) ∧
          (fed v → length ≤ ahead → loop ≠ 0 → loop ≤ length →
            ∃ p j, t.voices[n] = { moved with position := p } ∧ p + j * loop = ahead ∧ p < length ∧ length ≤ p + loop)) ∧
        (v.phase ≠ .idle → v.snapshot.mode = .noiseLong ∨ v.snapshot.mode = .noiseShort →
          t.voices[n] = { v with last := x v, acc := (v.acc % 4096 + v.increment) % 4096,
                                 lfsr := shifted^[(v.acc % 4096 + v.increment) / 4096] v.lfsr })) ∧
      { t with voices := s.voices, port := s.port, mixer := s.mixer, cause := s.cause, tracks := s.tracks } = s ∧
      (stopped → t.tracks = s.tracks) ∧ SourceCounts .time s t ∧
      (∀ k : TrackNo, s.tracks[k].source = .time → s.tracks[k].state ≠ .stopped →
        s.tracks[k].period ≤ s.tracks[k].divider + 1 →
        s.tracks[otherTrack k].source = .frame ∨ s.tracks[otherTrack k].state = .stopped →
        exec .sampleClock s = exec (.trackTick k) (Tick.voices.act s))

/-- ENVELOPE_TICK (R104): each voice's step by its phase. -/
def Obligations.EnvelopeTickStepsEveryVoice : Prop :=
  ∀ s : State, powered s = true → s.crystal.running = true →
    ∃ t, exec .envelopeTick s = .next t ∧ { t with voices := s.voices, port := s.port } = s ∧
      ∀ n : VoiceNo,
        let v := s.voices[n]
        let p := v.snapshot
        (v.phase = .idle ∨ v.phase = .sustain → t.voices[n] = v) ∧
        (v.phase = .attack → v.env + p.attack < 127 → t.voices[n] = { v with env := v.env + p.attack }) ∧
        (v.phase = .attack → 127 ≤ v.env + p.attack → t.voices[n] = { v with env := 127, phase := .decay }) ∧
        (v.phase = .decay → p.decay = 0 → t.voices[n] = { v with phase := .sustain }) ∧
        (v.phase = .decay → p.decay ≠ 0 → v.env ≤ p.sustain + p.decay →
          t.voices[n] = { v with env := p.sustain, phase := .sustain }) ∧
        (v.phase = .decay → p.decay ≠ 0 → p.sustain + p.decay < v.env →
          t.voices[n] = { v with env := v.env - p.decay }) ∧
        (v.phase = .release → p.release < v.env → t.voices[n] = { v with env := v.env - p.release }) ∧
        (v.phase = .release → v.env ≤ p.release →
          t.voices[n] = { v with phase := .idle, env := 0, buffer := [], hold := none, owner := ownerOfHome v.home } ∧
          ∀ g ∈ t.port.grant, g.holder ≠ .voice n)

/-! ## ROM port and sequencer -/

/-- ROM_ARBITRATION and ROM_BYTE_READ (R16, R18, R19, R108, R123): who stands in request; an idle port grants the
requesting voice with the fewest bytes, or else the requesting track with the fewest events, the lower number on a tie; a
byte read goes to the holder's buffer, from the ROM modulo its size (R9); the sixth byte completes an event and ends the
grant. In WAITING an event with a delta waits, and one with delta 0 is acted on at its arrival (R125), as the track tick that
makes it due acts on it, the divider untouched (the tick's row takes the counts left as come, log 8). That the next byte
read begins with the grant and with each delivery is the model's (log 31). -/
def Obligations.RomPortGrantsAndDelivers : Prop :=
  ∀ (v : VoiceNo) (k : TrackNo) (g : Grant) (s : State), answered s = true →
    let byteAt := fun a : RomAddr => readMem romUnlisted s.rom (a.toNat % s.profile.romSize)
    let w := s.voices[v]
    let r := s.tracks[k]
    let part := s.port.partials[k]
    let arrived := byteAt (r.fetchAddr + BitVec.ofNat 24 part.length)
    (voiceRequests s v = true ↔
      w.phase ≠ .idle ∧ w.snapshot.mode = .stream ∧ w.fetch < w.snapshot.length ∧ w.buffer.length ≤ 8) ∧
    (trackRequests s k = true ↔
      r.state ≠ .stopped ∧ r.buffer.length < 4 ∧ ∀ e ∈ r.buffer, 1 ≤ e.kind.toNat ∧ e.kind.toNat ≤ 9) ∧
    (s.port.grant = none → voiceRequests s v = true →
      (∀ u, voiceRequests s u = true → w.buffer.length < s.voices[u].buffer.length ∨
        w.buffer.length = s.voices[u].buffer.length ∧ v ≤ u) →
      exec .romArbitration s = .next { s with port := { s.port with grant := some ⟨.voice v, 0, true⟩ } }) ∧
    (s.port.grant = none → (∀ u, voiceRequests s u = false) → trackRequests s k = true →
      (∀ u, trackRequests s u = true → r.buffer.length < s.tracks[u].buffer.length ∨
        r.buffer.length = s.tracks[u].buffer.length ∧ k ≤ u) →
      exec .romArbitration s = .next { s with port := { s.port with grant := some ⟨.track k, 0, true⟩ } }) ∧
    (s.port.grant = some g → g.holder = .voice v →
      let b := byteAt (w.snapshot.start + BitVec.ofNat 24 w.fetch)
      let held := w.buffer.length + 1
      let fetch := if w.fetch + 1 = w.snapshot.length ∧ w.snapshot.loop ≠ 0 then w.snapshot.length - w.snapshot.loop
        else w.fetch + 1
      let primed := w.primed || decide (8 ≤ held) || decide (w.snapshot.loop = 0 ∧ w.snapshot.length ≤ held)
      let fed : Voice := { w with buffer := w.buffer ++ [b], fetch := fetch, primed := primed }
      ∃ t, exec .romByteRead s = .next t ∧ t.voices = s.voices.set v.val fed v.isLt ∧
        (3 ≤ g.delivered ∨ 16 ≤ held ∨ w.snapshot.length ≤ fetch → t.port.grant = none) ∧
        (g.delivered < 3 → held < 16 → fetch < w.snapshot.length →
          t.port.grant = some { g with delivered := g.delivered + 1, reading := true }) ∧
        { t with voices := s.voices, port := s.port } = s ∧ t.port.partials = s.port.partials) ∧
    (s.port.grant = some g → g.holder = .track k →
      (part.length < 5 →
        ∃ t, exec .romByteRead s = .next t ∧ t.port.partials = s.port.partials.set k.val (part ++ [arrived]) k.isLt ∧
          (3 ≤ g.delivered → t.port.grant = none) ∧
          (g.delivered < 3 → t.port.grant = some { g with delivered := g.delivered + 1, reading := true }) ∧
          { t with port := s.port } = s) ∧
      (∀ b0 b1 b2 b3 b4, part = [b0, b1, b2, b3, b4] →
        let e : Event := ⟨b0, b1, b2, word16 b3 b4, arrived⟩
        let loaded : Track := { r with buffer := [e], fetchAddr := r.fetchAddr + 6, state := .running, wait := some b0.toNat }
        let joined : Track := { r with buffer := r.buffer ++ [e], fetchAddr := r.fetchAddr + 6 }
        let port : RomPort := { grant := none, partials := s.port.partials.set k.val [] k.isLt }
        (r.state = .waiting → r.buffer = [] → b0 ≠ 0 →
          exec .romByteRead s = .next { s with port := port, tracks := s.tracks.set k.val loaded k.isLt }) ∧
        (r.state = .waiting → r.buffer = [] → b0 = 0 →
          let due := { s with port := port, crystal := { s.crystal with running := true },
                              frame := { s.frame with state := .present },
                              tracks := s.tracks.set k.val { loaded with wait := some 1 } k.isLt }
          ∃ u, exec (.trackTick k) due = .next u ∧
            exec .romByteRead s = .next { u with
              crystal := s.crystal, frame := s.frame,
              tracks := u.tracks.set k.val { u.tracks[k] with divider := r.divider } k.isLt }) ∧
        (r.state = .running →
          exec .romByteRead s = .next { s with port := port, tracks := s.tracks.set k.val joined k.isLt })))

/-- TRACK START and TRACK STOP (R120, R121): the refusals in order; a started track waits at its address, home to the
voices of its mask; a stopped one has released the voices it owned and is home to none, both its addresses kept, where the
model follows R121 against R119's words on an empty buffer (log 35). TRACK_TICK (R124, R125): in
RUNNING with more than one tick to wait the wait counter falls and the divider is 0; in WAITING the tick is lost with
SEQ_LATE; that the counts left of the divider count as come is the model's (log 8). -/
def Obligations.TracksStartStopAndTick : Prop :=
  ∀ (b : Byte) (address : RomAddr) (mask source : Byte) (period : Word16) (k : TrackNo) (rest : List Byte) (s : State),
    let start := Instr.trackStart b address mask source period
    let other := s.tracks[otherTrack k]
    let bad := 1 < b.toNat ∨ 63 < mask.toNat ∨ 1 < source.toNat ∨ (source = 0 ∧ period.toNat < 16) ∨
      (source = 1 ∧ (period.toNat = 0 ∨ 16 < period.toNat))
    let shared := other.state ≠ .stopped ∧ other.mask &&& mask.setWidth 6 ≠ 0
    let begun : Track :=
      { state := .waiting, nextAddr := address, fetchAddr := address, mask := mask.setWidth 6,
        source := if source = 0 then .time else .frame, period := period.toNat, divider := 0, wait := none,
        loopMark := none, marker := 0, buffer := [] }
    let r := s.tracks[k]
    (Ready start rest s →
      (bad → Refuses start rest s .badArg) ∧
      (¬bad → b.toNat = k.val → shared → Refuses start rest s .busy) ∧
      (¬bad → b.toNat = k.val → ¬shared →
        ∃ t, Answers start rest s .ok [] t ∧
          t.tracks[k] = begun ∧
          t.tracks[otherTrack k] = other ∧ t.port.partials[k] = [] ∧ (∀ g ∈ t.port.grant, g.holder ≠ .track k) ∧
          (∀ v : VoiceNo, mask.getLsbD v.val = true → t.voices[v].home = some k) ∧
          (r.state = .stopped → ∀ v : VoiceNo,
            let w := s.voices[v]
            let owner := if w.owner = .none then Owner.track k else w.owner
            (mask.getLsbD v.val = true → t.voices[v] = { w with home := some k, owner := owner }) ∧
            (mask.getLsbD v.val = false → t.voices[v] = w)) ∧
          { t with tracks := s.tracks, voices := s.voices, port := s.port } = s)) ∧
    (Ready (.trackStop b) rest s →
      (1 < b.toNat → Refuses (.trackStop b) rest s .badArg) ∧
      (b.toNat = k.val → r.state = .stopped → Answers (.trackStop b) rest s .ok [] s) ∧
      (b.toNat = k.val → r.state ≠ .stopped →
        ∃ t, Answers (.trackStop b) rest s .ok [] t ∧
          t.tracks = s.tracks.set k.val { r with state := .stopped, buffer := [], wait := none, loopMark := none } k.isLt ∧
          t.port.partials[k] = [] ∧ (∀ g ∈ t.port.grant, g.holder ≠ .track k) ∧
          (∀ v : VoiceNo, t.voices[v] = leftBy k s.voices[v]) ∧
          { t with tracks := s.tracks, voices := s.voices, port := s.port } = s)) ∧
    (powered s = true → sourceRuns s k = true →
      (∀ w, r.state = .running → r.wait = some (w + 2) →
        exec (.trackTick k) s =
          .next { s with tracks := s.tracks.set k.val { r with divider := 0, wait := some (w + 1) } k.isLt }) ∧
      (r.state = .waiting →
        exec (.trackTick k) s = .next { s with tracks := s.tracks.set k.val { r with divider := 0 } k.isLt,
                                               cause := (setFault .seqLate s).cause }))

/-- The events (R126 to R129), each acted on at the tick that brings its wait counter to 0 (R125), whatever stands behind
it: with nothing behind it the track goes to WAITING, a next event with a delta waits, one with delta 0 is acted on in the
same step. Voice events on a voice the track owns, on one it does not own, and above 5; TEMPO with its clamps; LOOP, whose
forever mark keeps 0 as its remaining count by the model's reading (log 18); BACK with and without a jump; MARKER; END and
the unknown kinds, behind which nothing has been fetched, where a stopped track keeps both its addresses by R121 (log 35).
That the row is the whole track tick is the model's (log 9), and so is that the counts left of the divider count as come
(log 8). -/
def Obligations.EventsActAtTheirTick : Prop :=
  ∀ (k : TrackNo) (e : Event) (tail : List Event) (n : VoiceNo) (s : State),
    let r := s.tracks[k]
    let v := s.voices[n]
    let due := powered s = true ∧ sourceRuns s k = true ∧ r.state = .running ∧ r.wait = some 1 ∧ r.buffer = e :: tail
    let settled := ∀ f ∈ tail.head?, f.delta ≠ 0
    let on := { r with divider := 0, buffer := tail, nextAddr := r.nextAddr + 6,
                       wait := tail.head?.map (fun f => f.delta.toNat),
                       state := if tail = [] then .waiting else .running }
    let tempo := if r.source = .time then max 16 e.value.toNat else max 1 (min 16 e.value.toNat)
    let mark : LoopMark := ⟨r.nextAddr + 6, e.extra.toNat, decide (e.extra = 0)⟩
    let stopped := { r with divider := 0, nextAddr := r.nextAddr + 6, state := .stopped, buffer := [], wait := none,
                            loopMark := none }
    let tracksOf := fun q : Track => s.tracks.set k.val q k.isLt
    let put := fun w : Voice => { s with tracks := tracksOf on, voices := s.voices.set n.val w n.isLt }
    let dropped := { s with tracks := tracksOf on }
    let mine := e.voice.toNat = n.val ∧ v.owner = .track k
    let sounds := v.phase = .attack ∨ v.phase = .decay ∨ v.phase = .sustain
    let ungranted := fun t : State => (∀ g ∈ t.port.grant, g.holder ≠ .voice n) ∧ t.port.partials = s.port.partials
    let stops := fun t : State =>
      t.tracks = tracksOf stopped ∧ (∀ u : VoiceNo, t.voices[u] = leftBy k s.voices[u]) ∧ t.port.partials[k] = [] ∧
      (∀ g ∈ t.port.grant, g.holder ≠ .track k)
    let rows : List (Byte × Instr) :=
      [(0, .endEvent k), (1, .noteEvent k), (2, .offEvent k), (3, .instrEvent k), (4, .volEvent k), (5, .pitchEvent k),
       (6, .tempoEvent k), (7, .loopEvent k), (8, .backEvent k), (9, .markerEvent k)]
    (sourceRuns s k = true ↔
      (r.source = .time ∧ powered s = true ∧ s.crystal.running = true) ∨
      (r.source = .frame ∧ answered s = true ∧ (s.frame.state = .present ∨
        s.frame.state = .lost ∧ s.frame.mode = .coast ∧ s.crystal.running = true))) ∧
    (due →
      (∀ c, (e.kind, c) ∈ rows → exec (.trackTick k) s = exec c s) ∧
      (9 < e.kind.toNat → exec (.trackTick k) s = exec (.unknownEvent k) s) ∧
      (∀ c f rest u, (e.kind, c) ∈ rows → tail = f :: rest → f.delta = 0 →
        exec c { s with tracks := tracksOf { r with buffer := e :: { f with delta := 1 } :: rest } } = .next u →
        (u.tracks[k].buffer = [] → exec c s = .next u) ∧
        (u.tracks[k].buffer ≠ [] → exec c s = exec (.trackTick k) u)) ∧
      (∀ m, e.kind = 8 → r.loopMark = some m → m.forever = true ∨ 0 < m.remaining →
        let left := if m.forever then m.remaining else m.remaining - 1
        let jumped := { r with divider := 0, buffer := [], wait := none, state := .waiting, nextAddr := m.addr,
                               fetchAddr := m.addr, loopMark := some { m with remaining := left } }
        ∃ t, exec (.backEvent k) s = .next t ∧ t.tracks = tracksOf jumped ∧
          t.port.partials[k] = [] ∧ (∀ g ∈ t.port.grant, g.holder ≠ .track k) ∧
          { t with tracks := s.tracks, port := s.port } = s) ∧
      (e.kind = 0 → ∃ t, exec (.endEvent k) s = .next t ∧ stops t ∧
        { t with tracks := s.tracks, voices := s.voices, port := s.port } = s) ∧
      (9 < e.kind.toNat → ∃ t, exec (.unknownEvent k) s = .next t ∧ stops t ∧ t.cause = (setFault .badEvent s).cause ∧
        { t with tracks := s.tracks, voices := s.voices, port := s.port, cause := s.cause } = s)) ∧
    (due → settled →
      (∀ c, (e.kind, c) ∈ rows → 1 ≤ e.kind.toNat → e.kind.toNat ≤ 5 →
        (5 < e.voice.toNat → exec c s = .next { dropped with cause := (setFault .badEvent s).cause }) ∧
        (e.voice.toNat = n.val → v.owner ≠ .track k → exec c s = .next dropped)) ∧
      (∀ snap, e.kind = 1 → mine → instrumentOf s v.selected = some snap →
        let lfsr := if snap.mode = .noiseLong then 32767 else if snap.mode = .noiseShort then 127 else v.lfsr
        let note := { v with snapshot := snap, noteInstrument := v.selected, increment := e.value.toNat,
                             volume := min e.extra.toNat 15, acc := 0, position := 0, fraction := 0, fetch := 0,
                             buffer := [], primed := false, last := 0, hold := none, lfsr := lfsr,
                             env := if snap.attack = 0 then 127 else 0,
                             phase := if snap.attack = 0 then .decay else .attack }
        ∃ t, exec (.noteEvent k) s = .next t ∧ { t with port := s.port } = put note ∧ ungranted t) ∧
      (e.kind = 1 → mine → instrumentOf s v.selected = none →
        exec (.noteEvent k) s = .next { dropped with cause := (setFault .badEvent s).cause }) ∧
      (e.kind = 2 → mine →
        (sounds → v.snapshot.release ≠ 0 → exec (.offEvent k) s = .next (put { v with phase := .release })) ∧
        (sounds → v.snapshot.release = 0 →
          ∃ t, exec (.offEvent k) s = .next t ∧ ungranted t ∧ { t with port := s.port } =
            put { v with phase := .idle, env := 0, buffer := [], hold := none, owner := ownerOfHome v.home }) ∧
        (v.phase = .release ∨ v.phase = .idle ∧ (∀ g ∈ s.port.grant, g.holder ≠ .voice n) →
          exec (.offEvent k) s = .next dropped)) ∧
      (e.kind = 3 → mine → exec (.instrEvent k) s = .next (put { v with selected := e.value.toNat % 16 })) ∧
      (e.kind = 4 → mine → exec (.volEvent k) s = .next (put { v with volume := min e.extra.toNat 15 })) ∧
      (e.kind = 5 → mine → exec (.pitchEvent k) s = .next (put { v with increment := e.value.toNat })) ∧
      (e.kind = 6 → exec (.tempoEvent k) s = .next { s with tracks := tracksOf { on with period := tempo } }) ∧
      (e.kind = 7 → exec (.loopEvent k) s = .next { s with tracks := tracksOf { on with loopMark := some mark } }) ∧
      (e.kind = 8 → r.loopMark = none → exec (.backEvent k) s = .next dropped) ∧
      (∀ m, e.kind = 8 → r.loopMark = some m → m.forever = false → m.remaining = 0 →
        exec (.backEvent k) s = .next { s with tracks := tracksOf { on with loopMark := none } }) ∧
      (e.kind = 9 → ∃ t, exec (.markerEvent k) s = .next t ∧ t.tracks = tracksOf { on with marker := e.extra } ∧
        (Cause.marker k).raised t = (enabled .marker s || (Cause.marker k).raised s) ∧
        (∀ d : Cause, d ≠ .marker k → d.raised t = d.raised s) ∧
        { t.cause with latches := s.cause.latches } = s.cause ∧
        { t with tracks := s.tracks, cause := s.cause } = s))

/-! ## Frame capture -/

/-- FRM_STROBE, FRAME_LOST, SYNTHETIC_FRAME and FRAME MODE (R130 to R133): what frame capture itself becomes, and the
frames given to the FRAME tracks (R124): at each strobe that is not too early, at a loss under COAST, at each synthetic
frame. A frame capture count advances the counter and the silence or synthetic count, and is FRAME_LOST or SYNTHETIC_FRAME
where that count reaches its end. That the counts left to a deadline count as come in those rows is the model's (log 8), and
so is that a strobe that ends LOST keeps the synthetic count, which R130 says is set aside (log 20). -/
def Obligations.FrameCaptureFollowsStrobes : Prop :=
  ∀ (mode : Byte) (rest : List Byte) (s : State),
    let f := s.frame
    let captured := { f with last := some f.counter, silence := 0, state := .present }
    let others := fun t : State =>
      { t with frame := s.frame, tracks := s.tracks, voices := s.voices, port := s.port, cause := s.cause } = s
    let deadline := match f.period with
      | some p => 2 * p
      | none => 546
    let synthPeriod := f.period.getD 273
    let count := Tick.capture.act s
    let withFrame := fun g : FrameCapture => { s with frame := g }
    (answered s = true → f.state = .waitingFirst ∨ f.state = .lost →
      ∃ t, exec .frmStrobe s = .next t ∧ t.frame = captured ∧ SourceCounts .frame s t ∧ others t) ∧
    (∀ c, answered s = true → f.state = .present → f.last = some c →
      let d := (f.counter - c).toNat
      (d < 137 → exec .frmStrobe s = .next s) ∧
      (137 ≤ d → ∃ t, exec .frmStrobe s = .next t ∧ SourceCounts .frame s t ∧ others t ∧
        t.frame = { captured with period := if d ≤ 1638 then some d else f.period })) ∧
    (answered s = true → s.crystal.running = true → f.state ≠ .lost →
      ∃ t, exec .frameLost s = .next t ∧ t.frame.state = .lost ∧ t.frame.silence = deadline ∧
        t.frame.last = f.last ∧ t.frame.period = f.period ∧ t.frame.mode = f.mode ∧
        (enabled .frame s = true → t.cause.latches.frameLost = true) ∧
        (enabled .frame s = false → t.cause.latches.frameLost = s.cause.latches.frameLost) ∧
        t.frame.synth = (if f.mode = .coast then 0 else f.synth) ∧ others t ∧
        (f.mode = .coast → SourceCounts .frame s t) ∧
        (f.mode = .hold → t.tracks = s.tracks ∧ t.voices = s.voices ∧ t.port = s.port)) ∧
    (answered s = true → s.crystal.running = true → f.state = .lost → f.mode = .coast →
      ∃ t, exec .syntheticFrame s = .next t ∧ t.frame.state = .lost ∧ t.frame.synth = 0 ∧ t.frame.last = f.last ∧
        t.frame.period = f.period ∧ SourceCounts .frame s t ∧ others t) ∧
    (answered s = true →
      (f.state ≠ .lost →
        (f.silence + 1 < deadline →
          count = withFrame { f with counter := f.counter + 1, silence := f.silence + 1 }) ∧
        (f.silence + 1 = deadline → s.crystal.running = true → exec .frameLost s = .next count)) ∧
      (f.state = .lost → f.mode = .coast →
        (f.synth + 1 < synthPeriod → count = withFrame { f with counter := f.counter + 1, synth := f.synth + 1 }) ∧
        (f.synth + 1 = synthPeriod → s.crystal.running = true → exec .syntheticFrame s = .next count)) ∧
      (f.state = .lost → f.mode = .hold → count = withFrame { f with counter := f.counter + 1 })) ∧
    (answered s = false → count = withFrame { f with counter := f.counter + 1 }) ∧
    (Ready (.frameMode mode) rest s →
      (1 < mode.toNat → Refuses (.frameMode mode) rest s .badArg) ∧
      (mode.toNat ≤ 1 →
        let m : FrameMode := if mode = 0 then .coast else .hold
        let p := f.period.getD 0
        let c := (f.last.map BitVec.toNat).getD 0
        let synth := if f.state = .lost ∧ f.mode = .hold ∧ mode = 0 then 0 else f.synth
        Answers (.frameMode mode) rest s .ok
          [byteOf f.state.code, mode, if f.period.isSome then 1 else 0, byteOf p, byteOf (p / 256),
           if f.last.isSome then 1 else 0, byteOf c, byteOf (c / 256)]
          { s with frame := { f with mode := m, synth := synth } }))

/-! ## Rumble -/

/-- PATTERN LOAD, RUMBLE PLAY, RUMBLE STOP and RUMBLE RENEW (R136 to R141): the refusals in order, and what the command
does where it is taken. A request that starts, by PLAY or from the head of the queue, starts under the kick rule (R145): on
a stopped motor in RUN, with HOT clear and a drive step, it is given a free grant or waits behind its holder, and otherwise
there is no kick. A preempted or stopped request's kick ends first (R139): one that waits withdraws its request, one in
progress releases the grant, which a COMMIT or an ERASE that waits is given (R161, R56, R57). -/
def Obligations.RumbleCommandsAct : Prop :=
  ∀ (b x y : Byte) (steps : List (Byte × Byte)) (i : Fin 16) (rest : List Byte) (s : State),
    let load := Instr.patternLoad b x steps
    let play := Instr.rumblePlay b x y
    let badStep := fun st : Byte × Byte => st.2 = 0 ∨ (15 < st.1.toNat ∧ st.1 ≠ 0xFF)
    let stepOfBytes := fun st : Byte × Byte => Step.mk (if st.1 = 0xFF then .brake else .drive st.1.toNat) st.2.toNat
    let loaded : Pattern := ⟨if x = 0 then .once else .loop, steps.map stepOfBytes⟩
    let request : Request := ⟨i, x.toNat, y.toNat, .console⟩
    let played := fun q : Request => s.rumble.patterns[q.pattern].steps
    let begun := fun q : Request =>
      Active.mk q 0 (((played q).head?.map fun st => st.duration).getD 0) q.allowance .none
    let kicks := fun q : Request =>
      8 ≤ s.rumble.zeroRun ∧ s.supply.monitor = .run ∧ s.profile.motor = true ∧ hasFault .stall s = false ∧
        s.rumble.hot = false ∧ ∃ l, (played q).head?.map (fun st => st.level) = some (.drive (l + 1))
    let starts := fun (q : Request) (x : Rumble) (u : Supply) (t : State) =>
      (¬kicks q → t.rumble = { x with active := some (begun q) } ∧ t.supply = u) ∧
      (kicks q → u.holder = .none →
        t.rumble = { x with active := some { begun q with kick := .kicking 3 } } ∧
        t.supply = { u with holder := .kicker, kickerReq := false }) ∧
      (kicks q → u.holder ≠ .none →
        t.rumble = { x with active := some { begun q with kick := .waiting } } ∧ t.supply = { u with kickerReq := true })
    let kicking := fun a : Active => (∃ n, a.kick = .kicking n) ∧ s.supply.holder = .kicker ∧ s.supply.kickerReq = false
    let leaves := fun (a : Active) (u : Supply) =>
      (a.kick = .none ∧ u = s.supply) ∨ (a.kick = .waiting ∧ u = { s.supply with kickerReq := false }) ∨
      (kicking a ∧ s.supply.engineReq = false ∧ u = { s.supply with holder := .none })
    let hands := fun (a : Active) (f : Flight) =>
      kicking a ∧ s.supply.engineReq = true ∧ s.engine.flight = some f ∧ (f.kind = .commit ∨ f.kind = .erase)
    let handed := fun f : Flight =>
      { s.supply with holder := if f.kind = .erase then .engine else .none, engineReq := false }
    let worked := fun (f : Flight) (t : State) =>
      (f.kind = .erase → t.engine = { s.engine with flight := some { f with stage := .fill } } ∧ t.dir = s.dir) ∧
      (f.kind = .commit → t.engine = { s.engine with flight := none } ∧ t.dir.slots[f.slot].state = .valid ∧
        t.dir.slots[f.slot].current = s.dir.slots[f.slot].working ∧
        t.dir.slots[f.slot].stored = s.dir.slots[f.slot].workCheck ∧
        ∀ m : SlotNo, m ≠ f.slot → t.dir.slots[m] = s.dir.slots[m])
    let ends := { s.rumble with lastEnd := .stopped }
    let latched := fun t : State => t.cause.latches.rumbleEnd = (s.cause.latches.rumbleEnd || enabled .rumble s)
    (Ready load rest s → steps.length ≤ 15 →
      (15 < b.toNat ∨ 1 < x.toNat ∨ steps = [] ∨ (∃ st ∈ steps, badStep st) → Refuses load rest s .badArg) ∧
      (b.toNat = i.val → x.toNat ≤ 1 → steps ≠ [] → (∀ st ∈ steps, ¬badStep st) →
        ((∃ a, s.rumble.active = some a ∧ a.request.pattern = i) → Refuses load rest s .busy) ∧
        ((∀ a, s.rumble.active = some a → a.request.pattern ≠ i) →
          Answers load rest s .ok []
            { s with rumble := { s.rumble with patterns := s.rumble.patterns.set i.val loaded i.isLt } }))) ∧
    (Ready play rest s →
      (15 < b.toNat ∨ 3 < x.toNat ∨ y = 0 → Refuses play rest s .badArg) ∧
      (b.toNat = i.val → x.toNat ≤ 3 → y ≠ 0 →
        (s.profile.motor = false → Refuses play rest s .noMotor) ∧
        (s.profile.motor = true → hasFault .stall s = true → Refuses play rest s .stalled) ∧
        (s.profile.motor = true → hasFault .stall s = false → s.rumble.patterns[i].steps = [] →
          Refuses play rest s .badArg) ∧
        (s.profile.motor = true → hasFault .stall s = false → s.rumble.patterns[i].steps ≠ [] →
          (∀ a, s.rumble.active = some a → x.toNat ≤ a.request.priority → 4 ≤ s.rumble.queue.length →
            Refuses play rest s .queueFull) ∧
          (∀ a, s.rumble.active = some a → x.toNat ≤ a.request.priority → s.rumble.queue.length < 4 →
            ∃ before after, s.rumble.queue = before ++ after ∧ (∀ q ∈ before, x.toNat ≤ q.priority) ∧
              (∀ q ∈ after.head?, q.priority < x.toNat) ∧
              Answers play rest s .queued []
                { s with rumble := { s.rumble with queue := before ++ request :: after } }) ∧
          (s.rumble.active = none →
            ∃ t, Answers play rest s .ok [] t ∧ starts request s.rumble s.supply t ∧
              { t with rumble := s.rumble, supply := s.supply } = s) ∧
          (∀ a, s.rumble.active = some a → a.request.priority < x.toNat →
            (∀ u, leaves a u →
              ∃ t, Answers play rest s .ok [] t ∧ starts request { s.rumble with lastEnd := .preempted } u t ∧
                { t with rumble := s.rumble, supply := s.supply } = s) ∧
            (∀ f, hands a f →
              ∃ t, Answers play rest s .ok [] t ∧ worked f t ∧
                starts request { s.rumble with lastEnd := .preempted } (handed f) t ∧
                { t with rumble := s.rumble, supply := s.supply, dir := s.dir, engine := s.engine } = s))))) ∧
    (Ready (.rumbleStop b) rest s →
      (1 < b.toNat → Refuses (.rumbleStop b) rest s .badArg) ∧
      (b.toNat ≤ 1 → s.rumble.active = none → Answers (.rumbleStop b) rest s .ok [] s) ∧
      (∀ a, b.toNat ≤ 1 → s.rumble.active = some a → b = 1 ∨ s.rumble.queue = [] →
        let empty := { ends with active := none, queue := [] }
        (∀ u, leaves a u →
          ∃ t, Answers (.rumbleStop b) rest s .ok [] t ∧ t.rumble = empty ∧ t.supply = u ∧ latched t ∧
            { t with rumble := s.rumble, cause := s.cause, supply := s.supply } = s) ∧
        (∀ f, hands a f →
          ∃ t, Answers (.rumbleStop b) rest s .ok [] t ∧ worked f t ∧ t.rumble = empty ∧ t.supply = handed f ∧ latched t ∧
            { t with rumble := s.rumble, cause := s.cause, supply := s.supply, dir := s.dir, engine := s.engine } = s)) ∧
      (∀ a q queue, b = 0 → s.rumble.active = some a → s.rumble.queue = q :: queue →
        (∀ u, leaves a u →
          ∃ t, Answers (.rumbleStop b) rest s .ok [] t ∧ starts q { ends with queue := queue } u t ∧ latched t ∧
            { t with rumble := s.rumble, cause := s.cause, supply := s.supply } = s) ∧
        (∀ f, hands a f →
          ∃ t, Answers (.rumbleStop b) rest s .ok [] t ∧ worked f t ∧ starts q { ends with queue := queue } (handed f) t ∧
            latched t ∧
            { t with rumble := s.rumble, cause := s.cause, supply := s.supply, dir := s.dir, engine := s.engine } = s))) ∧
    (Ready (.rumbleRenew b) rest s →
      (b = 0 → Refuses (.rumbleRenew b) rest s .badArg) ∧
      (b ≠ 0 → s.rumble.active = none → Refuses (.rumbleRenew b) rest s .wrongState) ∧
      (∀ a, b ≠ 0 → s.rumble.active = some a → s.rumble.patterns[a.request.pattern].rep = .once →
        Refuses (.rumbleRenew b) rest s .wrongState) ∧
      (∀ a, b ≠ 0 → s.rumble.active = some a → s.rumble.patterns[a.request.pattern].rep = .loop →
        Answers (.rumbleRenew b) rest s .ok []
          { s with rumble := { s.rumble with active := some { a with allowanceLeft := b.toNat } } }))

/-- The rumble tick and the moments within it (R142, R145 to R147, R149): heat, HOT and the zero run; the step and a LOOP
request's allowance count, the step advances or a LOOP pattern returns to step 0, the request ends and the head of the queue
starts, a waiting kick freezes the step, a kick counts, ends and releases the grant; then the kick rule is applied to the
step that stands. The rows ALLOWANCE_EXPIRY, STEP_EXPIRY and KICK_END are the tick at which their count reaches 0 (the
model's, log 9). How the first tick after a WARN spell of 8 ticks sees a stopped motor is the model's (log 30). -/
def Obligations.RumbleTickAdvances : Prop :=
  ∀ s : State, powered s = true → s.crystal.running = true →
    let r := s.rumble
    let run := s.supply.monitor = .run
    let level := effectiveLevel s
    let heat := min 65535 (r.heat - r.heat / 256 + 15 * level)
    let hot := if 49152 ≤ heat then true else if heat ≤ 32768 then false else r.hot
    let zeroes := if level = 0 then min 8 (r.zeroRun + 1) else 0
    let warmed := { r with heat := heat, hot := hot, zeroRun := zeroes,
                           warnTicks := if s.supply.monitor = .run then 0 else min 8 (r.warnTicks + 1) }
    let repeats := fun q : Request => r.patterns[q.pattern].rep
    let steps := fun q : Request => r.patterns[q.pattern].steps
    let onStep := fun (a : Active) (i : Nat) (st : Machine.Step) => { a with stepIndex := i, stepRemaining := st.duration }
    let down := fun a : Active => { a with stepRemaining := a.stepRemaining - 1 }
    let counted := fun a : Active =>
      { a with allowanceLeft := if repeats a.request = .loop then a.allowanceLeft - 1 else a.allowanceLeft }
    let lasts := fun a : Active => repeats a.request = .once ∨ 1 < a.allowanceLeft
    let begun := fun q : Request =>
      Active.mk q 0 (((steps q).head?.map fun st => st.duration).getD 0) q.allowance .none
    let stopped := zeroes = 8 ∨ run ∧ 8 ≤ r.warnTicks
    let driven := fun a : Active => ∃ st l, (steps a.request)[a.stepIndex]? = some st ∧ st.level = .drive (l + 1)
    let kicks := fun a : Active =>
      stopped ∧ run ∧ s.profile.motor = true ∧ hasFault .stall s = false ∧ hot = false ∧ driven a
    let others := fun t : State =>
      { t with rumble := s.rumble, voices := s.voices, port := s.port, cause := s.cause, supply := s.supply,
               dir := s.dir, engine := s.engine } = s
    let latched := fun t : State => t.cause.latches.rumbleEnd = (s.cause.latches.rumbleEnd || enabled .rumble s)
    let stands := fun (c : Instr) (u : Supply) (x : Rumble) (a : Active) =>
      ∃ t, exec c s = .next t ∧ others t ∧ t.supply = u ∧ t.rumble = { x with active := some a }
    let lands := fun (c : Instr) (x : Rumble) (a : Active) =>
      (¬kicks a → stands c s.supply x a) ∧
      (kicks a → s.supply.holder = .none →
        stands c { s.supply with holder := .kicker, kickerReq := false } x { a with kick := .kicking 3 }) ∧
      (kicks a → s.supply.holder ≠ .none → stands c { s.supply with kickerReq := true } x { a with kick := .waiting })
    let gone := fun (c : Instr) (why : EndReason) =>
      ∃ t, exec c s = .next t ∧ t.rumble = { warmed with active := none, lastEnd := why } ∧ latched t ∧
        t.supply = s.supply ∧ others t
    let free := { s.supply with holder := .none }
    let released := s.supply.holder = .kicker ∧ s.supply.engineReq = false ∧ s.supply.kickerReq = false
    (∃ t, exec .rumbleTick s = .next t ∧ t.rumble.heat = heat ∧ t.rumble.hot = hot ∧ t.rumble.zeroRun = zeroes ∧
      t.rumble.warnTicks = warmed.warnTicks ∧ (r.active = none → r.queue = [] → t.rumble = warmed) ∧ others t) ∧
    (∀ a, r.active = some a → a.kick = .none →
      (lasts a → 1 < a.stepRemaining → lands .rumbleTick warmed (down (counted a))) ∧
      (∀ st, lasts a → a.stepRemaining = 1 → (steps a.request)[a.stepIndex + 1]? = some st →
        lands .stepExpiry warmed (onStep (counted a) (a.stepIndex + 1) st)) ∧
      (∀ st, lasts a → repeats a.request = .loop → a.stepRemaining = 1 →
        a.stepIndex + 1 = (steps a.request).length → (steps a.request)[0]? = some st →
        lands .stepExpiry warmed (onStep (counted a) 0 st)) ∧
      (repeats a.request = .loop → a.allowanceLeft = 1 →
        (r.queue = [] → gone .allowanceExpiry .allowance) ∧
        (∀ q queue, r.queue = q :: queue → (∃ t, exec .allowanceExpiry s = .next t ∧ latched t) ∧
          lands .allowanceExpiry { warmed with queue := queue, lastEnd := .allowance } (begun q))) ∧
      (repeats a.request = .once → a.stepRemaining = 1 → a.stepIndex + 1 = (steps a.request).length →
        (r.queue = [] → gone .stepExpiry .finished) ∧
        (∀ q queue, r.queue = q :: queue → (∃ t, exec .stepExpiry s = .next t ∧ latched t) ∧
          lands .stepExpiry { warmed with queue := queue, lastEnd := .finished } (begun q)))) ∧
    (∀ a, r.active = some a → a.kick = .waiting → lasts a → (hot = true → r.hot = true) →
      stands .rumbleTick s.supply warmed (counted a)) ∧
    (∀ a n, r.active = some a → a.kick = .kicking (n + 2) → lasts a → hot = false →
      (1 < a.stepRemaining →
        stands .rumbleTick s.supply warmed { down (counted a) with kick := .kicking (n + 1) }) ∧
      (∀ st, a.stepRemaining = 1 → (steps a.request)[a.stepIndex + 1]? = some st →
        (∀ l, st.level = .drive (l + 1) → stands .stepExpiry s.supply warmed
          { onStep (counted a) (a.stepIndex + 1) st with kick := .kicking (n + 1) }) ∧
        (st.level = .brake ∨ st.level = .drive 0 → released →
          stands .stepExpiry free warmed { onStep (counted a) (a.stepIndex + 1) st with kick := .none }))) ∧
    (∀ a n, r.active = some a → a.kick = .kicking n → lasts a → hot = true → r.hot = false → 1 < a.stepRemaining →
      released → stands .rumbleTick free warmed { down (counted a) with kick := .none }) ∧
    (∀ a, r.active = some a → a.kick = .kicking 1 → lasts a → 1 < a.stepRemaining → hot = false → 0 < level →
      ¬(run ∧ 8 ≤ r.warnTicks) → released →
      stands .kickEnd free warmed { down (counted a) with kick := .none })

/-- The level the motor sees and the bridge (R143): off at 0 outside RUN, without a motor, under STALL, without a request or
while the kick waits; driven at 16 in a kick, braked by a BRAKE step, otherwise driven at the step's level, at most 6 while
HOT. Its PWM slots (R144): a slot takes a new level or bridge state only at the start of a period. A latched stall empties
the drive (R148). The stall timer's end is a row (log 7), and the pins hold the running PWM period's level until its end by
the model's reading (log 23). -/
def Obligations.MotorLevelSlotsAndStall : Prop :=
  ∀ (asserted : Bool) (s : State),
    let k := (s.rumble.pwmSlot + 1) % 16
    let d := if k = 0 then motorDrive s else (s.rumble.pwmLevel, s.rumble.pwmBridge)
    (s.supply.monitor ≠ .run ∨ hasFault .stall s = true ∨ s.profile.motor = false ∨ s.rumble.active = none →
      motorDrive s = (0, .off)) ∧
    effectiveLevel s = (motorDrive s).1 ∧
    (∀ a, s.supply.monitor = .run → hasFault .stall s = false → s.profile.motor = true → s.rumble.active = some a →
      (a.kick = .waiting → motorDrive s = (0, .off)) ∧
      (∀ n, a.kick = .kicking n → motorDrive s = (16, .drive)) ∧
      (∀ st, a.kick = .none → s.rumble.patterns[a.request.pattern].steps[a.stepIndex]? = some st →
        (st.level = .brake → motorDrive s = (0, .brake)) ∧
        (∀ n, st.level = .drive n → motorDrive s = (if s.rumble.hot then min n 6 else n, .drive)))) ∧
    (∀ a, s.rumble.active = some a → (∀ n, a.kick ≠ .kicking n) →
      (∀ st, s.rumble.patterns[a.request.pattern].steps[a.stepIndex]? = some st →
        (∀ n, st.level = .drive n → effectiveLevel s ≤ n) ∧ (st.level = .brake → effectiveLevel s = 0)) ∧
      (s.rumble.hot = true → effectiveLevel s ≤ 6)) ∧
    (powered s = true → s.crystal.running = true →
      ∃ t, exec .motorPwmSlot s = .next t ∧ t.rumble.pwmSlot = k ∧ t.rumble.pwmLevel = d.1 ∧ t.rumble.pwmBridge = d.2 ∧
        (d.2 = .drive → t.rumble.ma = some (decide (k < d.1)) ∧ t.rumble.mb = some false) ∧
        (d.2 = .brake → t.rumble.ma = some true ∧ t.rumble.mb = some true) ∧
        (d.2 = .off → t.rumble.ma = some false ∧ t.rumble.mb = some false) ∧
        { t with rumble := s.rumble } = s ∧
        { t.rumble with pwmSlot := s.rumble.pwmSlot, pwmLevel := s.rumble.pwmLevel, pwmBridge := s.rumble.pwmBridge,
                        ma := s.rumble.ma, mb := s.rumble.mb } = s.rumble) ∧
    exec (.stallInput asserted) s =
      .next { s with rumble := { s.rumble with stallInput := asserted, stallTimer := 0 } } ∧
    (powered s = true → s.rumble.stallInput = true → 0 < effectiveLevel s →
      ∃ t, exec .stallLatch s = .next t ∧ hasFault .stall t = true ∧
        t.rumble = { s.rumble with active := none, queue := [], stallTimer := 0, lastEnd := .stall } ∧
        t.cause.latches.rumbleEnd = (s.cause.latches.rumbleEnd || enabled .rumble s) ∧ motorDrive t = (0, .off) ∧
        { t with rumble := s.rumble, cause := s.cause, supply := s.supply, dir := s.dir, engine := s.engine } = s)

/-! ## Supply watch and resets -/

/-- The battery domain and the start delay (R158, R155): BATTERY ATTACH gives every battery-kept field its value (R43,
R82, R95) and leaves the rest; VCON rising enters STARTING with the timer at 0, an abort goes back to BATTERY. In a lost
domain the cell counts as VBAT at 0 V, below VL (R159, log 27). What else a lost domain holds until BATTERY ATTACH is the
model's (log 15), and so is that VCON_RISE in an invalid domain makes the BATTERY ATTACH in the same row (log 19). -/
def Obligations.BatteryAttachAndStartDelay : Prop :=
  ∀ s : State,
    let attached := { s with
      dir := { s.dir with
        slots := Vector.replicate 8 ⟨.empty, none, none, 0, none, none, none, false, false, .none, false⟩,
        protect := ⟨0, .low, false⟩ },
      cal := ⟨0, 0, 0, 0, 0, 0, false, true, none, none⟩,
      cues := Vector.replicate 8 ⟨.off, false, false, none, none, 0, false, false⟩,
      supply := { s.supply with monitor := .battery, startTimer := 0, batlowFilter := 0, batlowSense := false,
                                attachMark := true, domainValid := true } }
    (s.supply.domainValid = false → exec .batteryAttach s = .next attached) ∧
    (s.supply.domainValid = true → exec .batteryAttach s = .next s) ∧
    (s.supply.monitor = .battery → s.supply.domainValid = true →
      exec .vconRise s = .next { s with supply := { s.supply with monitor := .starting, startTimer := 0 } }) ∧
    (s.supply.monitor = .battery → s.supply.domainValid = false →
      exec .vconRise s =
        .next { attached with supply := { attached.supply with monitor := .starting, startTimer := 0 } }) ∧
    (s.supply.monitor = .starting →
      exec .startingAbort s = .next { s with supply := { s.supply with monitor := .battery, startTimer := 0 } }) ∧
    (s.supply.monitor = .battery →
      ∃ t, exec .batteryDomainInvalid s = .next t ∧ t.supply.domainValid = false ∧ t.supply.monitor = .battery ∧
        t.supply.vbatLow = true ∧ t.supply.batlowSense = false ∧
        { t with supply := s.supply, dir := s.dir, cal := s.cal, cues := s.cues, sram := s.sram } = s)

/-- CONSOLE POWER-UP with /CRST released (R155, R168, R61, R80, R72 and each chapter's values): the profile from the
straps, the map loaded, recovery by the state each slot holds, the pool rebuilt, the sweep at 0, every console-powered
block at its values, the power-up stamp, and DOUBT and BATLOW when the sense is true. With /CRST asserted a RESET LINE
follows at once (R160). -/
def Obligations.ConsolePowerUpBringsTheConsoleUp : Prop :=
  ∀ (straps : Straps) (s : State), s.supply.monitor = .starting →
    let high := fun i => straps.getLsbD i
    let code := (if high 0 then 1 else 0) + (if high 1 then 2 else 0) + (if high 2 then 4 else 0)
    let odd := (high 0 ^^ high 1 ^^ high 2 ^^ high 3 ^^ high 4 ^^ high 5) = true
    let kind : ResetKind := if s.supply.attachMark then .batteryAttach else .consolePowerUp
    let fallback := ¬(odd ∧ code ≠ 7)
    (s.supply.crst = false → ∃ t, exec (.consolePowerUp straps) s = .next t ∧
      (¬fallback → t.profile = ⟨code, if high 3 then 16 else 8, high 4, false, straps, kind⟩) ∧
      (fallback → t.profile = ⟨0, 8, false, true, straps, kind⟩) ∧
      (∀ i : Fin 16, t.map[i] = ⟨.rom, i.val % (4 * 2 ^ t.profile.romCode), false⟩) ∧
      (∀ n : SlotNo,
        let r := s.dir.slots[n]
        let kept := { r with lastResult := .none, done := false }
        (r.state = .empty ∨ r.state = .valid → t.dir.slots[n] = kept) ∧
        (r.state = .opening ∨ r.state = .opened ∨ r.state = .committing →
          t.dir.slots[n] = { r with state := if r.current.isSome then .valid else .empty, working := none,
                                    workCheck := none, lastResult := .reverted, done := true }) ∧
        (r.state = .erasing → t.dir.slots[n] =
          { kept with state := .empty, current := none, stored := none, stamp := none, damaged := false })) ∧
      (∀ b, b ∈ t.dir.pool ↔ b < t.profile.blocks ∧ ∀ n : SlotNo,
        t.dir.slots[n].current ≠ some b ∧ t.dir.slots[n].working ≠ some b) ∧
      t.dir.windowOpen = true ∧ t.dir.protect = s.dir.protect ∧ t.engine = ⟨[], none, 0⟩ ∧
      t.supply = { s.supply with monitor := .run, startTimer := 50, attachMark := false, holder := .none,
                                 engineReq := false, kickerReq := false } ∧
      t.cal = { s.cal with up := some ⟨s.cal.day, s.cal.sec⟩, doubt := s.cal.doubt || s.supply.batlowSense } ∧
      t.cues = s.cues ∧ t.sram = s.sram ∧ t.rom = s.rom ∧ t.sound = [] ∧ t.port = ⟨none, #v[[], []]⟩ ∧
      t.crystal = { s.crystal with divider := 0 } ∧ t.voices = Vector.replicate 6 Voice.initial ∧
      t.mixer = ⟨16, some 512⟩ ∧ t.tracks = Vector.replicate 2 Track.initial ∧ t.frame = .initial 0 ∧
      t.rumble = .initial s.rumble.stallInput (some false) ∧ t.cmd = ⟨[], [], false⟩ ∧
      t.cause.enables = 0 ∧ t.cause.latches = ⟨false, false, false, false, false⟩ ∧ t.cause.record = none ∧
      (∀ f : FaultFlag, hasFault f t = true ↔ (f = .strap ∧ fallback) ∨ (f = .batlow ∧ s.supply.batlowSense = true))) ∧
    (s.supply.crst = true → ∃ u, exec (.consolePowerUp straps) { s with supply := { s.supply with crst := false } } = .next u ∧
      exec (.consolePowerUp straps) s = exec .resetLine u)

/-- WARN_ENTRY and WARN_EXIT (R156, R147): rumble is cut, a kick in progress ends and its grant goes to a waiting COMMIT,
which flips (R161, R56); the return changes the monitor state alone. The count of the spell's rumble ticks that starts at 0
is the model's (log 30). -/
def Obligations.WarnCutsTheKick : Prop :=
  ∀ (a : Active) (f : Flight) (s : State),
    (s.supply.monitor = .run → s.rumble.active = none ∨ s.rumble.active = some a ∧ a.kick = .none →
      exec .warnEntry s = .next { s with supply := { s.supply with monitor := .warn },
                                         rumble := { s.rumble with warnTicks := 0 } }) ∧
    (s.supply.monitor = .run → s.rumble.active = some a → a.kick = .waiting →
      exec .warnEntry s = .next { s with supply := { s.supply with monitor := .warn, kickerReq := false },
                                         rumble := { s.rumble with warnTicks := 0, active := some { a with kick := .none } } }) ∧
    (∀ n, s.supply.monitor = .run → s.rumble.active = some a → a.kick = .kicking n → s.supply.holder = .kicker →
      s.supply.engineReq = false →
      exec .warnEntry s = .next { s with supply := { s.supply with monitor := .warn, holder := .none },
                                         rumble := { s.rumble with warnTicks := 0, active := some { a with kick := .none } } }) ∧
    (∀ n, s.supply.monitor = .run → s.rumble.active = some a → a.kick = .kicking n → s.supply.holder = .kicker →
      s.supply.engineReq = true → s.engine.flight = some f → f.kind = .commit →
      ∃ t, exec .warnEntry s = .next t ∧ t.engine = { s.engine with flight := none } ∧
        t.supply = { s.supply with monitor := .warn, holder := .none, engineReq := false } ∧
        t.rumble = { s.rumble with warnTicks := 0, active := some { a with kick := .none } } ∧
        t.dir.slots[f.slot].state = .valid ∧ t.dir.slots[f.slot].current = s.dir.slots[f.slot].working ∧
        t.dir.slots[f.slot].stored = s.dir.slots[f.slot].workCheck) ∧
    (s.supply.monitor = .warn → exec .warnExit s = .next { s with supply := { s.supply with monitor := .run } })

/-- FAIL from WARN (R157, R60, R80): the power-down stamp, the volatile save state lost and the records kept, a flip in
progress completed, the grant and its requests gone, BATTERY; cues, SRAM, ROM and the crystal's edges go on. The values
that the unpowered logic holds are the model's (log 14). -/
def Obligations.FailLeavesTheBatteryDomain : Prop :=
  ∀ s : State, s.supply.monitor = .warn →
    let flips := fun n : SlotNo => ∃ f, s.engine.flight = some f ∧ f.kind = .erase ∧ f.stage = .flip ∧ f.slot = n
    ∃ t, exec .fail s = .next t ∧
      t.supply = { s.supply with monitor := .battery, holder := .none, engineReq := false, kickerReq := false } ∧
      t.cal = { s.cal with down := some ⟨s.cal.day, s.cal.sec⟩ } ∧ t.cues = s.cues ∧ t.sram = s.sram ∧ t.rom = s.rom ∧
      t.crystal.running = s.crystal.running ∧ t.dir.protect = s.dir.protect ∧ t.dir.windowOpen = false ∧
      t.dir.pool = [] ∧ t.engine.queue = [] ∧ t.engine.flight = none ∧
      (∀ n : SlotNo,
        let r := s.dir.slots[n]
        let gone := r.verifyPending && !decide (⟨.verify, n⟩ ∈ standingOps s)
        (¬flips n → t.dir.slots[n] = { r with verifyPending := gone, lastResult := .none, done := false }) ∧
        (flips n → t.dir.slots[n].state = .empty ∧ t.dir.slots[n].current = none ∧ t.dir.slots[n].stored = none ∧
          t.dir.slots[n].stamp = none ∧ t.dir.slots[n].generation = r.generation)) ∧
      t.cmd = ⟨[], [], false⟩ ∧ t.mixer.dac = none ∧ t.rumble.ma = none ∧ t.rumble.mb = none

/-- RESET LINE at the assertion and SOFT RESET (R160, R63, R118, R134, R152, R161, R170, R178): open saves revert but for a
COMMIT in flight, the queue empties, a COMMIT or ERASE in flight goes on in its stage; sound, tracks, frame capture, the
port and the drive take their values, heat and patterns and the counter C stay; a kick in progress releases the grant and a
waiting one withdraws its request; a COMMIT that waited behind a kick flips, an ERASE goes to its FILL. RESET LINE clears
flags and record, SOFT RESET keeps them, reloads the map for the profile in force and replies OK. The pins' level until the
PWM period ends is the model's (log 23). -/
def Obligations.ResetsRevertOpenSaves : Prop :=
  ∀ (f : Flight) (a : Active) (n : Nat) (rest : List Byte) (s : State), answered s = true →
    let commits := fun m : SlotNo => ∃ g, s.engine.flight = some g ∧ g.kind = .commit ∧ g.slot = m
    let goesOn := match s.engine.flight with
      | some g => if g.kind = .commit ∨ g.kind = .erase then some g else none
      | none => none
    let blocks := fun t : State =>
      t.dir.windowOpen = true ∧ t.dir.protect = s.dir.protect ∧
      t.voices = Vector.replicate 6 Voice.initial ∧ t.mixer = ⟨16, some 512⟩ ∧
      t.tracks = Vector.replicate 2 Track.initial ∧ t.frame = .initial s.frame.counter ∧ t.port = ⟨none, #v[[], []]⟩ ∧
      t.rumble = { s.rumble with active := none, queue := [], zeroRun := 8, stallTimer := 0, lastEnd := .none } ∧
      t.cause.enables = 0 ∧ t.cause.latches = ⟨false, false, false, false, false⟩ ∧ t.sram = s.sram ∧
      t.sound = s.sound ∧ t.cal = s.cal ∧ t.cues = s.cues ∧ t.crystal = s.crystal
    let reverts := fun t : State =>
      t.engine = ⟨[], goesOn, 8⟩ ∧
      (∀ m : SlotNo,
        let r := s.dir.slots[m]
        let kept := { r with verifyPending := r.verifyPending && !decide (⟨.verify, m⟩ ∈ standingOps s) }
        (r.state = .opening ∨ r.state = .opened ∨ r.state = .committing → ¬commits m →
          t.dir.slots[m] = { kept with state := if r.current.isSome then .valid else .empty, working := none,
                                       workCheck := none, lastResult := .reverted, done := true }) ∧
        (r.state = .committing → commits m → t.dir.slots[m] = kept) ∧
        (r.state = .empty ∨ r.state = .valid → t.dir.slots[m] = kept) ∧
        (r.state = .erasing → ⟨.erase, m⟩ ∈ s.engine.queue → t.dir.slots[m] = { kept with state := .valid }) ∧
        (r.state = .erasing → ⟨.erase, m⟩ ∉ s.engine.queue → t.dir.slots[m] = kept)) ∧
      (∀ b, b ∈ t.dir.pool ↔ b ∈ s.dir.pool ∨ (b < s.profile.blocks ∧ ∃ m : SlotNo,
        s.dir.slots[m].unsaved = true ∧ ¬commits m ∧ s.dir.slots[m].working = some b))
    let kicksOut := s.rumble.active = some a ∧ a.kick = .kicking n ∧ s.supply.holder = .kicker ∧ s.supply.kickerReq = false
    let supplyIs := fun u : Supply =>
      ((∀ x, s.rumble.active = some x → x.kick = .none) ∧ u = s.supply) ∨
      (s.rumble.active = some a ∧ a.kick = .waiting ∧ u = { s.supply with kickerReq := false }) ∨
      (kicksOut ∧ s.supply.engineReq = false ∧ u = { s.supply with holder := .none })
    (∀ u, supplyIs u →
      (∃ t, exec .resetLine s = .next t ∧ blocks t ∧ reverts t ∧ t.supply = { u with crst := true } ∧ t.map = s.map ∧
        t.profile = { s.profile with lastReset := .resetLine } ∧ t.cmd = ⟨[], [], false⟩ ∧ t.cause.flags = 0 ∧
        t.cause.record = none) ∧
      (Ready .softReset rest s →
        ∃ t, exec .softReset s = .next t ∧ blocks t ∧ reverts t ∧ t.supply = u ∧
          (∀ i : Fin 16, t.map[i] = ⟨.rom, i.val % (4 * 2 ^ s.profile.romCode), false⟩) ∧
          t.profile = { s.profile with lastReset := .softReset } ∧ t.cmd = ⟨[], [0, 0, 0], false⟩ ∧
          t.cause.flags = s.cause.flags ∧ t.cause.record = s.cause.record)) ∧
    (∀ c, c = .resetLine ∨ c = .softReset ∧ Ready .softReset rest s → kicksOut → s.supply.engineReq = true →
      s.engine.flight = some f →
      let r := s.dir.slots[f.slot]
      ∃ t, exec c s = .next t ∧ blocks t ∧ t.supply.engineReq = false ∧ t.supply.kickerReq = false ∧
        (f.kind = .commit → t.engine = ⟨[], none, 8⟩ ∧ t.supply.holder = .none ∧
          let q := t.dir.slots[f.slot]
          q.state = .valid ∧ q.current = r.working ∧ q.working = none ∧ q.stored = r.workCheck ∧ q.workCheck = none ∧
          q.generation = (r.generation + 1) % 65536 ∧ q.stamp = some ⟨s.cal.day, s.cal.sec, s.cal.doubt⟩ ∧
          q.damaged = false ∧ q.lastResult = .done ∧ q.done = true) ∧
        (f.kind = .erase → t.engine = ⟨[], some { f with stage := .fill }, 8⟩ ∧ t.supply.holder = .engine))

/-- CRST_RELEASE and the coin cell sense (R160, R64, R168, R159): the straps are sampled, the map loaded, the pool brought
to the new count, STRAP and BATLOW set; the sense becomes true after 2 ms (a row, log 7) and acts by the monitor state. -/
def Obligations.ReleaseAndCellSense : Prop :=
  ∀ (straps : Straps) (s : State),
    let p := sampledProfile straps s.profile.lastReset
    (powered s = true → s.supply.crst = true →
      ∃ t, exec (.crstRelease straps) s = .next t ∧ t.supply = { s.supply with crst := false } ∧ t.profile = p ∧
        (∀ i : Fin 16, t.map[i] = ⟨.rom, i.val % p.pageCount, false⟩) ∧
        (∀ b, b ∈ t.dir.pool ↔ b < p.blocks ∧ (b ∈ s.dir.pool ∨ ∀ n : SlotNo,
          s.dir.slots[n].current ≠ some b ∧ s.dir.slots[n].working ≠ some b)) ∧
        (∀ f : FaultFlag, hasFault f t = (hasFault f s || (decide (f = .strap) && p.fallback) ||
          (decide (f = .batlow) && s.supply.batlowSense))) ∧
        { t with supply := s.supply, profile := s.profile, map := s.map, dir := s.dir, cause := s.cause } = s ∧
        { t.dir with pool := s.dir.pool } = s.dir) ∧
    exec .vbatLow s = .next { s with supply := { s.supply with vbatLow := true } } ∧
    exec .batlowSenseClear s =
      .next { s with supply := { s.supply with vbatLow := false, batlowFilter := 0, batlowSense := false } } ∧
    (s.supply.domainValid = true → s.supply.vbatLow = true → s.supply.batlowSense = false →
      let sensed := { s with supply := { s.supply with batlowFilter := 2, batlowSense := true } }
      (s.supply.monitor = .battery →
        exec .batlowSenseSet s = .next { sensed with cal := { s.cal with doubt := true } }) ∧
      (s.supply.monitor = .starting → exec .batlowSenseSet s = .next sensed) ∧
      (powered s = true → exec .batlowSenseSet s = .next { sensed with cause := (setFault .batlow s).cause }))
end

