-- ==== Sys2Proof/Laws/Memory.lean ====
section
/-! SUPPORT. The laws of the memories: a read after a write, and that a write keeps the canonical form. -/

namespace Sys2Proof.Laws

open Sys2Proof.Machine Sys2Proof.Safety

theorem readMem_below {u : Byte} {m : Memory} {a : Nat} (h : ∀ c ∈ m, a < c.1) : readMem u m a = u := by
  induction m with
  | nil => rfl
  | cons c m ih =>
    have hc := h c (by simp)
    simp only [readMem]
    rw [if_neg (by omega)]
    exact ih fun d hd => h d (by simp [hd])

/-- A write changes the byte at its address and no other; the memory's addresses rise. -/
theorem readMem_writeMem {u : Byte} {m : Memory} (h : m.Pairwise (fun c d => c.1 < d.1)) (a : Nat) (b : Byte) (x : Nat) :
    readMem u (writeMem u m a b) x = if x = a then b else readMem u m x := by
  induction m with
  | nil =>
    simp only [writeMem]; split <;> simp_all [readMem, eq_comm]
  | cons c m ih =>
    obtain ⟨k, v⟩ := c
    obtain ⟨hk, hm⟩ := List.pairwise_cons.1 h
    have hbelow : ∀ y, y ≤ k → readMem u m y = u := fun y hy => readMem_below fun d hd => by have := hk d hd; omega
    rcases Nat.lt_trichotomy a k with hak | rfl | hak
    · simp only [writeMem, if_pos hak]
      split
      · by_cases hx : x = a
        · subst hx; simp only [readMem, if_true]; rw [if_neg (by omega), hbelow x (by omega)]; simp_all
        · simp [hx]
      · simp only [readMem]
        by_cases hx : x = a
        · simp [hx]
        · rw [if_neg (fun h => hx h.symm), if_neg hx]
    · simp only [writeMem, if_neg (Nat.lt_irrefl a), if_true]
      by_cases hx : x = a
      · subst hx
        split
        · rw [hbelow x (by omega)]; simp_all
        · simp [readMem]
      · have hx' : ¬a = x := fun h => hx h.symm
        split <;> simp [readMem, hx']
    · simp only [writeMem, if_neg (show ¬a < k by omega), if_neg (show ¬a = k by omega), readMem, ih hm]
      by_cases hx : x = a
      · subst hx; simp [show ¬k = x by omega]
      · simp [hx]

theorem mem_writeMem {u : Byte} {m : Memory} {a : Nat} {b : Byte} {c : Host.Cell} (h : c ∈ writeMem u m a b) :
    (c = (a, b) ∧ b ≠ u) ∨ c ∈ m := by
  induction m with
  | nil => simp only [writeMem] at h; split at h <;> simp_all
  | cons d m ih =>
    obtain ⟨k, v⟩ := d
    simp only [writeMem] at h
    repeat' split at h
    all_goals simp only [List.mem_cons] at h ⊢
    · exact Or.inr h
    · rcases h with h | h | h <;> simp_all
    · simp_all
    · rcases h with h | h <;> simp_all
    · rcases h with h | h
      · simp_all
      · rcases ih h with h | h <;> simp_all

/-- A write inside the size keeps the canonical form. -/
theorem writeMem_wf {u : Byte} {size : Nat} {m : Memory} (h : Memory.wf u size m) {a : Nat} (ha : a < size) (b : Byte) :
    Memory.wf u size (writeMem u m a b) := by
  refine ⟨?_, fun c hc => ?_⟩
  · obtain ⟨hp, -⟩ := h
    clear ha
    induction m with
    | nil => simp only [writeMem]; split <;> simp
    | cons d m ih =>
      obtain ⟨k, v⟩ := d
      obtain ⟨hk, hm⟩ := List.pairwise_cons.1 hp
      simp only [writeMem]
      split
      · split
        · exact hp
        · refine List.pairwise_cons.2 ⟨fun c hc => ?_, hp⟩
          rcases List.mem_cons.1 hc with rfl | hc
          · assumption
          · have := hk c hc; simp only at *; omega
      · split
        · split
          · exact hm
          · subst_vars; exact List.pairwise_cons.2 ⟨hk, hm⟩
        · refine List.pairwise_cons.2 ⟨fun c hc => ?_, ih hm⟩
          rcases mem_writeMem hc with ⟨rfl, -⟩ | hc
          · simp only at *; omega
          · exact hk c hc
  · rcases mem_writeMem hc with ⟨rfl, hb⟩ | hc
    · exact ⟨hb, ha⟩
    · exact h.2 c hc

/-- A write of the value an unlisted address reads as is a removal: an empty memory stays empty. -/
theorem writeMem_nil_unlisted (u : Byte) (a : Nat) : writeMem u [] a u = [] := by simp [writeMem]

/-- An empty memory has the canonical form. -/
theorem nil_wf (u : Byte) (size : Nat) : Memory.wf u size [] := by simp [Memory.wf]

/-- The memories of the state after reset have the canonical form. -/
theorem reset_memories : MemoriesCanonical State.reset :=
  ⟨nil_wf _ _, nil_wf _ _, nil_wf _ _⟩

end Sys2Proof.Laws
end

