-- ==== Sys2Proof/Laws/State.lean ====
section
/-! SUPPORT. What each update of the state does to each field of it: one lemma per field per update, so that no proof
needs to unfold an update. -/

namespace Sys2Proof.Laws

open Sys2Proof.Machine Sys2Proof.Safety

/-! ### setSlot -/

@[simp] theorem setSlot_slot (n : SlotNo) (r : SlotRecord) (s : State) : (setSlot n r s).slot = s.slot := rfl
@[simp] theorem setSlot_map (n : SlotNo) (r : SlotRecord) (s : State) : (setSlot n r s).map = s.map := rfl
@[simp] theorem setSlot_profile (n : SlotNo) (r : SlotRecord) (s : State) : (setSlot n r s).profile = s.profile := rfl
@[simp] theorem setSlot_port (n : SlotNo) (r : SlotRecord) (s : State) : (setSlot n r s).port = s.port := rfl
@[simp] theorem setSlot_rom (n : SlotNo) (r : SlotRecord) (s : State) : (setSlot n r s).rom = s.rom := rfl
@[simp] theorem setSlot_sram (n : SlotNo) (r : SlotRecord) (s : State) : (setSlot n r s).sram = s.sram := rfl
@[simp] theorem setSlot_sound (n : SlotNo) (r : SlotRecord) (s : State) : (setSlot n r s).sound = s.sound := rfl
@[simp] theorem setSlot_saveAccess (n : SlotNo) (r : SlotRecord) (s : State) :
    (setSlot n r s).saveAccess = s.saveAccess := rfl
@[simp] theorem setSlot_dir (n : SlotNo) (r : SlotRecord) (s : State) :
    (setSlot n r s).dir = { s.dir with slots := s.dir.slots.set n.val r n.isLt } := rfl
@[simp] theorem setSlot_engine (n : SlotNo) (r : SlotRecord) (s : State) : (setSlot n r s).engine = s.engine := rfl
@[simp] theorem setSlot_cal (n : SlotNo) (r : SlotRecord) (s : State) : (setSlot n r s).cal = s.cal := rfl
@[simp] theorem setSlot_crystal (n : SlotNo) (r : SlotRecord) (s : State) : (setSlot n r s).crystal = s.crystal := rfl
@[simp] theorem setSlot_cues (n : SlotNo) (r : SlotRecord) (s : State) : (setSlot n r s).cues = s.cues := rfl
@[simp] theorem setSlot_voices (n : SlotNo) (r : SlotRecord) (s : State) : (setSlot n r s).voices = s.voices := rfl
@[simp] theorem setSlot_mixer (n : SlotNo) (r : SlotRecord) (s : State) : (setSlot n r s).mixer = s.mixer := rfl
@[simp] theorem setSlot_tracks (n : SlotNo) (r : SlotRecord) (s : State) : (setSlot n r s).tracks = s.tracks := rfl
@[simp] theorem setSlot_frame (n : SlotNo) (r : SlotRecord) (s : State) : (setSlot n r s).frame = s.frame := rfl
@[simp] theorem setSlot_rumble (n : SlotNo) (r : SlotRecord) (s : State) : (setSlot n r s).rumble = s.rumble := rfl
@[simp] theorem setSlot_supply (n : SlotNo) (r : SlotRecord) (s : State) : (setSlot n r s).supply = s.supply := rfl
@[simp] theorem setSlot_cmd (n : SlotNo) (r : SlotRecord) (s : State) : (setSlot n r s).cmd = s.cmd := rfl
@[simp] theorem setSlot_cause (n : SlotNo) (r : SlotRecord) (s : State) : (setSlot n r s).cause = s.cause := rfl
@[simp] theorem setSlot_freeIndex (n : SlotNo) (r : SlotRecord) (s : State) :
    (setSlot n r s).freeIndex = s.freeIndex := rfl
@[simp] theorem setSlot_pending (n : SlotNo) (r : SlotRecord) (s : State) : (setSlot n r s).pending = s.pending := rfl

/-! ### setVoice -/

@[simp] theorem setVoice_slot (n : VoiceNo) (r : Voice) (s : State) : (setVoice n r s).slot = s.slot := rfl
@[simp] theorem setVoice_map (n : VoiceNo) (r : Voice) (s : State) : (setVoice n r s).map = s.map := rfl
@[simp] theorem setVoice_profile (n : VoiceNo) (r : Voice) (s : State) : (setVoice n r s).profile = s.profile := rfl
@[simp] theorem setVoice_port (n : VoiceNo) (r : Voice) (s : State) : (setVoice n r s).port = s.port := rfl
@[simp] theorem setVoice_rom (n : VoiceNo) (r : Voice) (s : State) : (setVoice n r s).rom = s.rom := rfl
@[simp] theorem setVoice_sram (n : VoiceNo) (r : Voice) (s : State) : (setVoice n r s).sram = s.sram := rfl
@[simp] theorem setVoice_sound (n : VoiceNo) (r : Voice) (s : State) : (setVoice n r s).sound = s.sound := rfl
@[simp] theorem setVoice_saveAccess (n : VoiceNo) (r : Voice) (s : State) :
    (setVoice n r s).saveAccess = s.saveAccess := rfl
@[simp] theorem setVoice_dir (n : VoiceNo) (r : Voice) (s : State) : (setVoice n r s).dir = s.dir := rfl
@[simp] theorem setVoice_engine (n : VoiceNo) (r : Voice) (s : State) : (setVoice n r s).engine = s.engine := rfl
@[simp] theorem setVoice_cal (n : VoiceNo) (r : Voice) (s : State) : (setVoice n r s).cal = s.cal := rfl
@[simp] theorem setVoice_crystal (n : VoiceNo) (r : Voice) (s : State) : (setVoice n r s).crystal = s.crystal := rfl
@[simp] theorem setVoice_cues (n : VoiceNo) (r : Voice) (s : State) : (setVoice n r s).cues = s.cues := rfl
@[simp] theorem setVoice_voices (n : VoiceNo) (r : Voice) (s : State) :
    (setVoice n r s).voices = s.voices.set n.val r n.isLt := rfl
@[simp] theorem setVoice_mixer (n : VoiceNo) (r : Voice) (s : State) : (setVoice n r s).mixer = s.mixer := rfl
@[simp] theorem setVoice_tracks (n : VoiceNo) (r : Voice) (s : State) : (setVoice n r s).tracks = s.tracks := rfl
@[simp] theorem setVoice_frame (n : VoiceNo) (r : Voice) (s : State) : (setVoice n r s).frame = s.frame := rfl
@[simp] theorem setVoice_rumble (n : VoiceNo) (r : Voice) (s : State) : (setVoice n r s).rumble = s.rumble := rfl
@[simp] theorem setVoice_supply (n : VoiceNo) (r : Voice) (s : State) : (setVoice n r s).supply = s.supply := rfl
@[simp] theorem setVoice_cmd (n : VoiceNo) (r : Voice) (s : State) : (setVoice n r s).cmd = s.cmd := rfl
@[simp] theorem setVoice_cause (n : VoiceNo) (r : Voice) (s : State) : (setVoice n r s).cause = s.cause := rfl
@[simp] theorem setVoice_freeIndex (n : VoiceNo) (r : Voice) (s : State) :
    (setVoice n r s).freeIndex = s.freeIndex := rfl
@[simp] theorem setVoice_pending (n : VoiceNo) (r : Voice) (s : State) : (setVoice n r s).pending = s.pending := rfl

/-! ### setTrack -/

@[simp] theorem setTrack_slot (n : TrackNo) (r : Track) (s : State) : (setTrack n r s).slot = s.slot := rfl
@[simp] theorem setTrack_map (n : TrackNo) (r : Track) (s : State) : (setTrack n r s).map = s.map := rfl
@[simp] theorem setTrack_profile (n : TrackNo) (r : Track) (s : State) : (setTrack n r s).profile = s.profile := rfl
@[simp] theorem setTrack_port (n : TrackNo) (r : Track) (s : State) : (setTrack n r s).port = s.port := rfl
@[simp] theorem setTrack_rom (n : TrackNo) (r : Track) (s : State) : (setTrack n r s).rom = s.rom := rfl
@[simp] theorem setTrack_sram (n : TrackNo) (r : Track) (s : State) : (setTrack n r s).sram = s.sram := rfl
@[simp] theorem setTrack_sound (n : TrackNo) (r : Track) (s : State) : (setTrack n r s).sound = s.sound := rfl
@[simp] theorem setTrack_saveAccess (n : TrackNo) (r : Track) (s : State) :
    (setTrack n r s).saveAccess = s.saveAccess := rfl
@[simp] theorem setTrack_dir (n : TrackNo) (r : Track) (s : State) : (setTrack n r s).dir = s.dir := rfl
@[simp] theorem setTrack_engine (n : TrackNo) (r : Track) (s : State) : (setTrack n r s).engine = s.engine := rfl
@[simp] theorem setTrack_cal (n : TrackNo) (r : Track) (s : State) : (setTrack n r s).cal = s.cal := rfl
@[simp] theorem setTrack_crystal (n : TrackNo) (r : Track) (s : State) : (setTrack n r s).crystal = s.crystal := rfl
@[simp] theorem setTrack_cues (n : TrackNo) (r : Track) (s : State) : (setTrack n r s).cues = s.cues := rfl
@[simp] theorem setTrack_voices (n : TrackNo) (r : Track) (s : State) : (setTrack n r s).voices = s.voices := rfl
@[simp] theorem setTrack_mixer (n : TrackNo) (r : Track) (s : State) : (setTrack n r s).mixer = s.mixer := rfl
@[simp] theorem setTrack_tracks (n : TrackNo) (r : Track) (s : State) :
    (setTrack n r s).tracks = s.tracks.set n.val r n.isLt := rfl
@[simp] theorem setTrack_frame (n : TrackNo) (r : Track) (s : State) : (setTrack n r s).frame = s.frame := rfl
@[simp] theorem setTrack_rumble (n : TrackNo) (r : Track) (s : State) : (setTrack n r s).rumble = s.rumble := rfl
@[simp] theorem setTrack_supply (n : TrackNo) (r : Track) (s : State) : (setTrack n r s).supply = s.supply := rfl
@[simp] theorem setTrack_cmd (n : TrackNo) (r : Track) (s : State) : (setTrack n r s).cmd = s.cmd := rfl
@[simp] theorem setTrack_cause (n : TrackNo) (r : Track) (s : State) : (setTrack n r s).cause = s.cause := rfl
@[simp] theorem setTrack_freeIndex (n : TrackNo) (r : Track) (s : State) :
    (setTrack n r s).freeIndex = s.freeIndex := rfl
@[simp] theorem setTrack_pending (n : TrackNo) (r : Track) (s : State) : (setTrack n r s).pending = s.pending := rfl

/-! ### setCue -/

@[simp] theorem setCue_slot (n : CueNo) (r : Cue) (s : State) : (setCue n r s).slot = s.slot := rfl
@[simp] theorem setCue_map (n : CueNo) (r : Cue) (s : State) : (setCue n r s).map = s.map := rfl
@[simp] theorem setCue_profile (n : CueNo) (r : Cue) (s : State) : (setCue n r s).profile = s.profile := rfl
@[simp] theorem setCue_port (n : CueNo) (r : Cue) (s : State) : (setCue n r s).port = s.port := rfl
@[simp] theorem setCue_rom (n : CueNo) (r : Cue) (s : State) : (setCue n r s).rom = s.rom := rfl
@[simp] theorem setCue_sram (n : CueNo) (r : Cue) (s : State) : (setCue n r s).sram = s.sram := rfl
@[simp] theorem setCue_sound (n : CueNo) (r : Cue) (s : State) : (setCue n r s).sound = s.sound := rfl
@[simp] theorem setCue_saveAccess (n : CueNo) (r : Cue) (s : State) : (setCue n r s).saveAccess = s.saveAccess := rfl
@[simp] theorem setCue_dir (n : CueNo) (r : Cue) (s : State) : (setCue n r s).dir = s.dir := rfl
@[simp] theorem setCue_engine (n : CueNo) (r : Cue) (s : State) : (setCue n r s).engine = s.engine := rfl
@[simp] theorem setCue_cal (n : CueNo) (r : Cue) (s : State) : (setCue n r s).cal = s.cal := rfl
@[simp] theorem setCue_crystal (n : CueNo) (r : Cue) (s : State) : (setCue n r s).crystal = s.crystal := rfl
@[simp] theorem setCue_cues (n : CueNo) (r : Cue) (s : State) : (setCue n r s).cues = s.cues.set n.val r n.isLt := rfl
@[simp] theorem setCue_voices (n : CueNo) (r : Cue) (s : State) : (setCue n r s).voices = s.voices := rfl
@[simp] theorem setCue_mixer (n : CueNo) (r : Cue) (s : State) : (setCue n r s).mixer = s.mixer := rfl
@[simp] theorem setCue_tracks (n : CueNo) (r : Cue) (s : State) : (setCue n r s).tracks = s.tracks := rfl
@[simp] theorem setCue_frame (n : CueNo) (r : Cue) (s : State) : (setCue n r s).frame = s.frame := rfl
@[simp] theorem setCue_rumble (n : CueNo) (r : Cue) (s : State) : (setCue n r s).rumble = s.rumble := rfl
@[simp] theorem setCue_supply (n : CueNo) (r : Cue) (s : State) : (setCue n r s).supply = s.supply := rfl
@[simp] theorem setCue_cmd (n : CueNo) (r : Cue) (s : State) : (setCue n r s).cmd = s.cmd := rfl
@[simp] theorem setCue_cause (n : CueNo) (r : Cue) (s : State) : (setCue n r s).cause = s.cause := rfl
@[simp] theorem setCue_freeIndex (n : CueNo) (r : Cue) (s : State) : (setCue n r s).freeIndex = s.freeIndex := rfl
@[simp] theorem setCue_pending (n : CueNo) (r : Cue) (s : State) : (setCue n r s).pending = s.pending := rfl

/-! ### reply -/

@[simp] theorem reply_slot (st : ReplyStatus) (p : List Byte) (s : State) : (reply st p s).slot = s.slot := rfl
@[simp] theorem reply_map (st : ReplyStatus) (p : List Byte) (s : State) : (reply st p s).map = s.map := rfl
@[simp] theorem reply_profile (st : ReplyStatus) (p : List Byte) (s : State) : (reply st p s).profile = s.profile := rfl
@[simp] theorem reply_port (st : ReplyStatus) (p : List Byte) (s : State) : (reply st p s).port = s.port := rfl
@[simp] theorem reply_rom (st : ReplyStatus) (p : List Byte) (s : State) : (reply st p s).rom = s.rom := rfl
@[simp] theorem reply_sram (st : ReplyStatus) (p : List Byte) (s : State) : (reply st p s).sram = s.sram := rfl
@[simp] theorem reply_sound (st : ReplyStatus) (p : List Byte) (s : State) : (reply st p s).sound = s.sound := rfl
@[simp] theorem reply_saveAccess (st : ReplyStatus) (p : List Byte) (s : State) :
    (reply st p s).saveAccess = s.saveAccess := rfl
@[simp] theorem reply_dir (st : ReplyStatus) (p : List Byte) (s : State) : (reply st p s).dir = s.dir := rfl
@[simp] theorem reply_engine (st : ReplyStatus) (p : List Byte) (s : State) : (reply st p s).engine = s.engine := rfl
@[simp] theorem reply_cal (st : ReplyStatus) (p : List Byte) (s : State) : (reply st p s).cal = s.cal := rfl
@[simp] theorem reply_crystal (st : ReplyStatus) (p : List Byte) (s : State) : (reply st p s).crystal = s.crystal := rfl
@[simp] theorem reply_cues (st : ReplyStatus) (p : List Byte) (s : State) : (reply st p s).cues = s.cues := rfl
@[simp] theorem reply_voices (st : ReplyStatus) (p : List Byte) (s : State) : (reply st p s).voices = s.voices := rfl
@[simp] theorem reply_mixer (st : ReplyStatus) (p : List Byte) (s : State) : (reply st p s).mixer = s.mixer := rfl
@[simp] theorem reply_tracks (st : ReplyStatus) (p : List Byte) (s : State) : (reply st p s).tracks = s.tracks := rfl
@[simp] theorem reply_frame (st : ReplyStatus) (p : List Byte) (s : State) : (reply st p s).frame = s.frame := rfl
@[simp] theorem reply_rumble (st : ReplyStatus) (p : List Byte) (s : State) : (reply st p s).rumble = s.rumble := rfl
@[simp] theorem reply_supply (st : ReplyStatus) (p : List Byte) (s : State) : (reply st p s).supply = s.supply := rfl
@[simp] theorem reply_cmd (st : ReplyStatus) (p : List Byte) (s : State) :
    (reply st p s).cmd = { s.cmd with reply := s.cmd.reply ++ frame st.code p } := rfl
@[simp] theorem reply_cause (st : ReplyStatus) (p : List Byte) (s : State) : (reply st p s).cause = s.cause := rfl
@[simp] theorem reply_freeIndex (st : ReplyStatus) (p : List Byte) (s : State) :
    (reply st p s).freeIndex = s.freeIndex := rfl
@[simp] theorem reply_pending (st : ReplyStatus) (p : List Byte) (s : State) : (reply st p s).pending = s.pending := rfl

/-! ### answer -/

@[simp] theorem answer_slot (st : ReplyStatus) (s : State) : (answer st s).slot = s.slot := rfl
@[simp] theorem answer_map (st : ReplyStatus) (s : State) : (answer st s).map = s.map := rfl
@[simp] theorem answer_profile (st : ReplyStatus) (s : State) : (answer st s).profile = s.profile := rfl
@[simp] theorem answer_port (st : ReplyStatus) (s : State) : (answer st s).port = s.port := rfl
@[simp] theorem answer_rom (st : ReplyStatus) (s : State) : (answer st s).rom = s.rom := rfl
@[simp] theorem answer_sram (st : ReplyStatus) (s : State) : (answer st s).sram = s.sram := rfl
@[simp] theorem answer_sound (st : ReplyStatus) (s : State) : (answer st s).sound = s.sound := rfl
@[simp] theorem answer_saveAccess (st : ReplyStatus) (s : State) : (answer st s).saveAccess = s.saveAccess := rfl
@[simp] theorem answer_dir (st : ReplyStatus) (s : State) : (answer st s).dir = s.dir := rfl
@[simp] theorem answer_engine (st : ReplyStatus) (s : State) : (answer st s).engine = s.engine := rfl
@[simp] theorem answer_cal (st : ReplyStatus) (s : State) : (answer st s).cal = s.cal := rfl
@[simp] theorem answer_crystal (st : ReplyStatus) (s : State) : (answer st s).crystal = s.crystal := rfl
@[simp] theorem answer_cues (st : ReplyStatus) (s : State) : (answer st s).cues = s.cues := rfl
@[simp] theorem answer_voices (st : ReplyStatus) (s : State) : (answer st s).voices = s.voices := rfl
@[simp] theorem answer_mixer (st : ReplyStatus) (s : State) : (answer st s).mixer = s.mixer := rfl
@[simp] theorem answer_tracks (st : ReplyStatus) (s : State) : (answer st s).tracks = s.tracks := rfl
@[simp] theorem answer_frame (st : ReplyStatus) (s : State) : (answer st s).frame = s.frame := rfl
@[simp] theorem answer_rumble (st : ReplyStatus) (s : State) : (answer st s).rumble = s.rumble := rfl
@[simp] theorem answer_supply (st : ReplyStatus) (s : State) : (answer st s).supply = s.supply := rfl
@[simp] theorem answer_cmd (st : ReplyStatus) (s : State) :
    (answer st s).cmd = { s.cmd with reply := s.cmd.reply ++ frame st.code [] } := rfl
@[simp] theorem answer_cause (st : ReplyStatus) (s : State) : (answer st s).cause = s.cause := rfl
@[simp] theorem answer_freeIndex (st : ReplyStatus) (s : State) : (answer st s).freeIndex = s.freeIndex := rfl
@[simp] theorem answer_pending (st : ReplyStatus) (s : State) : (answer st s).pending = s.pending := rfl

/-! ### setFlight -/

@[simp] theorem setFlight_slot (f : Option Flight) (s : State) : (setFlight f s).slot = s.slot := rfl
@[simp] theorem setFlight_map (f : Option Flight) (s : State) : (setFlight f s).map = s.map := rfl
@[simp] theorem setFlight_profile (f : Option Flight) (s : State) : (setFlight f s).profile = s.profile := rfl
@[simp] theorem setFlight_port (f : Option Flight) (s : State) : (setFlight f s).port = s.port := rfl
@[simp] theorem setFlight_rom (f : Option Flight) (s : State) : (setFlight f s).rom = s.rom := rfl
@[simp] theorem setFlight_sram (f : Option Flight) (s : State) : (setFlight f s).sram = s.sram := rfl
@[simp] theorem setFlight_sound (f : Option Flight) (s : State) : (setFlight f s).sound = s.sound := rfl
@[simp] theorem setFlight_saveAccess (f : Option Flight) (s : State) : (setFlight f s).saveAccess = s.saveAccess := rfl
@[simp] theorem setFlight_dir (f : Option Flight) (s : State) : (setFlight f s).dir = s.dir := rfl
@[simp] theorem setFlight_engine (f : Option Flight) (s : State) :
    (setFlight f s).engine = { s.engine with flight := f } := rfl
@[simp] theorem setFlight_cal (f : Option Flight) (s : State) : (setFlight f s).cal = s.cal := rfl
@[simp] theorem setFlight_crystal (f : Option Flight) (s : State) : (setFlight f s).crystal = s.crystal := rfl
@[simp] theorem setFlight_cues (f : Option Flight) (s : State) : (setFlight f s).cues = s.cues := rfl
@[simp] theorem setFlight_voices (f : Option Flight) (s : State) : (setFlight f s).voices = s.voices := rfl
@[simp] theorem setFlight_mixer (f : Option Flight) (s : State) : (setFlight f s).mixer = s.mixer := rfl
@[simp] theorem setFlight_tracks (f : Option Flight) (s : State) : (setFlight f s).tracks = s.tracks := rfl
@[simp] theorem setFlight_frame (f : Option Flight) (s : State) : (setFlight f s).frame = s.frame := rfl
@[simp] theorem setFlight_rumble (f : Option Flight) (s : State) : (setFlight f s).rumble = s.rumble := rfl
@[simp] theorem setFlight_supply (f : Option Flight) (s : State) : (setFlight f s).supply = s.supply := rfl
@[simp] theorem setFlight_cmd (f : Option Flight) (s : State) : (setFlight f s).cmd = s.cmd := rfl
@[simp] theorem setFlight_cause (f : Option Flight) (s : State) : (setFlight f s).cause = s.cause := rfl
@[simp] theorem setFlight_freeIndex (f : Option Flight) (s : State) : (setFlight f s).freeIndex = s.freeIndex := rfl
@[simp] theorem setFlight_pending (f : Option Flight) (s : State) : (setFlight f s).pending = s.pending := rfl

/-! ### setHolder -/

@[simp] theorem setHolder_slot (h : SurgeHolder) (s : State) : (setHolder h s).slot = s.slot := rfl
@[simp] theorem setHolder_map (h : SurgeHolder) (s : State) : (setHolder h s).map = s.map := rfl
@[simp] theorem setHolder_profile (h : SurgeHolder) (s : State) : (setHolder h s).profile = s.profile := rfl
@[simp] theorem setHolder_port (h : SurgeHolder) (s : State) : (setHolder h s).port = s.port := rfl
@[simp] theorem setHolder_rom (h : SurgeHolder) (s : State) : (setHolder h s).rom = s.rom := rfl
@[simp] theorem setHolder_sram (h : SurgeHolder) (s : State) : (setHolder h s).sram = s.sram := rfl
@[simp] theorem setHolder_sound (h : SurgeHolder) (s : State) : (setHolder h s).sound = s.sound := rfl
@[simp] theorem setHolder_saveAccess (h : SurgeHolder) (s : State) : (setHolder h s).saveAccess = s.saveAccess := rfl
@[simp] theorem setHolder_dir (h : SurgeHolder) (s : State) : (setHolder h s).dir = s.dir := rfl
@[simp] theorem setHolder_engine (h : SurgeHolder) (s : State) : (setHolder h s).engine = s.engine := rfl
@[simp] theorem setHolder_cal (h : SurgeHolder) (s : State) : (setHolder h s).cal = s.cal := rfl
@[simp] theorem setHolder_crystal (h : SurgeHolder) (s : State) : (setHolder h s).crystal = s.crystal := rfl
@[simp] theorem setHolder_cues (h : SurgeHolder) (s : State) : (setHolder h s).cues = s.cues := rfl
@[simp] theorem setHolder_voices (h : SurgeHolder) (s : State) : (setHolder h s).voices = s.voices := rfl
@[simp] theorem setHolder_mixer (h : SurgeHolder) (s : State) : (setHolder h s).mixer = s.mixer := rfl
@[simp] theorem setHolder_tracks (h : SurgeHolder) (s : State) : (setHolder h s).tracks = s.tracks := rfl
@[simp] theorem setHolder_frame (h : SurgeHolder) (s : State) : (setHolder h s).frame = s.frame := rfl
@[simp] theorem setHolder_rumble (h : SurgeHolder) (s : State) : (setHolder h s).rumble = s.rumble := rfl
@[simp] theorem setHolder_supply (h : SurgeHolder) (s : State) :
    (setHolder h s).supply = { s.supply with holder := h } := rfl
@[simp] theorem setHolder_cmd (h : SurgeHolder) (s : State) : (setHolder h s).cmd = s.cmd := rfl
@[simp] theorem setHolder_cause (h : SurgeHolder) (s : State) : (setHolder h s).cause = s.cause := rfl
@[simp] theorem setHolder_freeIndex (h : SurgeHolder) (s : State) : (setHolder h s).freeIndex = s.freeIndex := rfl
@[simp] theorem setHolder_pending (h : SurgeHolder) (s : State) : (setHolder h s).pending = s.pending := rfl

/-! ### setKick -/

@[simp] theorem setKick_slot (k : Kick) (s : State) : (setKick k s).slot = s.slot := rfl
@[simp] theorem setKick_map (k : Kick) (s : State) : (setKick k s).map = s.map := rfl
@[simp] theorem setKick_profile (k : Kick) (s : State) : (setKick k s).profile = s.profile := rfl
@[simp] theorem setKick_port (k : Kick) (s : State) : (setKick k s).port = s.port := rfl
@[simp] theorem setKick_rom (k : Kick) (s : State) : (setKick k s).rom = s.rom := rfl
@[simp] theorem setKick_sram (k : Kick) (s : State) : (setKick k s).sram = s.sram := rfl
@[simp] theorem setKick_sound (k : Kick) (s : State) : (setKick k s).sound = s.sound := rfl
@[simp] theorem setKick_saveAccess (k : Kick) (s : State) : (setKick k s).saveAccess = s.saveAccess := rfl
@[simp] theorem setKick_dir (k : Kick) (s : State) : (setKick k s).dir = s.dir := rfl
@[simp] theorem setKick_engine (k : Kick) (s : State) : (setKick k s).engine = s.engine := rfl
@[simp] theorem setKick_cal (k : Kick) (s : State) : (setKick k s).cal = s.cal := rfl
@[simp] theorem setKick_crystal (k : Kick) (s : State) : (setKick k s).crystal = s.crystal := rfl
@[simp] theorem setKick_cues (k : Kick) (s : State) : (setKick k s).cues = s.cues := rfl
@[simp] theorem setKick_voices (k : Kick) (s : State) : (setKick k s).voices = s.voices := rfl
@[simp] theorem setKick_mixer (k : Kick) (s : State) : (setKick k s).mixer = s.mixer := rfl
@[simp] theorem setKick_tracks (k : Kick) (s : State) : (setKick k s).tracks = s.tracks := rfl
@[simp] theorem setKick_frame (k : Kick) (s : State) : (setKick k s).frame = s.frame := rfl
@[simp] theorem setKick_rumble (k : Kick) (s : State) :
    (setKick k s).rumble = { s.rumble with active := s.rumble.active.map fun a => { a with kick := k } } := rfl
@[simp] theorem setKick_supply (k : Kick) (s : State) : (setKick k s).supply = s.supply := rfl
@[simp] theorem setKick_cmd (k : Kick) (s : State) : (setKick k s).cmd = s.cmd := rfl
@[simp] theorem setKick_cause (k : Kick) (s : State) : (setKick k s).cause = s.cause := rfl
@[simp] theorem setKick_freeIndex (k : Kick) (s : State) : (setKick k s).freeIndex = s.freeIndex := rfl
@[simp] theorem setKick_pending (k : Kick) (s : State) : (setKick k s).pending = s.pending := rfl

/-! ### setActive -/

@[simp] theorem setActive_slot (a : Option Active) (s : State) : (setActive a s).slot = s.slot := rfl
@[simp] theorem setActive_map (a : Option Active) (s : State) : (setActive a s).map = s.map := rfl
@[simp] theorem setActive_profile (a : Option Active) (s : State) : (setActive a s).profile = s.profile := rfl
@[simp] theorem setActive_port (a : Option Active) (s : State) : (setActive a s).port = s.port := rfl
@[simp] theorem setActive_rom (a : Option Active) (s : State) : (setActive a s).rom = s.rom := rfl
@[simp] theorem setActive_sram (a : Option Active) (s : State) : (setActive a s).sram = s.sram := rfl
@[simp] theorem setActive_sound (a : Option Active) (s : State) : (setActive a s).sound = s.sound := rfl
@[simp] theorem setActive_saveAccess (a : Option Active) (s : State) : (setActive a s).saveAccess = s.saveAccess := rfl
@[simp] theorem setActive_dir (a : Option Active) (s : State) : (setActive a s).dir = s.dir := rfl
@[simp] theorem setActive_engine (a : Option Active) (s : State) : (setActive a s).engine = s.engine := rfl
@[simp] theorem setActive_cal (a : Option Active) (s : State) : (setActive a s).cal = s.cal := rfl
@[simp] theorem setActive_crystal (a : Option Active) (s : State) : (setActive a s).crystal = s.crystal := rfl
@[simp] theorem setActive_cues (a : Option Active) (s : State) : (setActive a s).cues = s.cues := rfl
@[simp] theorem setActive_voices (a : Option Active) (s : State) : (setActive a s).voices = s.voices := rfl
@[simp] theorem setActive_mixer (a : Option Active) (s : State) : (setActive a s).mixer = s.mixer := rfl
@[simp] theorem setActive_tracks (a : Option Active) (s : State) : (setActive a s).tracks = s.tracks := rfl
@[simp] theorem setActive_frame (a : Option Active) (s : State) : (setActive a s).frame = s.frame := rfl
@[simp] theorem setActive_rumble (a : Option Active) (s : State) :
    (setActive a s).rumble = { s.rumble with active := a } := rfl
@[simp] theorem setActive_supply (a : Option Active) (s : State) : (setActive a s).supply = s.supply := rfl
@[simp] theorem setActive_cmd (a : Option Active) (s : State) : (setActive a s).cmd = s.cmd := rfl
@[simp] theorem setActive_cause (a : Option Active) (s : State) : (setActive a s).cause = s.cause := rfl
@[simp] theorem setActive_freeIndex (a : Option Active) (s : State) : (setActive a s).freeIndex = s.freeIndex := rfl
@[simp] theorem setActive_pending (a : Option Active) (s : State) : (setActive a s).pending = s.pending := rfl

/-! ### setGrant -/

@[simp] theorem setGrant_slot (g : Option Grant) (s : State) : (setGrant g s).slot = s.slot := rfl
@[simp] theorem setGrant_map (g : Option Grant) (s : State) : (setGrant g s).map = s.map := rfl
@[simp] theorem setGrant_profile (g : Option Grant) (s : State) : (setGrant g s).profile = s.profile := rfl
@[simp] theorem setGrant_port (g : Option Grant) (s : State) : (setGrant g s).port = { s.port with grant := g } := rfl
@[simp] theorem setGrant_rom (g : Option Grant) (s : State) : (setGrant g s).rom = s.rom := rfl
@[simp] theorem setGrant_sram (g : Option Grant) (s : State) : (setGrant g s).sram = s.sram := rfl
@[simp] theorem setGrant_sound (g : Option Grant) (s : State) : (setGrant g s).sound = s.sound := rfl
@[simp] theorem setGrant_saveAccess (g : Option Grant) (s : State) : (setGrant g s).saveAccess = s.saveAccess := rfl
@[simp] theorem setGrant_dir (g : Option Grant) (s : State) : (setGrant g s).dir = s.dir := rfl
@[simp] theorem setGrant_engine (g : Option Grant) (s : State) : (setGrant g s).engine = s.engine := rfl
@[simp] theorem setGrant_cal (g : Option Grant) (s : State) : (setGrant g s).cal = s.cal := rfl
@[simp] theorem setGrant_crystal (g : Option Grant) (s : State) : (setGrant g s).crystal = s.crystal := rfl
@[simp] theorem setGrant_cues (g : Option Grant) (s : State) : (setGrant g s).cues = s.cues := rfl
@[simp] theorem setGrant_voices (g : Option Grant) (s : State) : (setGrant g s).voices = s.voices := rfl
@[simp] theorem setGrant_mixer (g : Option Grant) (s : State) : (setGrant g s).mixer = s.mixer := rfl
@[simp] theorem setGrant_tracks (g : Option Grant) (s : State) : (setGrant g s).tracks = s.tracks := rfl
@[simp] theorem setGrant_frame (g : Option Grant) (s : State) : (setGrant g s).frame = s.frame := rfl
@[simp] theorem setGrant_rumble (g : Option Grant) (s : State) : (setGrant g s).rumble = s.rumble := rfl
@[simp] theorem setGrant_supply (g : Option Grant) (s : State) : (setGrant g s).supply = s.supply := rfl
@[simp] theorem setGrant_cmd (g : Option Grant) (s : State) : (setGrant g s).cmd = s.cmd := rfl
@[simp] theorem setGrant_cause (g : Option Grant) (s : State) : (setGrant g s).cause = s.cause := rfl
@[simp] theorem setGrant_freeIndex (g : Option Grant) (s : State) : (setGrant g s).freeIndex = s.freeIndex := rfl
@[simp] theorem setGrant_pending (g : Option Grant) (s : State) : (setGrant g s).pending = s.pending := rfl

/-! ### setCal -/

@[simp] theorem setCal_slot (c : Calendar) (s : State) : (setCal c s).slot = s.slot := rfl
@[simp] theorem setCal_map (c : Calendar) (s : State) : (setCal c s).map = s.map := rfl
@[simp] theorem setCal_profile (c : Calendar) (s : State) : (setCal c s).profile = s.profile := rfl
@[simp] theorem setCal_port (c : Calendar) (s : State) : (setCal c s).port = s.port := rfl
@[simp] theorem setCal_rom (c : Calendar) (s : State) : (setCal c s).rom = s.rom := rfl
@[simp] theorem setCal_sram (c : Calendar) (s : State) : (setCal c s).sram = s.sram := rfl
@[simp] theorem setCal_sound (c : Calendar) (s : State) : (setCal c s).sound = s.sound := rfl
@[simp] theorem setCal_saveAccess (c : Calendar) (s : State) : (setCal c s).saveAccess = s.saveAccess := rfl
@[simp] theorem setCal_dir (c : Calendar) (s : State) : (setCal c s).dir = s.dir := rfl
@[simp] theorem setCal_engine (c : Calendar) (s : State) : (setCal c s).engine = s.engine := rfl
@[simp] theorem setCal_cal (c : Calendar) (s : State) : (setCal c s).cal = c := rfl
@[simp] theorem setCal_crystal (c : Calendar) (s : State) : (setCal c s).crystal = s.crystal := rfl
@[simp] theorem setCal_cues (c : Calendar) (s : State) : (setCal c s).cues = s.cues := rfl
@[simp] theorem setCal_voices (c : Calendar) (s : State) : (setCal c s).voices = s.voices := rfl
@[simp] theorem setCal_mixer (c : Calendar) (s : State) : (setCal c s).mixer = s.mixer := rfl
@[simp] theorem setCal_tracks (c : Calendar) (s : State) : (setCal c s).tracks = s.tracks := rfl
@[simp] theorem setCal_frame (c : Calendar) (s : State) : (setCal c s).frame = s.frame := rfl
@[simp] theorem setCal_rumble (c : Calendar) (s : State) : (setCal c s).rumble = s.rumble := rfl
@[simp] theorem setCal_supply (c : Calendar) (s : State) : (setCal c s).supply = s.supply := rfl
@[simp] theorem setCal_cmd (c : Calendar) (s : State) : (setCal c s).cmd = s.cmd := rfl
@[simp] theorem setCal_cause (c : Calendar) (s : State) : (setCal c s).cause = s.cause := rfl
@[simp] theorem setCal_freeIndex (c : Calendar) (s : State) : (setCal c s).freeIndex = s.freeIndex := rfl
@[simp] theorem setCal_pending (c : Calendar) (s : State) : (setCal c s).pending = s.pending := rfl

/-! ### setFrame -/

@[simp] theorem setFrame_slot (f : FrameCapture) (s : State) : (setFrame f s).slot = s.slot := rfl
@[simp] theorem setFrame_map (f : FrameCapture) (s : State) : (setFrame f s).map = s.map := rfl
@[simp] theorem setFrame_profile (f : FrameCapture) (s : State) : (setFrame f s).profile = s.profile := rfl
@[simp] theorem setFrame_port (f : FrameCapture) (s : State) : (setFrame f s).port = s.port := rfl
@[simp] theorem setFrame_rom (f : FrameCapture) (s : State) : (setFrame f s).rom = s.rom := rfl
@[simp] theorem setFrame_sram (f : FrameCapture) (s : State) : (setFrame f s).sram = s.sram := rfl
@[simp] theorem setFrame_sound (f : FrameCapture) (s : State) : (setFrame f s).sound = s.sound := rfl
@[simp] theorem setFrame_saveAccess (f : FrameCapture) (s : State) : (setFrame f s).saveAccess = s.saveAccess := rfl
@[simp] theorem setFrame_dir (f : FrameCapture) (s : State) : (setFrame f s).dir = s.dir := rfl
@[simp] theorem setFrame_engine (f : FrameCapture) (s : State) : (setFrame f s).engine = s.engine := rfl
@[simp] theorem setFrame_cal (f : FrameCapture) (s : State) : (setFrame f s).cal = s.cal := rfl
@[simp] theorem setFrame_crystal (f : FrameCapture) (s : State) : (setFrame f s).crystal = s.crystal := rfl
@[simp] theorem setFrame_cues (f : FrameCapture) (s : State) : (setFrame f s).cues = s.cues := rfl
@[simp] theorem setFrame_voices (f : FrameCapture) (s : State) : (setFrame f s).voices = s.voices := rfl
@[simp] theorem setFrame_mixer (f : FrameCapture) (s : State) : (setFrame f s).mixer = s.mixer := rfl
@[simp] theorem setFrame_tracks (f : FrameCapture) (s : State) : (setFrame f s).tracks = s.tracks := rfl
@[simp] theorem setFrame_frame (f : FrameCapture) (s : State) : (setFrame f s).frame = f := rfl
@[simp] theorem setFrame_rumble (f : FrameCapture) (s : State) : (setFrame f s).rumble = s.rumble := rfl
@[simp] theorem setFrame_supply (f : FrameCapture) (s : State) : (setFrame f s).supply = s.supply := rfl
@[simp] theorem setFrame_cmd (f : FrameCapture) (s : State) : (setFrame f s).cmd = s.cmd := rfl
@[simp] theorem setFrame_cause (f : FrameCapture) (s : State) : (setFrame f s).cause = s.cause := rfl
@[simp] theorem setFrame_freeIndex (f : FrameCapture) (s : State) : (setFrame f s).freeIndex = s.freeIndex := rfl
@[simp] theorem setFrame_pending (f : FrameCapture) (s : State) : (setFrame f s).pending = s.pending := rfl

/-! ### changeSupply -/

@[simp] theorem changeSupply_slot (f : Supply → Supply) (s : State) : (changeSupply f s).slot = s.slot := rfl
@[simp] theorem changeSupply_map (f : Supply → Supply) (s : State) : (changeSupply f s).map = s.map := rfl
@[simp] theorem changeSupply_profile (f : Supply → Supply) (s : State) : (changeSupply f s).profile = s.profile := rfl
@[simp] theorem changeSupply_port (f : Supply → Supply) (s : State) : (changeSupply f s).port = s.port := rfl
@[simp] theorem changeSupply_rom (f : Supply → Supply) (s : State) : (changeSupply f s).rom = s.rom := rfl
@[simp] theorem changeSupply_sram (f : Supply → Supply) (s : State) : (changeSupply f s).sram = s.sram := rfl
@[simp] theorem changeSupply_sound (f : Supply → Supply) (s : State) : (changeSupply f s).sound = s.sound := rfl
@[simp] theorem changeSupply_saveAccess (f : Supply → Supply) (s : State) :
    (changeSupply f s).saveAccess = s.saveAccess := rfl
@[simp] theorem changeSupply_dir (f : Supply → Supply) (s : State) : (changeSupply f s).dir = s.dir := rfl
@[simp] theorem changeSupply_engine (f : Supply → Supply) (s : State) : (changeSupply f s).engine = s.engine := rfl
@[simp] theorem changeSupply_cal (f : Supply → Supply) (s : State) : (changeSupply f s).cal = s.cal := rfl
@[simp] theorem changeSupply_crystal (f : Supply → Supply) (s : State) : (changeSupply f s).crystal = s.crystal := rfl
@[simp] theorem changeSupply_cues (f : Supply → Supply) (s : State) : (changeSupply f s).cues = s.cues := rfl
@[simp] theorem changeSupply_voices (f : Supply → Supply) (s : State) : (changeSupply f s).voices = s.voices := rfl
@[simp] theorem changeSupply_mixer (f : Supply → Supply) (s : State) : (changeSupply f s).mixer = s.mixer := rfl
@[simp] theorem changeSupply_tracks (f : Supply → Supply) (s : State) : (changeSupply f s).tracks = s.tracks := rfl
@[simp] theorem changeSupply_frame (f : Supply → Supply) (s : State) : (changeSupply f s).frame = s.frame := rfl
@[simp] theorem changeSupply_rumble (f : Supply → Supply) (s : State) : (changeSupply f s).rumble = s.rumble := rfl
@[simp] theorem changeSupply_supply (f : Supply → Supply) (s : State) : (changeSupply f s).supply = f s.supply := rfl
@[simp] theorem changeSupply_cmd (f : Supply → Supply) (s : State) : (changeSupply f s).cmd = s.cmd := rfl
@[simp] theorem changeSupply_cause (f : Supply → Supply) (s : State) : (changeSupply f s).cause = s.cause := rfl
@[simp] theorem changeSupply_freeIndex (f : Supply → Supply) (s : State) :
    (changeSupply f s).freeIndex = s.freeIndex := rfl
@[simp] theorem changeSupply_pending (f : Supply → Supply) (s : State) : (changeSupply f s).pending = s.pending := rfl

/-! ### setMonitor -/

@[simp] theorem setMonitor_slot (m : Monitor) (s : State) : (setMonitor m s).slot = s.slot := rfl
@[simp] theorem setMonitor_map (m : Monitor) (s : State) : (setMonitor m s).map = s.map := rfl
@[simp] theorem setMonitor_profile (m : Monitor) (s : State) : (setMonitor m s).profile = s.profile := rfl
@[simp] theorem setMonitor_port (m : Monitor) (s : State) : (setMonitor m s).port = s.port := rfl
@[simp] theorem setMonitor_rom (m : Monitor) (s : State) : (setMonitor m s).rom = s.rom := rfl
@[simp] theorem setMonitor_sram (m : Monitor) (s : State) : (setMonitor m s).sram = s.sram := rfl
@[simp] theorem setMonitor_sound (m : Monitor) (s : State) : (setMonitor m s).sound = s.sound := rfl
@[simp] theorem setMonitor_saveAccess (m : Monitor) (s : State) : (setMonitor m s).saveAccess = s.saveAccess := rfl
@[simp] theorem setMonitor_dir (m : Monitor) (s : State) : (setMonitor m s).dir = s.dir := rfl
@[simp] theorem setMonitor_engine (m : Monitor) (s : State) : (setMonitor m s).engine = s.engine := rfl
@[simp] theorem setMonitor_cal (m : Monitor) (s : State) : (setMonitor m s).cal = s.cal := rfl
@[simp] theorem setMonitor_crystal (m : Monitor) (s : State) : (setMonitor m s).crystal = s.crystal := rfl
@[simp] theorem setMonitor_cues (m : Monitor) (s : State) : (setMonitor m s).cues = s.cues := rfl
@[simp] theorem setMonitor_voices (m : Monitor) (s : State) : (setMonitor m s).voices = s.voices := rfl
@[simp] theorem setMonitor_mixer (m : Monitor) (s : State) : (setMonitor m s).mixer = s.mixer := rfl
@[simp] theorem setMonitor_tracks (m : Monitor) (s : State) : (setMonitor m s).tracks = s.tracks := rfl
@[simp] theorem setMonitor_frame (m : Monitor) (s : State) : (setMonitor m s).frame = s.frame := rfl
@[simp] theorem setMonitor_rumble (m : Monitor) (s : State) : (setMonitor m s).rumble = s.rumble := rfl
@[simp] theorem setMonitor_supply (m : Monitor) (s : State) :
    (setMonitor m s).supply = { s.supply with monitor := m } := rfl
@[simp] theorem setMonitor_cmd (m : Monitor) (s : State) : (setMonitor m s).cmd = s.cmd := rfl
@[simp] theorem setMonitor_cause (m : Monitor) (s : State) : (setMonitor m s).cause = s.cause := rfl
@[simp] theorem setMonitor_freeIndex (m : Monitor) (s : State) : (setMonitor m s).freeIndex = s.freeIndex := rfl
@[simp] theorem setMonitor_pending (m : Monitor) (s : State) : (setMonitor m s).pending = s.pending := rfl

/-! ### setLastReset -/

@[simp] theorem setLastReset_slot (k : ResetKind) (s : State) : (setLastReset k s).slot = s.slot := rfl
@[simp] theorem setLastReset_map (k : ResetKind) (s : State) : (setLastReset k s).map = s.map := rfl
@[simp] theorem setLastReset_profile (k : ResetKind) (s : State) :
    (setLastReset k s).profile = { s.profile with lastReset := k } := rfl
@[simp] theorem setLastReset_port (k : ResetKind) (s : State) : (setLastReset k s).port = s.port := rfl
@[simp] theorem setLastReset_rom (k : ResetKind) (s : State) : (setLastReset k s).rom = s.rom := rfl
@[simp] theorem setLastReset_sram (k : ResetKind) (s : State) : (setLastReset k s).sram = s.sram := rfl
@[simp] theorem setLastReset_sound (k : ResetKind) (s : State) : (setLastReset k s).sound = s.sound := rfl
@[simp] theorem setLastReset_saveAccess (k : ResetKind) (s : State) :
    (setLastReset k s).saveAccess = s.saveAccess := rfl
@[simp] theorem setLastReset_dir (k : ResetKind) (s : State) : (setLastReset k s).dir = s.dir := rfl
@[simp] theorem setLastReset_engine (k : ResetKind) (s : State) : (setLastReset k s).engine = s.engine := rfl
@[simp] theorem setLastReset_cal (k : ResetKind) (s : State) : (setLastReset k s).cal = s.cal := rfl
@[simp] theorem setLastReset_crystal (k : ResetKind) (s : State) : (setLastReset k s).crystal = s.crystal := rfl
@[simp] theorem setLastReset_cues (k : ResetKind) (s : State) : (setLastReset k s).cues = s.cues := rfl
@[simp] theorem setLastReset_voices (k : ResetKind) (s : State) : (setLastReset k s).voices = s.voices := rfl
@[simp] theorem setLastReset_mixer (k : ResetKind) (s : State) : (setLastReset k s).mixer = s.mixer := rfl
@[simp] theorem setLastReset_tracks (k : ResetKind) (s : State) : (setLastReset k s).tracks = s.tracks := rfl
@[simp] theorem setLastReset_frame (k : ResetKind) (s : State) : (setLastReset k s).frame = s.frame := rfl
@[simp] theorem setLastReset_rumble (k : ResetKind) (s : State) : (setLastReset k s).rumble = s.rumble := rfl
@[simp] theorem setLastReset_supply (k : ResetKind) (s : State) : (setLastReset k s).supply = s.supply := rfl
@[simp] theorem setLastReset_cmd (k : ResetKind) (s : State) : (setLastReset k s).cmd = s.cmd := rfl
@[simp] theorem setLastReset_cause (k : ResetKind) (s : State) : (setLastReset k s).cause = s.cause := rfl
@[simp] theorem setLastReset_freeIndex (k : ResetKind) (s : State) : (setLastReset k s).freeIndex = s.freeIndex := rfl
@[simp] theorem setLastReset_pending (k : ResetKind) (s : State) : (setLastReset k s).pending = s.pending := rfl

/-! ### closeWindow -/

@[simp] theorem closeWindow_slot (s : State) : (closeWindow s).slot = s.slot := rfl
@[simp] theorem closeWindow_map (s : State) : (closeWindow s).map = s.map := rfl
@[simp] theorem closeWindow_profile (s : State) : (closeWindow s).profile = s.profile := rfl
@[simp] theorem closeWindow_port (s : State) : (closeWindow s).port = s.port := rfl
@[simp] theorem closeWindow_rom (s : State) : (closeWindow s).rom = s.rom := rfl
@[simp] theorem closeWindow_sram (s : State) : (closeWindow s).sram = s.sram := rfl
@[simp] theorem closeWindow_sound (s : State) : (closeWindow s).sound = s.sound := rfl
@[simp] theorem closeWindow_saveAccess (s : State) : (closeWindow s).saveAccess = s.saveAccess := rfl
@[simp] theorem closeWindow_dir (s : State) : (closeWindow s).dir = { s.dir with windowOpen := false } := rfl
@[simp] theorem closeWindow_engine (s : State) : (closeWindow s).engine = s.engine := rfl
@[simp] theorem closeWindow_cal (s : State) : (closeWindow s).cal = s.cal := rfl
@[simp] theorem closeWindow_crystal (s : State) : (closeWindow s).crystal = s.crystal := rfl
@[simp] theorem closeWindow_cues (s : State) : (closeWindow s).cues = s.cues := rfl
@[simp] theorem closeWindow_voices (s : State) : (closeWindow s).voices = s.voices := rfl
@[simp] theorem closeWindow_mixer (s : State) : (closeWindow s).mixer = s.mixer := rfl
@[simp] theorem closeWindow_tracks (s : State) : (closeWindow s).tracks = s.tracks := rfl
@[simp] theorem closeWindow_frame (s : State) : (closeWindow s).frame = s.frame := rfl
@[simp] theorem closeWindow_rumble (s : State) : (closeWindow s).rumble = s.rumble := rfl
@[simp] theorem closeWindow_supply (s : State) : (closeWindow s).supply = s.supply := rfl
@[simp] theorem closeWindow_cmd (s : State) : (closeWindow s).cmd = s.cmd := rfl
@[simp] theorem closeWindow_cause (s : State) : (closeWindow s).cause = s.cause := rfl
@[simp] theorem closeWindow_freeIndex (s : State) : (closeWindow s).freeIndex = s.freeIndex := rfl
@[simp] theorem closeWindow_pending (s : State) : (closeWindow s).pending = s.pending := rfl

/-! ### enqueue -/

@[simp] theorem enqueue_slot (k : OpKind) (n : SlotNo) (s : State) : (enqueue k n s).slot = s.slot := rfl
@[simp] theorem enqueue_map (k : OpKind) (n : SlotNo) (s : State) : (enqueue k n s).map = s.map := rfl
@[simp] theorem enqueue_profile (k : OpKind) (n : SlotNo) (s : State) : (enqueue k n s).profile = s.profile := rfl
@[simp] theorem enqueue_port (k : OpKind) (n : SlotNo) (s : State) : (enqueue k n s).port = s.port := rfl
@[simp] theorem enqueue_rom (k : OpKind) (n : SlotNo) (s : State) : (enqueue k n s).rom = s.rom := rfl
@[simp] theorem enqueue_sram (k : OpKind) (n : SlotNo) (s : State) : (enqueue k n s).sram = s.sram := rfl
@[simp] theorem enqueue_sound (k : OpKind) (n : SlotNo) (s : State) : (enqueue k n s).sound = s.sound := rfl
@[simp] theorem enqueue_saveAccess (k : OpKind) (n : SlotNo) (s : State) :
    (enqueue k n s).saveAccess = s.saveAccess := rfl
@[simp] theorem enqueue_dir (k : OpKind) (n : SlotNo) (s : State) : (enqueue k n s).dir = s.dir := rfl
@[simp] theorem enqueue_engine (k : OpKind) (n : SlotNo) (s : State) :
    (enqueue k n s).engine = { s.engine with queue := s.engine.queue ++ [⟨k, n⟩] } := rfl
@[simp] theorem enqueue_cal (k : OpKind) (n : SlotNo) (s : State) : (enqueue k n s).cal = s.cal := rfl
@[simp] theorem enqueue_crystal (k : OpKind) (n : SlotNo) (s : State) : (enqueue k n s).crystal = s.crystal := rfl
@[simp] theorem enqueue_cues (k : OpKind) (n : SlotNo) (s : State) : (enqueue k n s).cues = s.cues := rfl
@[simp] theorem enqueue_voices (k : OpKind) (n : SlotNo) (s : State) : (enqueue k n s).voices = s.voices := rfl
@[simp] theorem enqueue_mixer (k : OpKind) (n : SlotNo) (s : State) : (enqueue k n s).mixer = s.mixer := rfl
@[simp] theorem enqueue_tracks (k : OpKind) (n : SlotNo) (s : State) : (enqueue k n s).tracks = s.tracks := rfl
@[simp] theorem enqueue_frame (k : OpKind) (n : SlotNo) (s : State) : (enqueue k n s).frame = s.frame := rfl
@[simp] theorem enqueue_rumble (k : OpKind) (n : SlotNo) (s : State) : (enqueue k n s).rumble = s.rumble := rfl
@[simp] theorem enqueue_supply (k : OpKind) (n : SlotNo) (s : State) : (enqueue k n s).supply = s.supply := rfl
@[simp] theorem enqueue_cmd (k : OpKind) (n : SlotNo) (s : State) : (enqueue k n s).cmd = s.cmd := rfl
@[simp] theorem enqueue_cause (k : OpKind) (n : SlotNo) (s : State) : (enqueue k n s).cause = s.cause := rfl
@[simp] theorem enqueue_freeIndex (k : OpKind) (n : SlotNo) (s : State) : (enqueue k n s).freeIndex = s.freeIndex := rfl
@[simp] theorem enqueue_pending (k : OpKind) (n : SlotNo) (s : State) : (enqueue k n s).pending = s.pending := rfl

/-! ### portRead -/

@[simp] theorem portRead_slot (e : Bool) (b p : Nat) (s : State) : (portRead e b p s).slot = s.slot := rfl
@[simp] theorem portRead_map (e : Bool) (b p : Nat) (s : State) : (portRead e b p s).map = s.map := rfl
@[simp] theorem portRead_profile (e : Bool) (b p : Nat) (s : State) : (portRead e b p s).profile = s.profile := rfl
@[simp] theorem portRead_port (e : Bool) (b p : Nat) (s : State) : (portRead e b p s).port = s.port := rfl
@[simp] theorem portRead_rom (e : Bool) (b p : Nat) (s : State) : (portRead e b p s).rom = s.rom := rfl
@[simp] theorem portRead_sram (e : Bool) (b p : Nat) (s : State) : (portRead e b p s).sram = s.sram := rfl
@[simp] theorem portRead_sound (e : Bool) (b p : Nat) (s : State) : (portRead e b p s).sound = s.sound := rfl
@[simp] theorem portRead_saveAccess (e : Bool) (b p : Nat) (s : State) :
    (portRead e b p s).saveAccess = some ⟨e, false, sramAddr b p, sramByte s b p⟩ := rfl
@[simp] theorem portRead_dir (e : Bool) (b p : Nat) (s : State) : (portRead e b p s).dir = s.dir := rfl
@[simp] theorem portRead_engine (e : Bool) (b p : Nat) (s : State) : (portRead e b p s).engine = s.engine := rfl
@[simp] theorem portRead_cal (e : Bool) (b p : Nat) (s : State) : (portRead e b p s).cal = s.cal := rfl
@[simp] theorem portRead_crystal (e : Bool) (b p : Nat) (s : State) : (portRead e b p s).crystal = s.crystal := rfl
@[simp] theorem portRead_cues (e : Bool) (b p : Nat) (s : State) : (portRead e b p s).cues = s.cues := rfl
@[simp] theorem portRead_voices (e : Bool) (b p : Nat) (s : State) : (portRead e b p s).voices = s.voices := rfl
@[simp] theorem portRead_mixer (e : Bool) (b p : Nat) (s : State) : (portRead e b p s).mixer = s.mixer := rfl
@[simp] theorem portRead_tracks (e : Bool) (b p : Nat) (s : State) : (portRead e b p s).tracks = s.tracks := rfl
@[simp] theorem portRead_frame (e : Bool) (b p : Nat) (s : State) : (portRead e b p s).frame = s.frame := rfl
@[simp] theorem portRead_rumble (e : Bool) (b p : Nat) (s : State) : (portRead e b p s).rumble = s.rumble := rfl
@[simp] theorem portRead_supply (e : Bool) (b p : Nat) (s : State) : (portRead e b p s).supply = s.supply := rfl
@[simp] theorem portRead_cmd (e : Bool) (b p : Nat) (s : State) : (portRead e b p s).cmd = s.cmd := rfl
@[simp] theorem portRead_cause (e : Bool) (b p : Nat) (s : State) : (portRead e b p s).cause = s.cause := rfl
@[simp] theorem portRead_freeIndex (e : Bool) (b p : Nat) (s : State) :
    (portRead e b p s).freeIndex = s.freeIndex := rfl
@[simp] theorem portRead_pending (e : Bool) (b p : Nat) (s : State) : (portRead e b p s).pending = s.pending := rfl

/-! ### portWrite -/

@[simp] theorem portWrite_slot (e : Bool) (b p : Nat) (x : Byte) (s : State) :
    (portWrite e b p x s).slot = s.slot := rfl
@[simp] theorem portWrite_map (e : Bool) (b p : Nat) (x : Byte) (s : State) : (portWrite e b p x s).map = s.map := rfl
@[simp] theorem portWrite_profile (e : Bool) (b p : Nat) (x : Byte) (s : State) :
    (portWrite e b p x s).profile = s.profile := rfl
@[simp] theorem portWrite_port (e : Bool) (b p : Nat) (x : Byte) (s : State) :
    (portWrite e b p x s).port = s.port := rfl
@[simp] theorem portWrite_rom (e : Bool) (b p : Nat) (x : Byte) (s : State) : (portWrite e b p x s).rom = s.rom := rfl
@[simp] theorem portWrite_sram (e : Bool) (b p : Nat) (x : Byte) (s : State) :
    (portWrite e b p x s).sram = writeMem sramUnlisted s.sram (sramAddr b p) x := rfl
@[simp] theorem portWrite_sound (e : Bool) (b p : Nat) (x : Byte) (s : State) :
    (portWrite e b p x s).sound = s.sound := rfl
@[simp] theorem portWrite_saveAccess (e : Bool) (b p : Nat) (x : Byte) (s : State) :
    (portWrite e b p x s).saveAccess = some ⟨e, true, sramAddr b p, x⟩ := rfl
@[simp] theorem portWrite_dir (e : Bool) (b p : Nat) (x : Byte) (s : State) : (portWrite e b p x s).dir = s.dir := rfl
@[simp] theorem portWrite_engine (e : Bool) (b p : Nat) (x : Byte) (s : State) :
    (portWrite e b p x s).engine = s.engine := rfl
@[simp] theorem portWrite_cal (e : Bool) (b p : Nat) (x : Byte) (s : State) : (portWrite e b p x s).cal = s.cal := rfl
@[simp] theorem portWrite_crystal (e : Bool) (b p : Nat) (x : Byte) (s : State) :
    (portWrite e b p x s).crystal = s.crystal := rfl
@[simp] theorem portWrite_cues (e : Bool) (b p : Nat) (x : Byte) (s : State) :
    (portWrite e b p x s).cues = s.cues := rfl
@[simp] theorem portWrite_voices (e : Bool) (b p : Nat) (x : Byte) (s : State) :
    (portWrite e b p x s).voices = s.voices := rfl
@[simp] theorem portWrite_mixer (e : Bool) (b p : Nat) (x : Byte) (s : State) :
    (portWrite e b p x s).mixer = s.mixer := rfl
@[simp] theorem portWrite_tracks (e : Bool) (b p : Nat) (x : Byte) (s : State) :
    (portWrite e b p x s).tracks = s.tracks := rfl
@[simp] theorem portWrite_frame (e : Bool) (b p : Nat) (x : Byte) (s : State) :
    (portWrite e b p x s).frame = s.frame := rfl
@[simp] theorem portWrite_rumble (e : Bool) (b p : Nat) (x : Byte) (s : State) :
    (portWrite e b p x s).rumble = s.rumble := rfl
@[simp] theorem portWrite_supply (e : Bool) (b p : Nat) (x : Byte) (s : State) :
    (portWrite e b p x s).supply = s.supply := rfl
@[simp] theorem portWrite_cmd (e : Bool) (b p : Nat) (x : Byte) (s : State) : (portWrite e b p x s).cmd = s.cmd := rfl
@[simp] theorem portWrite_cause (e : Bool) (b p : Nat) (x : Byte) (s : State) :
    (portWrite e b p x s).cause = s.cause := rfl
@[simp] theorem portWrite_freeIndex (e : Bool) (b p : Nat) (x : Byte) (s : State) :
    (portWrite e b p x s).freeIndex = s.freeIndex := rfl
@[simp] theorem portWrite_pending (e : Bool) (b p : Nat) (x : Byte) (s : State) :
    (portWrite e b p x s).pending = s.pending := rfl

/-! ### setFault: everything but cause -/

@[simp] theorem setFault_slot (f : FaultFlag) (s : State) : (setFault f s).slot = s.slot :=
  by unfold setFault; split <;> rfl
@[simp] theorem setFault_map (f : FaultFlag) (s : State) : (setFault f s).map = s.map :=
  by unfold setFault; split <;> rfl
@[simp] theorem setFault_profile (f : FaultFlag) (s : State) : (setFault f s).profile = s.profile :=
  by unfold setFault; split <;> rfl
@[simp] theorem setFault_port (f : FaultFlag) (s : State) : (setFault f s).port = s.port :=
  by unfold setFault; split <;> rfl
@[simp] theorem setFault_rom (f : FaultFlag) (s : State) : (setFault f s).rom = s.rom :=
  by unfold setFault; split <;> rfl
@[simp] theorem setFault_sram (f : FaultFlag) (s : State) : (setFault f s).sram = s.sram :=
  by unfold setFault; split <;> rfl
@[simp] theorem setFault_sound (f : FaultFlag) (s : State) : (setFault f s).sound = s.sound :=
  by unfold setFault; split <;> rfl
@[simp] theorem setFault_saveAccess (f : FaultFlag) (s : State) : (setFault f s).saveAccess = s.saveAccess :=
  by unfold setFault; split <;> rfl
@[simp] theorem setFault_dir (f : FaultFlag) (s : State) : (setFault f s).dir = s.dir :=
  by unfold setFault; split <;> rfl
@[simp] theorem setFault_engine (f : FaultFlag) (s : State) : (setFault f s).engine = s.engine :=
  by unfold setFault; split <;> rfl
@[simp] theorem setFault_cal (f : FaultFlag) (s : State) : (setFault f s).cal = s.cal :=
  by unfold setFault; split <;> rfl
@[simp] theorem setFault_crystal (f : FaultFlag) (s : State) : (setFault f s).crystal = s.crystal :=
  by unfold setFault; split <;> rfl
@[simp] theorem setFault_cues (f : FaultFlag) (s : State) : (setFault f s).cues = s.cues :=
  by unfold setFault; split <;> rfl
@[simp] theorem setFault_voices (f : FaultFlag) (s : State) : (setFault f s).voices = s.voices :=
  by unfold setFault; split <;> rfl
@[simp] theorem setFault_mixer (f : FaultFlag) (s : State) : (setFault f s).mixer = s.mixer :=
  by unfold setFault; split <;> rfl
@[simp] theorem setFault_tracks (f : FaultFlag) (s : State) : (setFault f s).tracks = s.tracks :=
  by unfold setFault; split <;> rfl
@[simp] theorem setFault_frame (f : FaultFlag) (s : State) : (setFault f s).frame = s.frame :=
  by unfold setFault; split <;> rfl
@[simp] theorem setFault_rumble (f : FaultFlag) (s : State) : (setFault f s).rumble = s.rumble :=
  by unfold setFault; split <;> rfl
@[simp] theorem setFault_supply (f : FaultFlag) (s : State) : (setFault f s).supply = s.supply :=
  by unfold setFault; split <;> rfl
@[simp] theorem setFault_cmd (f : FaultFlag) (s : State) : (setFault f s).cmd = s.cmd :=
  by unfold setFault; split <;> rfl
@[simp] theorem setFault_freeIndex (f : FaultFlag) (s : State) : (setFault f s).freeIndex = s.freeIndex :=
  by unfold setFault; split <;> rfl
@[simp] theorem setFault_pending (f : FaultFlag) (s : State) : (setFault f s).pending = s.pending :=
  by unfold setFault; split <;> rfl

/-! ### latchFrameLost: everything but cause -/

@[simp] theorem latchFrameLost_slot (s : State) : (latchFrameLost s).slot = s.slot :=
  by unfold latchFrameLost; split <;> rfl
@[simp] theorem latchFrameLost_map (s : State) : (latchFrameLost s).map = s.map :=
  by unfold latchFrameLost; split <;> rfl
@[simp] theorem latchFrameLost_profile (s : State) : (latchFrameLost s).profile = s.profile :=
  by unfold latchFrameLost; split <;> rfl
@[simp] theorem latchFrameLost_port (s : State) : (latchFrameLost s).port = s.port :=
  by unfold latchFrameLost; split <;> rfl
@[simp] theorem latchFrameLost_rom (s : State) : (latchFrameLost s).rom = s.rom :=
  by unfold latchFrameLost; split <;> rfl
@[simp] theorem latchFrameLost_sram (s : State) : (latchFrameLost s).sram = s.sram :=
  by unfold latchFrameLost; split <;> rfl
@[simp] theorem latchFrameLost_sound (s : State) : (latchFrameLost s).sound = s.sound :=
  by unfold latchFrameLost; split <;> rfl
@[simp] theorem latchFrameLost_saveAccess (s : State) : (latchFrameLost s).saveAccess = s.saveAccess :=
  by unfold latchFrameLost; split <;> rfl
@[simp] theorem latchFrameLost_dir (s : State) : (latchFrameLost s).dir = s.dir :=
  by unfold latchFrameLost; split <;> rfl
@[simp] theorem latchFrameLost_engine (s : State) : (latchFrameLost s).engine = s.engine :=
  by unfold latchFrameLost; split <;> rfl
@[simp] theorem latchFrameLost_cal (s : State) : (latchFrameLost s).cal = s.cal :=
  by unfold latchFrameLost; split <;> rfl
@[simp] theorem latchFrameLost_crystal (s : State) : (latchFrameLost s).crystal = s.crystal :=
  by unfold latchFrameLost; split <;> rfl
@[simp] theorem latchFrameLost_cues (s : State) : (latchFrameLost s).cues = s.cues :=
  by unfold latchFrameLost; split <;> rfl
@[simp] theorem latchFrameLost_voices (s : State) : (latchFrameLost s).voices = s.voices :=
  by unfold latchFrameLost; split <;> rfl
@[simp] theorem latchFrameLost_mixer (s : State) : (latchFrameLost s).mixer = s.mixer :=
  by unfold latchFrameLost; split <;> rfl
@[simp] theorem latchFrameLost_tracks (s : State) : (latchFrameLost s).tracks = s.tracks :=
  by unfold latchFrameLost; split <;> rfl
@[simp] theorem latchFrameLost_frame (s : State) : (latchFrameLost s).frame = s.frame :=
  by unfold latchFrameLost; split <;> rfl
@[simp] theorem latchFrameLost_rumble (s : State) : (latchFrameLost s).rumble = s.rumble :=
  by unfold latchFrameLost; split <;> rfl
@[simp] theorem latchFrameLost_supply (s : State) : (latchFrameLost s).supply = s.supply :=
  by unfold latchFrameLost; split <;> rfl
@[simp] theorem latchFrameLost_cmd (s : State) : (latchFrameLost s).cmd = s.cmd :=
  by unfold latchFrameLost; split <;> rfl
@[simp] theorem latchFrameLost_freeIndex (s : State) : (latchFrameLost s).freeIndex = s.freeIndex :=
  by unfold latchFrameLost; split <;> rfl
@[simp] theorem latchFrameLost_pending (s : State) : (latchFrameLost s).pending = s.pending :=
  by unfold latchFrameLost; split <;> rfl

/-! ### latchRumbleEnd: everything but cause -/

@[simp] theorem latchRumbleEnd_slot (s : State) : (latchRumbleEnd s).slot = s.slot :=
  by unfold latchRumbleEnd; split <;> rfl
@[simp] theorem latchRumbleEnd_map (s : State) : (latchRumbleEnd s).map = s.map :=
  by unfold latchRumbleEnd; split <;> rfl
@[simp] theorem latchRumbleEnd_profile (s : State) : (latchRumbleEnd s).profile = s.profile :=
  by unfold latchRumbleEnd; split <;> rfl
@[simp] theorem latchRumbleEnd_port (s : State) : (latchRumbleEnd s).port = s.port :=
  by unfold latchRumbleEnd; split <;> rfl
@[simp] theorem latchRumbleEnd_rom (s : State) : (latchRumbleEnd s).rom = s.rom :=
  by unfold latchRumbleEnd; split <;> rfl
@[simp] theorem latchRumbleEnd_sram (s : State) : (latchRumbleEnd s).sram = s.sram :=
  by unfold latchRumbleEnd; split <;> rfl
@[simp] theorem latchRumbleEnd_sound (s : State) : (latchRumbleEnd s).sound = s.sound :=
  by unfold latchRumbleEnd; split <;> rfl
@[simp] theorem latchRumbleEnd_saveAccess (s : State) : (latchRumbleEnd s).saveAccess = s.saveAccess :=
  by unfold latchRumbleEnd; split <;> rfl
@[simp] theorem latchRumbleEnd_dir (s : State) : (latchRumbleEnd s).dir = s.dir :=
  by unfold latchRumbleEnd; split <;> rfl
@[simp] theorem latchRumbleEnd_engine (s : State) : (latchRumbleEnd s).engine = s.engine :=
  by unfold latchRumbleEnd; split <;> rfl
@[simp] theorem latchRumbleEnd_cal (s : State) : (latchRumbleEnd s).cal = s.cal :=
  by unfold latchRumbleEnd; split <;> rfl
@[simp] theorem latchRumbleEnd_crystal (s : State) : (latchRumbleEnd s).crystal = s.crystal :=
  by unfold latchRumbleEnd; split <;> rfl
@[simp] theorem latchRumbleEnd_cues (s : State) : (latchRumbleEnd s).cues = s.cues :=
  by unfold latchRumbleEnd; split <;> rfl
@[simp] theorem latchRumbleEnd_voices (s : State) : (latchRumbleEnd s).voices = s.voices :=
  by unfold latchRumbleEnd; split <;> rfl
@[simp] theorem latchRumbleEnd_mixer (s : State) : (latchRumbleEnd s).mixer = s.mixer :=
  by unfold latchRumbleEnd; split <;> rfl
@[simp] theorem latchRumbleEnd_tracks (s : State) : (latchRumbleEnd s).tracks = s.tracks :=
  by unfold latchRumbleEnd; split <;> rfl
@[simp] theorem latchRumbleEnd_frame (s : State) : (latchRumbleEnd s).frame = s.frame :=
  by unfold latchRumbleEnd; split <;> rfl
@[simp] theorem latchRumbleEnd_rumble (s : State) : (latchRumbleEnd s).rumble = s.rumble :=
  by unfold latchRumbleEnd; split <;> rfl
@[simp] theorem latchRumbleEnd_supply (s : State) : (latchRumbleEnd s).supply = s.supply :=
  by unfold latchRumbleEnd; split <;> rfl
@[simp] theorem latchRumbleEnd_cmd (s : State) : (latchRumbleEnd s).cmd = s.cmd :=
  by unfold latchRumbleEnd; split <;> rfl
@[simp] theorem latchRumbleEnd_freeIndex (s : State) : (latchRumbleEnd s).freeIndex = s.freeIndex :=
  by unfold latchRumbleEnd; split <;> rfl
@[simp] theorem latchRumbleEnd_pending (s : State) : (latchRumbleEnd s).pending = s.pending :=
  by unfold latchRumbleEnd; split <;> rfl

/-! ### latchMarker: everything but cause -/

@[simp] theorem latchMarker_slot (t : TrackNo) (s : State) : (latchMarker t s).slot = s.slot :=
  by unfold latchMarker; split <;> rfl
@[simp] theorem latchMarker_map (t : TrackNo) (s : State) : (latchMarker t s).map = s.map :=
  by unfold latchMarker; split <;> rfl
@[simp] theorem latchMarker_profile (t : TrackNo) (s : State) : (latchMarker t s).profile = s.profile :=
  by unfold latchMarker; split <;> rfl
@[simp] theorem latchMarker_port (t : TrackNo) (s : State) : (latchMarker t s).port = s.port :=
  by unfold latchMarker; split <;> rfl
@[simp] theorem latchMarker_rom (t : TrackNo) (s : State) : (latchMarker t s).rom = s.rom :=
  by unfold latchMarker; split <;> rfl
@[simp] theorem latchMarker_sram (t : TrackNo) (s : State) : (latchMarker t s).sram = s.sram :=
  by unfold latchMarker; split <;> rfl
@[simp] theorem latchMarker_sound (t : TrackNo) (s : State) : (latchMarker t s).sound = s.sound :=
  by unfold latchMarker; split <;> rfl
@[simp] theorem latchMarker_saveAccess (t : TrackNo) (s : State) : (latchMarker t s).saveAccess = s.saveAccess :=
  by unfold latchMarker; split <;> rfl
@[simp] theorem latchMarker_dir (t : TrackNo) (s : State) : (latchMarker t s).dir = s.dir :=
  by unfold latchMarker; split <;> rfl
@[simp] theorem latchMarker_engine (t : TrackNo) (s : State) : (latchMarker t s).engine = s.engine :=
  by unfold latchMarker; split <;> rfl
@[simp] theorem latchMarker_cal (t : TrackNo) (s : State) : (latchMarker t s).cal = s.cal :=
  by unfold latchMarker; split <;> rfl
@[simp] theorem latchMarker_crystal (t : TrackNo) (s : State) : (latchMarker t s).crystal = s.crystal :=
  by unfold latchMarker; split <;> rfl
@[simp] theorem latchMarker_cues (t : TrackNo) (s : State) : (latchMarker t s).cues = s.cues :=
  by unfold latchMarker; split <;> rfl
@[simp] theorem latchMarker_voices (t : TrackNo) (s : State) : (latchMarker t s).voices = s.voices :=
  by unfold latchMarker; split <;> rfl
@[simp] theorem latchMarker_mixer (t : TrackNo) (s : State) : (latchMarker t s).mixer = s.mixer :=
  by unfold latchMarker; split <;> rfl
@[simp] theorem latchMarker_tracks (t : TrackNo) (s : State) : (latchMarker t s).tracks = s.tracks :=
  by unfold latchMarker; split <;> rfl
@[simp] theorem latchMarker_frame (t : TrackNo) (s : State) : (latchMarker t s).frame = s.frame :=
  by unfold latchMarker; split <;> rfl
@[simp] theorem latchMarker_rumble (t : TrackNo) (s : State) : (latchMarker t s).rumble = s.rumble :=
  by unfold latchMarker; split <;> rfl
@[simp] theorem latchMarker_supply (t : TrackNo) (s : State) : (latchMarker t s).supply = s.supply :=
  by unfold latchMarker; split <;> rfl
@[simp] theorem latchMarker_cmd (t : TrackNo) (s : State) : (latchMarker t s).cmd = s.cmd :=
  by unfold latchMarker; split <;> rfl
@[simp] theorem latchMarker_freeIndex (t : TrackNo) (s : State) : (latchMarker t s).freeIndex = s.freeIndex :=
  by unfold latchMarker; split <;> rfl
@[simp] theorem latchMarker_pending (t : TrackNo) (s : State) : (latchMarker t s).pending = s.pending :=
  by unfold latchMarker; split <;> rfl

/-! ### setFaultIf: everything but cause -/

@[simp] theorem setFaultIf_slot (b : Bool) (f : FaultFlag) (s : State) : (setFaultIf b f s).slot = s.slot :=
  by unfold setFaultIf; split <;> simp
@[simp] theorem setFaultIf_map (b : Bool) (f : FaultFlag) (s : State) : (setFaultIf b f s).map = s.map :=
  by unfold setFaultIf; split <;> simp
@[simp] theorem setFaultIf_profile (b : Bool) (f : FaultFlag) (s : State) : (setFaultIf b f s).profile = s.profile :=
  by unfold setFaultIf; split <;> simp
@[simp] theorem setFaultIf_port (b : Bool) (f : FaultFlag) (s : State) : (setFaultIf b f s).port = s.port :=
  by unfold setFaultIf; split <;> simp
@[simp] theorem setFaultIf_rom (b : Bool) (f : FaultFlag) (s : State) : (setFaultIf b f s).rom = s.rom :=
  by unfold setFaultIf; split <;> simp
@[simp] theorem setFaultIf_sram (b : Bool) (f : FaultFlag) (s : State) : (setFaultIf b f s).sram = s.sram :=
  by unfold setFaultIf; split <;> simp
@[simp] theorem setFaultIf_sound (b : Bool) (f : FaultFlag) (s : State) : (setFaultIf b f s).sound = s.sound :=
  by unfold setFaultIf; split <;> simp
@[simp] theorem setFaultIf_saveAccess (b : Bool) (f : FaultFlag) (s : State) : (setFaultIf b f s).saveAccess = s.saveAccess :=
  by unfold setFaultIf; split <;> simp
@[simp] theorem setFaultIf_dir (b : Bool) (f : FaultFlag) (s : State) : (setFaultIf b f s).dir = s.dir :=
  by unfold setFaultIf; split <;> simp
@[simp] theorem setFaultIf_engine (b : Bool) (f : FaultFlag) (s : State) : (setFaultIf b f s).engine = s.engine :=
  by unfold setFaultIf; split <;> simp
@[simp] theorem setFaultIf_cal (b : Bool) (f : FaultFlag) (s : State) : (setFaultIf b f s).cal = s.cal :=
  by unfold setFaultIf; split <;> simp
@[simp] theorem setFaultIf_crystal (b : Bool) (f : FaultFlag) (s : State) : (setFaultIf b f s).crystal = s.crystal :=
  by unfold setFaultIf; split <;> simp
@[simp] theorem setFaultIf_cues (b : Bool) (f : FaultFlag) (s : State) : (setFaultIf b f s).cues = s.cues :=
  by unfold setFaultIf; split <;> simp
@[simp] theorem setFaultIf_voices (b : Bool) (f : FaultFlag) (s : State) : (setFaultIf b f s).voices = s.voices :=
  by unfold setFaultIf; split <;> simp
@[simp] theorem setFaultIf_mixer (b : Bool) (f : FaultFlag) (s : State) : (setFaultIf b f s).mixer = s.mixer :=
  by unfold setFaultIf; split <;> simp
@[simp] theorem setFaultIf_tracks (b : Bool) (f : FaultFlag) (s : State) : (setFaultIf b f s).tracks = s.tracks :=
  by unfold setFaultIf; split <;> simp
@[simp] theorem setFaultIf_frame (b : Bool) (f : FaultFlag) (s : State) : (setFaultIf b f s).frame = s.frame :=
  by unfold setFaultIf; split <;> simp
@[simp] theorem setFaultIf_rumble (b : Bool) (f : FaultFlag) (s : State) : (setFaultIf b f s).rumble = s.rumble :=
  by unfold setFaultIf; split <;> simp
@[simp] theorem setFaultIf_supply (b : Bool) (f : FaultFlag) (s : State) : (setFaultIf b f s).supply = s.supply :=
  by unfold setFaultIf; split <;> simp
@[simp] theorem setFaultIf_cmd (b : Bool) (f : FaultFlag) (s : State) : (setFaultIf b f s).cmd = s.cmd :=
  by unfold setFaultIf; split <;> simp
@[simp] theorem setFaultIf_freeIndex (b : Bool) (f : FaultFlag) (s : State) : (setFaultIf b f s).freeIndex = s.freeIndex :=
  by unfold setFaultIf; split <;> simp
@[simp] theorem setFaultIf_pending (b : Bool) (f : FaultFlag) (s : State) : (setFaultIf b f s).pending = s.pending :=
  by unfold setFaultIf; split <;> simp

/-! ### returnBlock: everything but dir -/

@[simp] theorem returnBlock_slot (b : Option Nat) (s : State) : (returnBlock b s).slot = s.slot :=
  by
    cases b
    · rfl
    · simp only [returnBlock]; split <;> rfl
@[simp] theorem returnBlock_map (b : Option Nat) (s : State) : (returnBlock b s).map = s.map :=
  by
    cases b
    · rfl
    · simp only [returnBlock]; split <;> rfl
@[simp] theorem returnBlock_profile (b : Option Nat) (s : State) : (returnBlock b s).profile = s.profile :=
  by
    cases b
    · rfl
    · simp only [returnBlock]; split <;> rfl
@[simp] theorem returnBlock_port (b : Option Nat) (s : State) : (returnBlock b s).port = s.port :=
  by
    cases b
    · rfl
    · simp only [returnBlock]; split <;> rfl
@[simp] theorem returnBlock_rom (b : Option Nat) (s : State) : (returnBlock b s).rom = s.rom :=
  by
    cases b
    · rfl
    · simp only [returnBlock]; split <;> rfl
@[simp] theorem returnBlock_sram (b : Option Nat) (s : State) : (returnBlock b s).sram = s.sram :=
  by
    cases b
    · rfl
    · simp only [returnBlock]; split <;> rfl
@[simp] theorem returnBlock_sound (b : Option Nat) (s : State) : (returnBlock b s).sound = s.sound :=
  by
    cases b
    · rfl
    · simp only [returnBlock]; split <;> rfl
@[simp] theorem returnBlock_saveAccess (b : Option Nat) (s : State) : (returnBlock b s).saveAccess = s.saveAccess :=
  by
    cases b
    · rfl
    · simp only [returnBlock]; split <;> rfl
@[simp] theorem returnBlock_engine (b : Option Nat) (s : State) : (returnBlock b s).engine = s.engine :=
  by
    cases b
    · rfl
    · simp only [returnBlock]; split <;> rfl
@[simp] theorem returnBlock_cal (b : Option Nat) (s : State) : (returnBlock b s).cal = s.cal :=
  by
    cases b
    · rfl
    · simp only [returnBlock]; split <;> rfl
@[simp] theorem returnBlock_crystal (b : Option Nat) (s : State) : (returnBlock b s).crystal = s.crystal :=
  by
    cases b
    · rfl
    · simp only [returnBlock]; split <;> rfl
@[simp] theorem returnBlock_cues (b : Option Nat) (s : State) : (returnBlock b s).cues = s.cues :=
  by
    cases b
    · rfl
    · simp only [returnBlock]; split <;> rfl
@[simp] theorem returnBlock_voices (b : Option Nat) (s : State) : (returnBlock b s).voices = s.voices :=
  by
    cases b
    · rfl
    · simp only [returnBlock]; split <;> rfl
@[simp] theorem returnBlock_mixer (b : Option Nat) (s : State) : (returnBlock b s).mixer = s.mixer :=
  by
    cases b
    · rfl
    · simp only [returnBlock]; split <;> rfl
@[simp] theorem returnBlock_tracks (b : Option Nat) (s : State) : (returnBlock b s).tracks = s.tracks :=
  by
    cases b
    · rfl
    · simp only [returnBlock]; split <;> rfl
@[simp] theorem returnBlock_frame (b : Option Nat) (s : State) : (returnBlock b s).frame = s.frame :=
  by
    cases b
    · rfl
    · simp only [returnBlock]; split <;> rfl
@[simp] theorem returnBlock_rumble (b : Option Nat) (s : State) : (returnBlock b s).rumble = s.rumble :=
  by
    cases b
    · rfl
    · simp only [returnBlock]; split <;> rfl
@[simp] theorem returnBlock_supply (b : Option Nat) (s : State) : (returnBlock b s).supply = s.supply :=
  by
    cases b
    · rfl
    · simp only [returnBlock]; split <;> rfl
@[simp] theorem returnBlock_cmd (b : Option Nat) (s : State) : (returnBlock b s).cmd = s.cmd :=
  by
    cases b
    · rfl
    · simp only [returnBlock]; split <;> rfl
@[simp] theorem returnBlock_cause (b : Option Nat) (s : State) : (returnBlock b s).cause = s.cause :=
  by
    cases b
    · rfl
    · simp only [returnBlock]; split <;> rfl
@[simp] theorem returnBlock_freeIndex (b : Option Nat) (s : State) : (returnBlock b s).freeIndex = s.freeIndex :=
  by
    cases b
    · rfl
    · simp only [returnBlock]; split <;> rfl
@[simp] theorem returnBlock_pending (b : Option Nat) (s : State) : (returnBlock b s).pending = s.pending :=
  by
    cases b
    · rfl
    · simp only [returnBlock]; split <;> rfl

end Sys2Proof.Laws
end

