-- ==== Sys2Proof/Laws/Operations.lean ====
section
/-! SUPPORT. What each shared operation can do, said once: taking a message, replies, fields of a message, the free pool,
the grant, kicks, notes and voices. -/

namespace Sys2Proof.Laws

open Sys2Proof.Machine Sys2Proof.Safety

/-! ## Taking a message -/

theorem canTake_of_ready {c : Instr} {rest : List Byte} {s : State} (h : Ready c rest s) : canTake s = true := by
  have := h.2.1
  simp [canTake, h.1, Config.replyRoom, Config.fifoSize]; omega

theorem takeMessage_of_ready {c : Instr} {rest : List Byte} {s : State} (h : Ready c rest s) :
    takeMessage (frameOf c) s = some (taken rest s) := by
  simp [takeMessage, canTake_of_ready h, messageStands, h.2.2, taken]

/-- A command whose message stands ready does its effect on the state with the message taken. -/
theorem command_of_ready {c : Instr} {rest : List Byte} {s : State} (h : Ready c rest s) (effect : State → State) :
    command c s effect = .next (effect (taken rest s)) := by
  simp [command, takeMessage_of_ready h]

/-- A command either leaves the state or does its effect on a state that differs in the command FIFO alone. -/
theorem command_cases (c : Instr) (s : State) (effect : State → State) :
    command c s effect = .next s ∨
      answered s = true ∧ ∃ rest, command c s effect = .next (effect (taken rest s)) := by
  unfold command takeMessage
  by_cases h : (canTake s && messageStands (frameOf c) s) = true
  · refine Or.inr ⟨?_, s.cmd.fifo.drop (frameOf c).length, ?_⟩
    · simp only [canTake, Bool.and_eq_true] at h; exact h.1.1
    · simp only [h, if_true]; rfl
  · simp only [h]; exact Or.inl rfl

theorem reply_eq_replied (st : ReplyStatus) (p : List Byte) (s : State) : reply st p s = replied st p s := rfl

theorem answer_eq_replied (st : ReplyStatus) (s : State) : answer st s = replied st [] s := rfl

/-! ## Fields of a message -/

theorem indexOf_eq_some {n : Nat} {b : Byte} {i : Fin n} : indexOf n b = some i ↔ b.toNat = i.val := by
  unfold indexOf; split <;> simp [Fin.ext_iff]; omega

theorem indexOf_eq_none {n : Nat} {b : Byte} : indexOf n b = none ↔ n ≤ b.toNat := by
  unfold indexOf; split <;> simp <;> omega

theorem boolOf_eq_none {b : Byte} : boolOf b = none ↔ 1 < b.toNat := by
  unfold boolOf
  split
  · simp_all
  · split
    · simp_all
    · simp only [true_iff]
      rename_i h0 h1
      have h0 : b.toNat ≠ 0 := fun h => h0 (BitVec.eq_of_toNat_eq h)
      have h1 : b.toNat ≠ 1 := fun h => h1 (BitVec.eq_of_toNat_eq h)
      omega

theorem boolOf_of_le {b : Byte} (h : b.toNat ≤ 1) : boolOf b = some (decide (b = 1)) := by
  rcases Nat.le_one_iff_eq_zero_or_eq_one.1 h with h | h
  · rw [show b = 0 from BitVec.eq_of_toNat_eq h]; decide
  · rw [show b = 1 from BitVec.eq_of_toNat_eq h]; decide

/-! ## Answered states -/

theorem answered_iff {s : State} :
    answered s = true ↔ (s.supply.monitor = .run ∨ s.supply.monitor = .warn) ∧ s.supply.crst = false := by
  simp [answered, powered]

theorem not_battery_of_powered {s : State} (h : powered s = true) : s.supply.monitor ≠ .battery := by
  intro hb; simp [powered, hb] at h

theorem powered_of_answered {s : State} (h : answered s = true) : powered s = true := by
  simp only [answered, Bool.and_eq_true] at h; exact h.1

/-- Reads and writes of the slot in an answered state. -/
theorem readAs_of_answered {s : State} (h : answered s = true) (addr : SlotAddr) (f : State → Byte × State) :
    readAs addr f s = drive addr (some (f s).1) (f s).2 := by
  simp [readAs, not_battery_of_powered (powered_of_answered h), h]

theorem writeAs_of_answered {s : State} (h : answered s = true) (addr : SlotAddr) (data : Byte) (f : State → State) :
    writeAs addr data f s = accept addr data (f s) := by
  simp [writeAs, not_battery_of_powered (powered_of_answered h), h]

/-! ## Fault flags and latches -/

/-- A fault flag's event changes the cause unit alone, in a way that depends on the cause unit alone. -/
theorem setFault_eq (f : FaultFlag) (s : State) :
    setFault f s = { s with cause := (setFault f s).cause } := by
  unfold setFault; split <;> rfl

theorem setFault_cause_congr (f : FaultFlag) {s t : State} (h : s.cause = t.cause) :
    (setFault f s).cause = (setFault f t).cause := by
  unfold setFault
  rw [show hasFault f s = hasFault f t by simp [hasFault, h], show enabled .fault s = enabled .fault t by
    simp [enabled, h]]
  split <;> simp [h]

theorem hasFault_setFault (f g : FaultFlag) (s : State) :
    hasFault g (setFault f s) = (decide (g = f) || hasFault g s) := by
  cases f <;> cases g <;> simp [hasFault, setFault, FaultFlag.bit] <;> split <;> simp_all

/-! ## The free pool -/

theorem mem_insertSorted {b c : Nat} {l : List Nat} : c ∈ insertSorted b l ↔ c = b ∨ c ∈ l := by
  induction l with
  | nil => simp [insertSorted]
  | cons d l ih =>
    simp only [insertSorted]
    split
    · simp
    · split
      · simp_all
      · simp only [List.mem_cons, ih]; tauto

theorem insertSorted_pairwise {b : Nat} {l : List Nat} (h : l.Pairwise (fun x y => x < y)) :
    (insertSorted b l).Pairwise (fun x y => x < y) := by
  induction l with
  | nil => simp [insertSorted]
  | cons d l ih =>
    obtain ⟨hd, hl⟩ := List.pairwise_cons.1 h
    simp only [insertSorted]
    split
    · refine List.pairwise_cons.2 ⟨fun x hx => ?_, h⟩
      rcases List.mem_cons.1 hx with rfl | hx
      · assumption
      · have := hd x hx; omega
    · split
      · exact h
      · refine List.pairwise_cons.2 ⟨fun x hx => ?_, ih hl⟩
        rcases mem_insertSorted.1 hx with rfl | hx
        · omega
        · exact hd x hx

/-- What a block's return leaves in the pool. -/
theorem mem_returnBlock_pool {o : Option Nat} {s : State} {b : Nat} :
    b ∈ (returnBlock o s).dir.pool ↔ b ∈ s.dir.pool ∨ o = some b ∧ b < s.profile.blocks := by
  cases o with
  | none => simp [returnBlock]
  | some c =>
    simp only [returnBlock]
    split
    · simp only [mem_insertSorted, Option.some.injEq]
      constructor
      · rintro (rfl | h)
        · exact Or.inr ⟨rfl, by assumption⟩
        · exact Or.inl h
      · rintro (h | ⟨rfl, -⟩)
        · exact Or.inr h
        · exact Or.inl rfl
    · simp only [Option.some.injEq]
      constructor
      · exact Or.inl
      · rintro (h | ⟨rfl, h⟩)
        · exact h
        · omega

@[simp] theorem returnBlock_slots (o : Option Nat) (s : State) : (returnBlock o s).dir.slots = s.dir.slots := by
  cases o with
  | none => rfl
  | some c => simp only [returnBlock]; split <;> rfl

@[simp] theorem returnBlock_protect (o : Option Nat) (s : State) : (returnBlock o s).dir.protect = s.dir.protect := by
  cases o with
  | none => rfl
  | some c => simp only [returnBlock]; split <;> rfl

@[simp] theorem returnBlock_windowOpen (o : Option Nat) (s : State) :
    (returnBlock o s).dir.windowOpen = s.dir.windowOpen := by
  cases o with
  | none => rfl
  | some c => simp only [returnBlock]; split <;> rfl

/-- A block's return changes the pool alone. -/
theorem returnBlock_eq (o : Option Nat) (s : State) :
    returnBlock o s = { s with dir := { s.dir with pool := (returnBlock o s).dir.pool } } := by
  cases o with
  | none => rfl
  | some c => simp only [returnBlock]; split <;> rfl

/-! ## The surge grant -/

/-- What the grant, a kick and a save operation can change: the directory, the engine, the supply watch, the drive. -/
abbrev SameBesidesGrant (t s : State) : Prop :=
  { t with dir := s.dir, engine := s.engine, supply := s.supply, rumble := s.rumble } = s

theorem SameBesidesGrant.trans {u t s : State} (h : SameBesidesGrant u t) (g : SameBesidesGrant t s) :
    SameBesidesGrant u s := by
  have : { u with dir := s.dir, engine := s.engine, supply := s.supply, rumble := s.rumble } =
      ({ ({ u with dir := t.dir, engine := t.engine, supply := t.supply, rumble := t.rumble } : State) with
          dir := s.dir, engine := s.engine, supply := s.supply, rumble := s.rumble } : State) := rfl
  unfold SameBesidesGrant
  rw [this, h, g]

theorem returnBlock_same (o : Option Nat) (s : State) : SameBesidesGrant (returnBlock o s) s := by
  cases o with
  | none => rfl
  | some c => simp only [returnBlock]; split <;> rfl

theorem offerKicker_same (s : State) : SameBesidesGrant (offerKicker s) s := by
  unfold offerKicker; split <;> rfl

theorem setHolder_same (h : SurgeHolder) (s : State) : SameBesidesGrant (setHolder h s) s := rfl

theorem commitFlip_same (n : SlotNo) (s : State) : SameBesidesGrant (commitFlip n s) s :=
  (returnBlock_same _ _).trans rfl

theorem giveEngine_same (s : State) : SameBesidesGrant (giveEngine s) s := by
  unfold giveEngine
  simp only
  split
  · split
    · exact (offerKicker_same _).trans ((setHolder_same _ _).trans ((commitFlip_same _ _).trans rfl))
    all_goals rfl
  · rfl

/-- Releasing the grant changes no more than the directory, the engine, the supply watch and the drive. -/
theorem releaseGrant_same (s : State) : SameBesidesGrant (releaseGrant s) s := by
  unfold releaseGrant
  simp only
  split
  · exact (giveEngine_same _).trans rfl
  · exact (offerKicker_same _).trans rfl

/-- The end of a kick changes no more than that. -/
theorem endKick_same (s : State) : SameBesidesGrant (endKick s) s := by
  unfold endKick
  split
  · split
    · rfl
    · rfl
    · split
      · exact (releaseGrant_same _).trans rfl
      · rfl
  · rfl

/-! ## The order of ticks -/

theorem insertAt_perm {α : Type} (a : α) (n : Nat) (l : List α) : (insertAt a n l).Perm (a :: l) := by
  induction n generalizing l with
  | zero => rfl
  | succ n ih =>
    cases l with
    | nil => rfl
    | cons b l => exact ((ih l).cons b).trans (List.Perm.swap a b l)

/-- The ticks of an edge are taken each once, in some order. -/
theorem rearrange_perm {α : Type} (n : Nat) (l : List α) : (rearrange n l).Perm l := by
  induction l generalizing n with
  | nil => rfl
  | cons a l ih => exact (insertAt_perm a _ _).trans ((ih _).cons a)

/-! ## Voices -/

theorem getElem_setVoice (n m : VoiceNo) (v : Voice) (s : State) :
    (setVoice n v s).voices[m] = if m = n then v else s.voices[m] := by
  simp only [setVoice, Fin.getElem_fin, Vector.getElem_set]
  split <;> split <;> simp_all [Fin.ext_iff]

/-- A replaced voice, with the grant that an IDLE one loses: nothing else changes. -/
theorem putVoice_eq (n : VoiceNo) (v : Voice) (s : State) :
    putVoice n v s = { s with voices := s.voices.set n.val v n.isLt, port := (putVoice n v s).port } := by
  unfold putVoice; split <;> rfl

theorem putVoice_grant (n : VoiceNo) (v : Voice) (s : State) (h : v.phase = .idle) :
    ∀ g ∈ (putVoice n v s).port.grant, g.holder ≠ .voice n := by
  intro g hg
  simp [putVoice, h, endGrant] at hg
  exact hg.2

end Sys2Proof.Laws
end

