-- ==== Sys2Proof/Tests/Slice0.lean ====
section
/-! SUPPORT. Tests: ill-formed terms that the checks refuse, messages written out from chapter 10 and their commands, the
manual's worked examples, and for each statement of Obligations.lean with hypotheses a state that meets them. Expected
values are the manual's or computed by hand from its rules, never the model's own. -/

namespace Sys2Proof.Tests

open Sys2Proof Sys2Proof.Machine Sys2Proof.Safety

set_option synthInstance.maxSize 1000
set_option synthInstance.maxHeartbeats 400000

/-! ## States the tests start from -/

/-- RUN with 4 ROM pages, 16 save blocks and a motor (straps ST3, ST4 and ST5 high), every slot EMPTY. -/
def lit : State :=
  { State.reset with
    profile := ⟨0, 16, true, false, 0b111000, .consolePowerUp⟩,
    dir := { State.reset.dir with pool := List.range 16, windowOpen := true },
    mixer := ⟨16, some 512⟩,
    rumble := .initial false (some false),
    supply := { State.reset.supply with monitor := .run, startTimer := 50, attachMark := false } }

/-- The state under another monitor state. -/
def underMonitor (m : Monitor) (s : State) : State := { s with supply := { s.supply with monitor := m } }

/-- The state with a command's message and one byte behind it in the command FIFO. -/
def told (c : Instr) (s : State) : State := { s with cmd := { s.cmd with fifo := frameOf c ++ [0x55] } }

/-- A VALID slot with a current block. -/
def validOn (b : Nat) : SlotRecord :=
  { SlotRecord.attached with state := .valid, current := some b, generation := 1, stored := some ⟨69, 159⟩,
                             stamp := some ⟨9000, 86100, false⟩ }

/-- A slot with a working block, in one of the three states that have one. -/
def workingOn (st : SlotState) (b : Nat) (c : Check) : SlotRecord :=
  { SlotRecord.attached with state := st, working := some b, workCheck := some c }

/-- A voice in a phase of a WAVE note with release step 15, for an owner. -/
def sounding (o : Owner) (p : Phase) : Voice :=
  { Voice.initial with owner := o, phase := p, env := 60, volume := 15, snapshot := { Snapshot.zero with release := 15 } }

/-- A running track whose first event waits one tick more, with a MARKER behind it. -/
def runningTrack (e : Event) : Track :=
  { Track.initial with state := .running, wait := some 1, buffer := [e, ⟨255, 9, 0, 0, 7⟩], nextAddr := 0x020000,
                       fetchAddr := 0x02000C, mask := 1 }

/-- Track 0 runs with an event, its voice 0 at home with it. -/
def sequencing (e : Event) : State :=
  setTrack 0 (runningTrack e)
    (setVoice 0 { sounding (.track 0) .sustain with home := some 0 } lit)

/-- A pattern of two drive steps, the second the last. -/
def twoSteps (rep : Repeat) : Pattern := ⟨rep, [⟨.drive 15, 4⟩, ⟨.drive 3, 255⟩]⟩

/-- An active request of priority 1 for pattern 2, on a step of that pattern. -/
def shaking (rep : Repeat) (a : Active) (s : State) : State :=
  { s with rumble := { s.rumble with patterns := s.rumble.patterns.set 2 (twoSteps rep), active := some a, zeroRun := 0 } }

/-- The request that `shaking` is about. -/
def requestTwo : Request := ⟨2, 1, 20, .console⟩

/-- The map entry that an address falls on. -/
def entryAt (addr : SlotAddr) (s : State) : MapEntry := s.map[addr.toNat / 65536]'(by have := addr.isLt; omega)

/-- A map with every kind of entry: ROM, UNMAPPED, slot 7, SAVE_RAW, SOUND_RAM writable and not, slot 2 writable and not. -/
def mapped (s : State) : State :=
  { s with map := #v[⟨.rom, 3, false⟩, ⟨.unmapped, 0, false⟩, ⟨.saveSlot, 7, false⟩, ⟨.saveRaw, 0, false⟩,
                     ⟨.soundRam, 0, true⟩, ⟨.soundRam, 0, false⟩, ⟨.saveSlot, 2, true⟩, ⟨.saveSlot, 2, false⟩,
                     ⟨.rom, 0, false⟩, ⟨.rom, 1, false⟩, ⟨.rom, 2, false⟩, ⟨.rom, 3, false⟩,
                     ⟨.rom, 0, false⟩, ⟨.rom, 1, false⟩, ⟨.rom, 2, false⟩, ⟨.rom, 3, false⟩] }

/-- The state that an outcome gives, or the one given where it gives none. -/
def after (o : Host.Outcome State Fault Refusal) (s : State) : State :=
  match o with
  | .next t => t
  | .fault _ => s
  | .refused _ => s

/-- The state after a command's message has been taken. -/
def answeredWith (c : Instr) (s : State) : State := after (exec c (told c s)) s

/-! ## Ill-formed terms -/

theorem test_wellFormed_refuses_reads_in_the_aperture : (Instr.consoleRead 0xFFF00).wellFormed = false := by decide
theorem test_wellFormed_takes_the_last_map_address : (Instr.consoleRead 0xFFEFF).wellFormed = true := by decide
theorem test_wellFormed_refuses_writes_in_the_aperture : (Instr.consoleWrite 0xFFFFF 0).wellFormed = false := by decide
theorem test_wellFormed_refuses_ignored_write_to_cmd : (Instr.apertureIgnoredWrite 0 1).wellFormed = false := by decide
theorem test_wellFormed_refuses_ignored_write_to_status : (Instr.apertureIgnoredWrite 2 1).wellFormed = false := by decide
theorem test_wellFormed_refuses_unframed_message : (Instr.messageRefused [0x01, 2, 0, 0]).wellFormed = false := by decide
theorem test_wellFormed_refuses_message_above_the_fifo :
    (Instr.messageRefused (0x01 :: 33 :: List.replicate 63 0)).wellFormed = false := by decide
theorem test_wellFormed_refuses_sixteen_steps :
    (Instr.patternLoad 0 0 (List.replicate 16 (1, 1))).wellFormed = false := by decide

/-! ## Messages written out from R164 and R171: code, length, payload, check -/

theorem test_slotOpen_is_11_01_02_EC : frameOf (.slotOpen 2) = [0x11, 0x01, 0x02, 0xEC] := by decide
theorem test_mapSet_message : decodeMessage 0x01 [6, 2, 2, 1] = some (.mapSet 6 2 2 1) := by decide
theorem test_faultClear_low_byte_first : decodeMessage 0x0A [0x34, 0x02] = some (.faultClear 0x0234) := by decide
theorem test_clockSet_message :
    decodeMessage 0x21 [0xE8, 0x07, 8, 25, 0, 4, 10] = some (.clockSet 2024 8 25 0 4 10) := by decide
theorem test_voicePlay_message : decodeMessage 0x30 [2, 5, 0xC0, 0x0D, 12] = some (.voicePlay 2 5 3520 12) := by decide
theorem test_trackStart_message :
    decodeMessage 0x38 [0, 0x00, 0x00, 0x02, 1, 0, 0x00, 0x02] = some (.trackStart 0 0x020000 1 0 512) := by decide
theorem test_patternLoad_message :
    decodeMessage 0x43 [2, 1, 15, 4, 0xFF, 2] = some (.patternLoad 2 1 [(15, 4), (0xFF, 2)]) := by decide
theorem test_patternLoad_takes_no_odd_length : acceptsLength 0x43 5 = false := by decide
theorem test_code_03_is_unknown : knownCode 0x03 = false := by decide

/-! ## The manual's worked examples -/

/-- 1.13: entry 3 SOUND_RAM not writable, entry 6 SAVE_SLOT 2 writable. -/
def refusing : State := { mapped lit with map := ((mapped lit).map.set 3 ⟨.soundRam, 0, false⟩) }

theorem test_refused_write_is_recorded :
    (after (exec (.consoleWrite 0x31234 0x5A) refusing) lit).cause.record = some ⟨3, 0x1234, true, .entryReadOnly⟩ := by
  decide
theorem test_read_beyond_the_slot_view :
    let t := after (exec (.consoleRead 0x63000) refusing) lit
    t.cause.record = some ⟨6, 0x3000, false, .beyondTarget⟩ ∧ hasFault .range t = true ∧
      t.slot.last = some ⟨0x63000, false, some 0xFF⟩ := by decide

/-- 2.6: slot 3's check as three writes change its block. -/
theorem test_check_through_three_writes :
    (⟨69, 159⟩ : Check).replace 0 0xFF 0x00 = ⟨65, 90⟩ ∧ (⟨65, 90⟩ : Check).replace 4095 0xFF 0x41 = ⟨126, 151⟩ ∧
      (⟨126, 151⟩ : Check).replace 0 0x00 0x00 = ⟨126, 151⟩ := by decide

/-- 2.7: slot 0 VALID on block 2, slot 4 on block 0, the pool 1, 3, 4, 5, 6, 7. -/
def twoSlots : State :=
  let s := setSlot 0 { validOn 2 with generation := 11, stored := some ⟨37, 204⟩ } (setSlot 4 (validOn 0) lit)
  { s with profile := { s.profile with blocks := 8 }, dir := { s.dir with pool := [1, 3, 4, 5, 6, 7] } }

theorem test_open_takes_the_lowest_block :
    let t := answeredWith (.slotOpen 0) twoSlots
    t.dir.slots[0].state = .opening ∧ t.dir.slots[0].current = some 2 ∧ t.dir.slots[0].working = some 1 ∧
      t.dir.pool = [3, 4, 5, 6, 7] ∧ t.dir.windowOpen = false := by decide

theorem test_commit_flip :
    let s := setSlot 0 { validOn 2 with state := .committing, working := some 1, workCheck := some ⟨1, 2⟩, generation := 11 }
      { twoSlots with engine := ⟨[⟨.commit, 0⟩], none, 8⟩, dir := { twoSlots.dir with pool := [3, 4, 5, 6, 7] } }
    let t := after (exec .engineStart s) s
    t.dir.slots[0].state = .valid ∧ t.dir.slots[0].current = some 1 ∧ t.dir.slots[0].generation = 12 ∧
      t.dir.pool = [2, 3, 4, 5, 6, 7] := by decide

/-- 2.3: the pool rebuilt around slots 0, 1 and 5 on blocks 4, 9 and 0. -/
theorem test_power_up_rebuilds_the_pool :
    let s := setSlot 0 (validOn 4) (setSlot 1 (validOn 9) (setSlot 5 (validOn 0) (underMonitor .starting State.reset)))
    (after (exec (.consolePowerUp 0b111000) s) s).dir.pool = [1, 2, 3, 5, 6, 7, 8, 10, 11, 12, 13, 14, 15] := by decide

/-- 4.9: the second from 86340 with T = -3 ends at its edge 32771, and the next second is 86341. -/
theorem test_trim_second_ends_at_its_third_extra_edge :
    let c : Calendar := { Calendar.attached with day := 9000, sec := 86340, trim := -3, prescaler := 32767, extension := 2 }
    c.endsSecond = false ∧ c.countEdge.endsSecond = true ∧ c.countEdge.extension = 3 := by decide
theorem test_second_tick_carries_the_day :
    let s := { lit with cal := { lit.cal with day := 9000, sec := 86399 } }
    (after (exec .secondTick s) s).cal.day = 9001 ∧ (after (exec .secondTick s) s).cal.sec = 0 := by decide

/-- 4.10: the absence of 172700 seconds, DOUBT set, and a save three days old. -/
def away : State :=
  { lit with cal := { lit.cal with day := 9003, sec := 200, down := some ⟨9001, 300⟩, up := some ⟨9003, 200⟩ } }

theorem test_absence_is_172700_seconds :
    (answeredWith .absence away).cmd.reply.drop 14 = [0x9C, 0xA2, 0x02, 1, 0, 1, 0x1B] := by decide
theorem test_save_is_three_days_old :
    (answeredWith (.daysSince 2) (setSlot 2 (validOn 0) away)).cmd.reply = [0x00, 3, 3, 0, 1, 0xF9] := by decide

/-- 4.11: the dates at the edges. -/
theorem test_dates_at_the_edges :
    dayNumber 2100 3 1 = 36584 ∧ validDate 2100 2 29 = false ∧ validDate 2179 6 7 = false ∧
      dayNumber 2179 6 6 = 65535 ∧ dayNumber 2024 8 22 = 9000 := by decide
theorem test_date_of_9001 :
    let p := dateParts 9001
    p.year = 2024 ∧ p.month = 8 ∧ p.day = 23 ∧ p.weekday = 5 ∧ p.dayOfYear = 235 := by decide

/-- 5.7: the tick to D 9003, S 28800 with cues 0, 2, 5 and 6 armed, voice 5 at home with track 1. -/
def fourCues : State :=
  let play : CueSound := ⟨2, 3520, 10, 32⟩
  let s := setVoice 5 { Voice.initial with home := some 1, owner := .track 1 } lit
  { s with
    cal := { s.cal with day := 9003, sec := 28799 },
    rumble := { s.rumble with patterns := s.rumble.patterns.set 3 (twoSteps .once), zeroRun := 0 },
    cues := (((s.cues.set 0 ⟨.daily 28800, true, true, some play, none, 4, false, false⟩).set 2
      ⟨.every 600 1, true, false, some ⟨5, 1760, 8, 64⟩, some ⟨3, 1⟩, 17, false, false⟩).set 5
      ⟨.once 9003 28800, true, true, none, none, 0, false, false⟩).set 6
      ⟨.dayroll, true, true, none, none, 2, true, false⟩ }

theorem test_four_cues_at_one_tick :
    let t := after (exec .secondTick fourCues) lit
    (t.cues[0].count, t.cues[0].pending) = (5, true) ∧
    (t.cues[2].count, t.cues[2].trigger, t.cues[2].pending) = (18, .every 600 600, false) ∧
    (t.cues[5].count, t.cues[5].armed, t.cues[5].pending) = (1, false, true) ∧
    (t.cues[6].count, t.cues[6].pending) = (2, true) := by decide
theorem test_four_cues_actions :
    let t := after (exec .secondTick fourCues) lit
    (t.voices[5].owner, t.voices[5].noteInstrument, t.voices[5].increment, t.voices[5].hold) =
      (.cue, 2, 3520, some 32) ∧
    t.rumble.active.map (fun a => a.request) = some ⟨3, 1, 64, .cue⟩ := by decide

/-- 6.12: the mix at one sample, its mirror, and a clamp. -/
theorem test_mix_at_one_sample :
    let v : Voice := { Voice.initial with phase := .sustain }
    ({ v with env := 127, volume := 12 }.contribution 100, { v with env := 64, volume := 15 }.contribution (-60),
      { v with env := 5, volume := 3 }.contribution (-7)) = (1190, -450, -1) ∧
    (dacCode (mixScale 739 16), dacCode (mixScale (-741) 16), dacCode (mixScale 2400 16), dacCode (mixScale 2400 8)) =
      (696, 326, 1023, 812) ∧
    (clips (mixScale 2400 16), clips (mixScale 2400 8)) = (true, false) := by decide

/-- 6.13: the note's envelope at ticks 7 and 14, and the end of its release. -/
theorem test_envelope_of_a_note :
    let p : Snapshot := { Snapshot.zero with attack := 20, decay := 10, sustain := 60, release := 15 }
    let v : Voice := { Voice.initial with snapshot := p, owner := .console, phase := .attack }
    let t7 := Voice.envelope^[7] v
    let t14 := Voice.envelope^[7] t7
    let gone := Voice.envelope^[4] t14.releaseRequest
    (t7.phase, t7.env, t14.phase, t14.env, gone.phase, gone.env, gone.owner) =
      (.decay, 127, .sustain, 60, .idle, 0, .none) := by decide

/-- 6.14: sample 7 of the looped stream, and the underrun at sample 6. -/
theorem test_looped_stream :
    let p : Snapshot := { Snapshot.zero with mode := .stream, length := 10, loop := 4 }
    let v : Voice := { Voice.initial with phase := .sustain, snapshot := p, increment := 6144, primed := true, last := 36 }
    let s7 := { v with position := 9, buffer := [39, 36, 37] }.sampleStream
    let under := { v with position := 7, fraction := 2048, buffer := [37] }.sampleStream
    (s7.x, s7.voice.position, s7.voice.fraction, s7.voice.buffer) = (39, 6, 2048, [36, 37]) ∧
    (under.x, under.voice.position, under.voice.fraction, under.voice.buffer, under.underrun) =
      (36, 7, 2048, [37], true) := by decide

/-- R109 by hand: from 32767 the two low bits agree, so a 0 comes in at the top; from 2 they differ. -/
theorem test_lfsr_steps :
    (lfsrStep .noiseLong 32767, lfsrStep .noiseLong 2, lfsrStep .noiseShort 127, lfsrStep .noiseShort 2) =
      (16383, 16385, 63, 65) := by decide

/-- 7.8: the BACK at count 1 jumps, the BACK at count 0 removes the mark. -/
def backing (remaining : Nat) : State :=
  let s := sequencing ⟨8, 8, 0, 0, 0⟩
  setTrack 0 { s.tracks[0] with loopMark := some ⟨0x020012, remaining, false⟩ } s

theorem test_back_jumps_while_it_counts :
    let t := (after (exec (.backEvent 0) (backing 1)) lit).tracks[0]
    (t.state, t.nextAddr, t.fetchAddr, t.loopMark, t.buffer) =
      (.waiting, 0x020012, 0x020012, some ⟨0x020012, 0, false⟩, []) := by decide
theorem test_back_at_zero_removes_the_mark :
    let t := (after (exec (.backEvent 0) (backing 0)) lit).tracks[0]
    (t.state, t.loopMark, t.buffer.length, t.wait) = (.running, none, 1, some 255) := by decide

/-- 7.9: the strobe at 1273 gives the period 273, and the returning strobe at 2500 gives none. -/
theorem test_strobe_period :
    let s := { lit with frame := { lit.frame with counter := 1273, last := some 1000, state := .present } }
    (after (exec .frmStrobe s) s).frame.period = some 273 := by decide
theorem test_returning_strobe_keeps_the_period :
    let s := { lit with frame := { lit.frame with counter := 2500, last := some 1273, period := some 273, state := .lost } }
    let t := (after (exec .frmStrobe s) s).frame
    (t.state, t.period, t.last) = (.present, some 273, some 2500) := by decide

/-- 8.13: RUMBLE PLAY kicks a stopped motor, and the third tick gives heat 719 and ends the kick. -/
def kickPattern : State :=
  { lit with rumble := { lit.rumble with patterns := lit.rumble.patterns.set 2 ⟨.loop, [⟨.drive 15, 4⟩, ⟨.brake, 2⟩]⟩ } }

theorem test_play_kicks_a_stopped_motor :
    let t := answeredWith (.rumblePlay 2 1 20) kickPattern
    (t.rumble.active, t.supply.holder, effectiveLevel t) =
      (some ⟨⟨2, 1, 20, .console⟩, 0, 4, 20, .kicking 3⟩, .kicker, 16) := by decide
theorem test_kick_ends_at_its_third_tick :
    let s := { kickPattern with
      rumble := { kickPattern.rumble with heat := 480, zeroRun := 0, active := some ⟨⟨2, 1, 20, .console⟩, 0, 2, 18, .kicking 1⟩ },
      supply := { kickPattern.supply with holder := .kicker } }
    let t := after (exec .kickEnd s) s
    (t.rumble.heat, t.supply.holder, t.rumble.active, effectiveLevel t) =
      (719, .none, some ⟨⟨2, 1, 20, .console⟩, 0, 1, 17, .none⟩, 15) := by decide

/-- R147 by hand: a request stands on a drive step in WARN; the warning ends after its eighth tick, or after its seventh. -/
def warned (ticks : Nat) : State :=
  let s := shaking .loop ⟨⟨2, 1, 20, .console⟩, 0, 4, 20, .none⟩ lit
  { s with rumble := { s.rumble with zeroRun := ticks, warnTicks := ticks } }

theorem test_kick_after_a_warning_of_eight_ticks :
    let t := after (exec .rumbleTick (warned 8)) lit
    let u := after (exec .rumbleTick (warned 7)) lit
    (t.rumble.active.map (fun a => a.kick), t.supply.holder) = (some (.kicking 3), .kicker) ∧
    (u.rumble.active.map (fun a => a.kick), u.supply.holder) = (some .none, .none) := by decide

/-- 9: the fall below VW cuts the kick and lets the waiting COMMIT of slot 4 flip. -/
def brownOut : State :=
  let s := setSlot 4 { validOn 5 with state := .committing, working := some 11, workCheck := some ⟨140, 22⟩, generation := 30 }
    (shaking .once ⟨requestTwo, 0, 4, 18, .kicking 2⟩ lit)
  { s with engine := ⟨[⟨.open, 7⟩], some ⟨.commit, 4, .grantWait, 0, ⟨0, 0⟩, false⟩, 8⟩,
           supply := { s.supply with holder := .kicker, engineReq := true } }

theorem test_brown_out_lets_the_commit_flip :
    let t := after (exec .warnEntry brownOut) lit
    (t.supply.monitor, t.supply.holder, t.supply.engineReq, t.dir.slots[4].current, t.dir.slots[4].generation,
      t.dir.slots[4].stored) = (.warn, .none, false, some 11, 31, some ⟨140, 22⟩) := by decide

/-- 11: FAULT, SAVE and WARN enabled, the FAULT latch, slot 2's done flag and WARN pending. -/
def interrupting : State :=
  let s := setSlot 2 { validOn 0 with done := true } (underMonitor .warn lit)
  { s with cause := { s.cause with enables := 0b1001001, latches := { s.cause.latches with fault := true } } }

theorem test_cause_reads_in_order :
    let t := after (exec .causeRead interrupting) lit
    let u := after (exec .causeRead t) lit
    let v := after (exec .causeRead u) lit
    (t.slot.last.map (fun x => x.data), u.slot.last.map (fun x => x.data), v.slot.last.map (fun x => x.data)) =
      (some (some 0x01), some (some 0x12), some (some 0x40)) ∧ firstCause v = some .warn := by decide

/-- 1.12: voice 4 with 3 bytes goes before voice 1 with 8 and before track 0; its fourth byte ends the grant. -/
def contending : State :=
  let streaming := fun n : Nat => { sounding .console .sustain with
    buffer := List.replicate n 0, fetch := n, snapshot := { Snapshot.zero with mode := .stream, length := 5000 } }
  setVoice 1 (streaming 8) (setVoice 4 (streaming 3) (sequencing ⟨8, 4, 0, 0, 0⟩))

theorem test_voice_with_fewest_bytes_is_granted :
    (after (exec .romArbitration contending) lit).port.grant = some ⟨.voice 4, 0, true⟩ := by decide
theorem test_fourth_byte_ends_the_grant :
    let s := { contending with port := { contending.port with grant := some ⟨.voice 4, 3, true⟩ } }
    let t := after (exec .romByteRead s) s
    (t.port.grant, t.voices[4].buffer.length) = (none, 4) := by decide

/-- R45 by hand: a COMMIT accepted on an idle engine starts, and so flips, before the SOFT RESET behind it is taken. -/
theorem test_commit_starts_before_the_next_message :
    let s := setSlot 7 (workingOn .committing 1 ⟨1, 1⟩) lit
    let queued := told .softReset { s with engine := ⟨[⟨.commit, 7⟩], none, 8⟩ }
    let t := after (step queued) lit
    (t.dir.slots[7].state, t.dir.slots[7].current, t.cmd.fifo) = (.valid, some 1, frameOf .softReset ++ [0x55]) := by decide

/-- R159 by hand: a lost domain has its cell at 0 V, so the sense becomes true in the next domain, after the filter. -/
theorem test_absent_cell_is_sensed :
    let t := after (exec .batteryDomainInvalid State.reset) lit
    let u := after (exec .vconRise t) lit
    let v := after (exec .batlowSenseSet u) lit
    (t.supply.vbatLow, u.supply.vbatLow, u.supply.batlowSense, v.supply.batlowSense) = (true, true, false, true) := by decide

/-! ## Statements about every step: states that have the property, with a step to take -/

/-- Saves of every kind under way: slot 1 OPEN, slot 2 ERASING in FILL under the grant, slot 3 COMMITTING and slot 6
OPENING in the queue, slot 4 VALID with a VERIFY queued, slot 5 VALID out of profile. -/
def saving : State :=
  let s := setSlot 1 (workingOn .opened 1 ⟨69, 159⟩) (setSlot 2 { validOn 2 with state := .erasing }
    (setSlot 3 (workingOn .committing 3 ⟨1, 250⟩) (setSlot 4 { validOn 4 with verifyPending := true }
      (setSlot 5 (validOn 15) (setSlot 6 (workingOn .opening 6 ⟨0, 0⟩) lit)))))
  { s with
    profile := { s.profile with blocks := 8 },
    dir := { s.dir with pool := [0, 5, 7] },
    engine := ⟨[⟨.commit, 3⟩, ⟨.open, 6⟩, ⟨.verify, 4⟩], some ⟨.erase, 2, .fill, 4095, ⟨0, 0⟩, false⟩, 8⟩,
    supply := { s.supply with holder := .engine },
    sram := [(8192, 0), (65535, 1)],
    pending := [.engineByteAccess] }

/-- A step that is a command at the front of the queue answers, so that the premise of a kept property can hold. -/
theorem test_saving_steps : ∃ t, step saving = .next t := ⟨_, rfl⟩
theorem test_witness_MemoriesAndMap : MemoryKept saving ∧ MapKept (mapped saving) := by decide
theorem test_witness_QueuesStayInBounds : BoundsKept saving := by decide
theorem test_witness_GrantRule : GrantKept saving := by decide
theorem test_witness_SaveBlocks_slots :
    ProfileLegal saving ∧ stageFits saving = true ∧ (∀ n : SlotNo, SlotLegal saving.dir.slots[n]) := by decide
theorem test_witness_SaveBlocks_blocks : BlocksKept saving := by decide
theorem test_witness_SaveBlocks_engine : EngineKept saving := by decide
theorem test_witness_SaveBlocks_inside : WorkingInside saving := by decide
theorem test_witness_SaveBlocksAreAccounted : DirectoryKept saving :=
  ⟨test_witness_SaveBlocks_slots.1, test_witness_SaveBlocks_slots.2.1, test_witness_SaveBlocks_slots.2.2,
    test_witness_SaveBlocks_blocks, test_witness_SaveBlocks_engine, test_witness_SaveBlocks_inside⟩

/-- An OPEN queued and an OPEN in flight at position 1, its running check that of the byte it filled. -/
def opening : State :=
  let s := setSlot 1 (workingOn .opening 1 ⟨4, 69⟩) (setSlot 6 (workingOn .opening 6 ⟨0, 0⟩) lit)
  { s with dir := { s.dir with pool := [0, 2, 3, 4, 5] ++ (List.range 9).map (· + 7) },
           engine := ⟨[⟨.open, 6⟩], some ⟨.open, 1, .fill, 1, ⟨4, 69⟩, false⟩, 8⟩ }

theorem test_witness_WorkingChecks_memory : MemoryKept opening := by decide
theorem test_witness_WorkingChecks_slots :
    ProfileLegal opening ∧ stageFits opening = true ∧ (∀ n : SlotNo, SlotLegal opening.dir.slots[n]) := by decide
theorem test_witness_WorkingChecks_blocks : BlocksKept opening := by decide
theorem test_witness_WorkingChecks_engine : EngineKept opening := by decide
theorem test_witness_WorkingChecks_inside : WorkingInside opening := by decide
theorem test_witness_WorkingChecks_checks : ChecksTrue opening := by decide
theorem test_witness_WorkingChecksStayTrue : SavesKept opening :=
  ⟨test_witness_WorkingChecks_memory, ⟨test_witness_WorkingChecks_slots.1, test_witness_WorkingChecks_slots.2.1,
    test_witness_WorkingChecks_slots.2.2, test_witness_WorkingChecks_blocks, test_witness_WorkingChecks_engine,
    test_witness_WorkingChecks_inside⟩, test_witness_WorkingChecks_checks⟩

/-- Sound at work: track 0 runs, voice 5 holds a cue note, voice 4 a STREAM note under a ROM grant. -/
def playing : State :=
  let stream := { sounding .console .attack with
    buffer := List.replicate 15 0, fetch := 15, snapshot := { Snapshot.zero with mode := .stream, length := 16 } }
  let s := setVoice 4 stream (setVoice 5 { sounding .cue .sustain with hold := some 255 } (sequencing ⟨8, 4, 0, 0, 0⟩))
  { s with port := { s.port with grant := some ⟨.voice 4, 3, true⟩ },
           cal := { s.cal with day := 65535, sec := 86399, atEnd := true },
           frame := { s.frame with period := some 1638, silence := 3275, state := .present, last := some 0 },
           cause := { s.cause with enables := 1, latches := { s.cause.latches with fault := true } },
           mixer := ⟨0, some 1023⟩, pending := [.sampleClock] }

theorem test_playing_steps : ∃ t, step playing = .next t := ⟨_, rfl⟩
theorem test_witness_TimeFramesAndLatches : CalendarKept playing ∧ FrameKept playing ∧ LatchesKept playing := by decide
theorem test_witness_TracksAndHomes : TracksKept playing ∧ HomesKept playing := by decide
theorem test_witness_Voices_all : ∀ n : VoiceNo, VoiceLegal n playing.voices[n] := by decide
theorem test_witness_Voices_cues : CuesKept playing := by decide
theorem test_witness_VoicesStayInRange : VoicesKept playing :=
  ⟨by decide, test_witness_TracksAndHomes.2, test_witness_Voices_cues, test_witness_Voices_all, by decide, by decide,
    by decide, by decide⟩

/-- A drive with an active request and a full queue. -/
def rumbling : State :=
  let s := shaking .loop ⟨requestTwo, 1, 255, 255, .none⟩ lit
  { s with rumble := { s.rumble with queue := [⟨2, 1, 255, .cue⟩, ⟨2, 1, 1, .console⟩, ⟨2, 0, 9, .console⟩, ⟨2, 0, 9, .cue⟩] },
           pending := [.rumbleTick] }

theorem test_rumbling_steps : ∃ t, step rumbling = .next t := ⟨_, rfl⟩
theorem test_witness_Rumble_patterns : ∀ i : Fin 16, PatternLegal rumbling.rumble.patterns[i] := by decide
theorem test_witness_Rumble_cues : CuesKept rumbling := by decide
theorem test_witness_Rumble_queue :
    rumbling.rumble.queue.length ≤ 4 ∧ rumbling.rumble.queue.Pairwise (fun a b => b.priority ≤ a.priority) ∧
      (∀ r ∈ rumbling.rumble.queue, RequestLegal rumbling r) := by decide
theorem test_witness_Rumble_active :
    ∀ a ∈ rumbling.rumble.active, ActiveLegal rumbling a ∧ ∀ r ∈ rumbling.rumble.queue, r.priority ≤ a.request.priority := by
  decide
theorem test_witness_RumbleStaysInRange : RumbleKept rumbling :=
  ⟨by decide, test_witness_Rumble_patterns, test_witness_Rumble_cues, test_witness_Rumble_queue.1,
    test_witness_Rumble_queue.2.1, test_witness_Rumble_queue.2.2, by decide, test_witness_Rumble_active, by decide, by decide,
    by decide, by decide, by decide, by decide, by decide⟩

/-! ## Statements about slot transactions: for each clause a state and operands that meet its hypotheses -/

/-- RUN under /CRST. -/
def held : State := { lit with supply := { lit.supply with crst := true } }

theorem test_witness_SlotAnsweredByMonitorState :
    State.reset.supply.monitor = .battery ∧ (underMonitor .starting State.reset).supply.monitor = .starting ∧
      held.supply.monitor ≠ .battery ∧ held.supply.crst = true := by decide

/-- The same map under a ROM grant. -/
def granting : State := { mapped lit with port := ⟨some ⟨.voice 5, 3, true⟩, #v[[1, 2, 3, 4, 5], []]⟩ }

/-- The same map under 8 save blocks. -/
def mappedSmall : State := { mapped lit with profile := { lit.profile with blocks := 8 } }

theorem test_witness_MapReadsReachTheirTarget :
    (MapKept (mapped lit) ∧ answered (mapped lit) = true ∧ MapKept mappedSmall ∧ answered mappedSmall = true) ∧
    (entryAt 0x1FFFF (mapped lit)).kind = .unmapped ∧ (entryAt 0x0FFFF (mapped lit)).kind = .rom ∧
    (entryAt 0xFFEFF (mapped lit)).kind = .rom ∧ (0xFFEFF : SlotAddr).toNat < 0xFFF00 ∧ (mapped lit).port.grant = none ∧
    (entryAt 0x4FFFF (mapped lit)).kind = .soundRam ∧
    ((entryAt 0x3FFFF (mapped lit)).kind = .saveRaw ∧ 0xFFFF / 4096 < (mapped lit).profile.blocks) ∧
    ((entryAt 0x38000 mappedSmall).kind = .saveRaw ∧ mappedSmall.profile.blocks ≤ 0x8000 / 4096) ∧
    (MapKept granting ∧ answered granting = true ∧ (entryAt 0x00000 granting).kind = .rom ∧ granting.port.grant.isSome = true) := by
  decide

theorem test_witness_SlotViewReadsByState :
    answered (mapped lit) = true ∧ (0x60FFF : SlotAddr).toNat < 0xFFF00 ∧ (entryAt 0x60FFF (mapped lit)).kind = .saveSlot ∧
      (entryAt 0x60FFF (mapped lit)).page = (2 : SlotNo).val ∧ (0x60FFF : SlotAddr).toNat % 65536 < 4096 := by decide

/-- Slot 2 OPEN on block 15. -/
def writing : State := setSlot 2 (workingOn .opened 15 ⟨69, 159⟩) (mapped lit)

theorem test_witness_WritesLandOrAreIgnored :
    MemoryKept writing ∧ answered writing = true ∧
    ((0x60FFF : SlotAddr).toNat < 0xFFF00 ∧ entryAt 0x60FFF writing = ⟨.saveSlot, (2 : SlotNo).val, true⟩ ∧
      (0x60FFF : SlotAddr).toNat % 65536 < 4096 ∧ writing.dir.slots[2].state = .opened ∧
      writing.dir.slots[2].working = some 15 ∧ 15 < writing.profile.blocks ∧
      writing.dir.slots[2].workCheck = some ⟨69, 159⟩) ∧
    (entryAt 0x10000 writing).kind = .unmapped ∧ (entryAt 0x0FFFF writing).kind = .rom ∧
    entryAt 0x4FFFF writing = ⟨.soundRam, 0, true⟩ := by decide

theorem test_witness_RefusedAccessesAreRecorded :
    answered writing = true ∧ ((entryAt 0x61000 writing).kind = .saveSlot ∧ 4096 ≤ (0x61000 : SlotAddr).toNat % 65536) ∧
    (entryAt 0x20FFF writing = ⟨.saveSlot, (7 : SlotNo).val, false⟩ ∧ writing.dir.slots[7].state ≠ .opened) ∧
    (entryAt 0x70FFF writing = ⟨.saveSlot, (2 : SlotNo).val, false⟩ ∧ writing.dir.slots[2].state = .opened) ∧
    (entryAt 0x3FFFF writing).kind = .saveRaw ∧ entryAt 0x50000 writing = ⟨.soundRam, 0, false⟩ := by decide

theorem test_witness_FaultFlagLatchesOnce : hasFault .batlow (setFault .batlow lit) = true := by decide

/-- Both FIFOs with n bytes. -/
def filled (n : Nat) : State := { lit with cmd := { lit.cmd with fifo := List.replicate n 0, reply := List.replicate n 7 } }

theorem test_witness_ApertureAccessesAct :
    answered lit = true ∧ (answered (filled 63) = true ∧ (filled 63).cmd.fifo.length < 64) ∧
    (answered (filled 64) = true ∧ 64 ≤ (filled 64).cmd.fifo.length ∧ (filled 64).cmd.reply = 7 :: List.replicate 63 7) ∧
    ((1 : Byte) ≠ 0 ∧ (1 : Byte) ≠ 2) ∧ ((0xFF : Byte) ≠ 0 ∧ (0xFF : Byte) ≠ 2) ∧ lit.cmd.reply = [] ∧
    (4 ≤ (4 : Byte).toNat ∧ 4 ≤ (0xFF : Byte).toNat) := by decide

/-- R162 by hand: CMD gives its free bytes, and 0xFF stands at the offsets from 4. -/
theorem test_cmd_reads_its_free_bytes :
    (after (exec (.consoleRead 0xFFF00) (filled 63)) lit).slot.last = some ⟨0xFFF00, false, some 1⟩ ∧
    (after (exec (.consoleRead 0xFFFFF) lit) lit).slot.last = some ⟨0xFFFFF, false, some 0xFF⟩ := by decide

/-- WARN with the WARN class alone enabled. -/
def warning : State := { underMonitor .warn lit with cause := { lit.cause with enables := 64 } }

theorem test_witness_CauseReadReleasesTheLowest :
    (answered lit = true ∧ ∀ c ∈ allCauses, causePending lit c = false) ∧
    (answered interrupting = true ∧ Cause.fault ∈ allCauses ∧ causePending interrupting .fault = true ∧
      ∀ d ∈ allCauses, d.code < Cause.fault.code → causePending interrupting d = false) ∧
    (answered warning = true ∧ Cause.warn ∈ allCauses ∧ causePending warning .warn = true ∧
      ∀ d ∈ allCauses, d.code < Cause.warn.code → causePending warning d = false) := by decide

/-! ## Statements about messages -/

/-- The command FIFO holds the bytes. -/
def typed (bytes : List Byte) : State := { lit with cmd := { lit.cmd with fifo := bytes, reply := List.replicate 29 0 } }

theorem test_witness_RefusedMessagesByCase :
    (answered (typed [1, 33, 9]) = true ∧ (typed [1, 33, 9]).cmd.reply.length + 35 ≤ 64 ∧ 32 < (33 : Byte).toNat) ∧
    ([0] : List Byte).length = (0 : Byte).toNat + 1 ∧ byteSum [1, 0, 0] ≠ 0 ∧
    (byteSum [0x03, 0, 0xFD] = 0 ∧ codeTable.lookup 0x03 = none) ∧
    (byteSum [0x01, 0, 0xFF] = 0 ∧ codeTable.lookup 0x01 = some [4] ∧ 0 ∉ [4]) ∧
    (List.replicate 33 (0 : Byte)).length = (32 : Byte).toNat + 1 ∧ byteSum (1 :: 32 :: List.replicate 33 0) ≠ 0 := by decide

/-- The console is off, with the second about to end at the next edge but one. -/
def counting : State := { State.reset with cal := { State.reset.cal with sec := 59, prescaler := 32766 } }

/-- The console is off and the crystal gives no edges. -/
def stopped : State := { State.reset with crystal := { State.reset.crystal with running := false } }

theorem test_witness_MessagesDecodeToTheirCommands :
    let steps : List (Byte × Byte) := List.replicate 15 (15, 255)
    (Instr.patternLoad 15 1 steps).wellFormed = true ∧
    messageOf (.patternLoad 15 1 steps) = some (0x43, 15 :: 1 :: steps.flatMap fun p => [p.1, p.2]) ∧
    decodeMessage 0x38 [1, 0xFF, 0xFF, 0xFF, 63, 1, 16, 0] = some (.trackStart 1 0xFFFFFF 63 1 16) ∧
    acceptsLength 0x43 32 = true := by decide

theorem test_witness_MapSetReplacesLegalEntry :
    (Ready (.mapSet 16 0 0 0) [0x55] (told (.mapSet 16 0 0 0) lit) ∧ 15 < (16 : Byte).toNat) ∧
    Ready (.mapSet 15 1 3 0) [0x55] (told (.mapSet 15 1 3 0) lit) ∧ ¬lit.profile.pageCount ≤ (3 : Byte).toNat ∧
    Ready (.mapSet 0 2 7 1) [0x55] (told (.mapSet 0 2 7 1) lit) ∧ ¬7 < (7 : Byte).toNat := by decide

theorem test_witness_MapGetReportsEntry :
    Ready (.mapGet 16) [0x55] (told (.mapGet 16) lit) ∧ 15 < (16 : Byte).toNat ∧
      Ready (.mapGet 15) [0x55] (told (.mapGet 15) lit) ∧ (15 : Byte).toNat = (15 : Fin 16).val := by decide

theorem test_witness_FaultClearAndIrqMask :
    (Ready (.faultClear 4096) [0x55] (told (.faultClear 4096) lit) ∧ 4095 < (4096 : Word16).toNat) ∧
    (Ready (.faultClear 4095) [0x55] (told (.faultClear 4095) lit) ∧ (4095 : Word16).toNat ≤ 4095) ∧
    (Ready (.irqMask 128) [0x55] (told (.irqMask 128) lit) ∧ 127 < (128 : Byte).toNat) ∧
    (Ready (.irqMask 127) [0x55] (told (.irqMask 127) lit) ∧ (127 : Byte).toNat ≤ 127) := by decide

/-! ## Statements about saves -/

theorem test_witness_ProtectReplacesSetting :
    (Ready (.slotProtect 9 0 0) [0x55] (told (.slotProtect 9 0 0) lit) ∧ 8 < (9 : Byte).toNat) ∧
    (Ready (.slotProtect 8 1 1) [0x55] (told (.slotProtect 8 1 1) lit) ∧ lit.dir.windowOpen = true ∧
      ¬8 < (8 : Byte).toNat ∧ ¬1 < (1 : Byte).toNat) ∧
    (Ready (.slotProtect 0 0 0) [0x55] (told (.slotProtect 0 0 0) saving) ∧
      { saving.dir with windowOpen := false }.windowOpen = false) := by decide

/-- Every slot VALID on its own block but for the given record at slot 7, the queue holding q. -/
def slotSeven (r : SlotRecord) (q : List QueueEntry) : State :=
  { setSlot 7 r lit with engine := ⟨q, none, 8⟩ }

/-- Four entries in the queue. -/
def fullQueue : List QueueEntry := [⟨.verify, 0⟩, ⟨.verify, 1⟩, ⟨.verify, 2⟩, ⟨.verify, 3⟩]

/-- No free block. -/
def poolless (s : State) : State := { s with dir := { s.dir with pool := [] } }

/-- Slots 4 to 7 protected. -/
def guarded (s : State) : State := { s with dir := { s.dir with protect := ⟨4, .high, false⟩ } }

/-- Eight save blocks. -/
def small (s : State) : State := { s with profile := { s.profile with blocks := 8 } }

theorem test_witness_SaveCommandsRefused_by_number :
    7 < (8 : Byte).toNat ∧ Ready (.slotOpen 8) [0x55] (told (.slotOpen 8) lit) ∧
      Ready (.slotCommit 8) [0x55] (told (.slotCommit 8) lit) ∧ Ready (.slotAbandon 8) [0x55] (told (.slotAbandon 8) lit) ∧
      Ready (.slotErase 8) [0x55] (told (.slotErase 8) lit) ∧ Ready (.slotVerify 8) [0x55] (told (.slotVerify 8) lit) := by
  decide

/-- Slot 7 VALID and out of the profile. -/
def outOf (s : State) : Bool :=
  s.dir.slots[7].state == .valid && s.dir.slots[7].current.any fun b => decide (s.profile.blocks ≤ b)

/-- The conditions on which SLOT OPEN of slot 7 is refused, in their order. -/
def openConditions (s : State) : List Bool :=
  [s.dir.slots[7].state != .empty && s.dir.slots[7].state != .valid, outOf s, s.dir.slots[7].verifyPending,
   isProtected s.dir.protect 7, decide (4 ≤ s.engine.queue.length), s.dir.pool.isEmpty]

/-- The conditions on which SLOT ERASE of slot 7 is refused, in their order. -/
def eraseConditions (s : State) : List Bool :=
  [s.dir.slots[7].state != .valid, outOf s, s.dir.slots[7].verifyPending, isProtected s.dir.protect 7,
   decide (4 ≤ s.engine.queue.length)]

/-- A state for each condition, that condition the first to hold. -/
def refusedSaves : List State :=
  let pending := { validOn 7 with verifyPending := true }
  [slotSeven (workingOn .opened 1 ⟨0, 0⟩) [], small (slotSeven (validOn 8) []), guarded (slotSeven pending fullQueue),
   guarded (slotSeven (validOn 15) fullQueue), slotSeven (validOn 15) fullQueue, poolless (slotSeven (validOn 15) [])]

theorem test_witness_SaveCommandsRefusedInOrder :
    (7 : Byte).toNat = (7 : SlotNo).val ∧
    refusedSaves.map (fun s => (openConditions s).findIdx? id) = [some 0, some 1, some 2, some 3, some 4, some 5] ∧
    (refusedSaves.take 5).map (fun s => (eraseConditions s).findIdx? id) = [some 0, some 1, some 2, some 3, some 4] ∧
    (∀ s ∈ refusedSaves, answered s = true ∧ s.cmd.reply.length + 35 ≤ 64) := by decide

/-- The same of COMMIT with a full queue, and of ABANDON by the slot's state. -/
theorem test_witness_SaveCommandsRefused_commit_and_abandon :
    ((slotSeven (validOn 1) []).dir.slots[7].state ≠ .opened ∧ (slotSeven (validOn 1) []).dir.slots[7].state ≠ .opening) ∧
    ((slotSeven (workingOn .opened 1 ⟨0, 0⟩) fullQueue).dir.slots[7].state = .opened ∧
      4 ≤ (slotSeven (workingOn .opened 1 ⟨0, 0⟩) fullQueue).engine.queue.length) ∧
    (slotSeven (workingOn .committing 1 ⟨0, 0⟩) []).dir.slots[7].state = .committing := by decide

/-- Three entries in the queue. -/
def threeQueued (r : SlotRecord) : State := slotSeven r (fullQueue.take 3)

theorem test_witness_SaveCommandsAccepted :
    ((7 : Byte).toNat = (7 : SlotNo).val ∧ (threeQueued .attached).engine.queue.length < 4) ∧
    (Ready (.slotOpen 7) [0x55] (told (.slotOpen 7) (threeQueued .attached)) ∧
      (threeQueued .attached).dir.slots[7].state = .empty ∧ (threeQueued .attached).dir.slots[7].verifyPending = false ∧
      isProtected (threeQueued .attached).dir.protect 7 = false ∧
      (threeQueued .attached).dir.pool = 0 :: (List.range 15).map (· + 1)) ∧
    (Ready (.slotCommit 7) [0x55] (told (.slotCommit 7) (threeQueued (workingOn .opened 1 ⟨0, 0⟩))) ∧
      (threeQueued (workingOn .opened 1 ⟨0, 0⟩)).dir.slots[7].state = .opened) ∧
    (Ready (.slotErase 7) [0x55] (told (.slotErase 7) (threeQueued (validOn 15))) ∧
      Ready (.slotVerify 7) [0x55] (told (.slotVerify 7) (threeQueued (validOn 15))) ∧
      (threeQueued (validOn 15)).dir.slots[7].state = .valid ∧
      (threeQueued (validOn 15)).dir.slots[7].verifyPending = false ∧
      ∀ b ∈ (threeQueued (validOn 15)).dir.slots[7].current, b < (threeQueued (validOn 15)).profile.blocks) := by decide

/-- `opening` with the message SLOT ABANDON 1. -/
def abandoning : State := told (.slotAbandon 1) opening

theorem test_witness_AbandonReturnsWorkingBlock :
    ((1 : Byte).toNat = (1 : SlotNo).val ∧ Ready (.slotAbandon 1) [0x55] abandoning ∧
      abandoning.dir.slots[1].state = .opening ∧ abandoning.dir.slots[1].working = some 1) ∧
    (abandoning.dir = opening.dir ∧ abandoning.engine = opening.engine ∧ abandoning.profile = opening.profile ∧
      abandoning.supply = opening.supply) := by decide

/-- The directory is kept where the command FIFO alone differs. -/
theorem test_witness_AbandonKeepsTheDirectory : DirectoryKept abandoning := test_witness_WorkingChecksStayTrue.2.1

/-- An idle engine with one entry for slot 7. -/
def starting (k : OpKind) (r : SlotRecord) (h : SurgeHolder) : State :=
  { slotSeven r [⟨k, 7⟩] with supply := { lit.supply with holder := h } }

theorem test_witness_EngineStartsTheOldestEntry :
    (answered (starting .open (workingOn .opening 1 ⟨0, 0⟩) .none) = true ∧
      (starting .open (workingOn .opening 1 ⟨0, 0⟩) .none).engine = ⟨[⟨.open, 7⟩], none, 8⟩) ∧
    (starting .verify (validOn 1) .none).engine = ⟨[⟨.verify, 7⟩], none, 8⟩ ∧
    ((starting .commit (workingOn .committing 1 ⟨1, 1⟩) .kicker).engine.queue = [⟨.commit, 7⟩] ∧
      (starting .commit (workingOn .committing 1 ⟨1, 1⟩) .kicker).supply.holder = .kicker) ∧
    ((starting .erase { validOn 1 with state := .erasing } .none).engine.queue = [⟨.erase, 7⟩] ∧
      (starting .erase { validOn 1 with state := .erasing } .none).supply.holder = .none) ∧
    ((starting .commit (workingOn .committing 1 ⟨1, 1⟩) .none).supply.holder = .none ∧
      (starting .commit (workingOn .committing 1 ⟨1, 1⟩) .none).supply.kickerReq = false) ∧
    (let s := shaking .once ⟨requestTwo, 0, 4, 20, .waiting⟩ (starting .commit (workingOn .committing 1 ⟨1, 1⟩) .none);
      let t := { s with supply := { s.supply with kickerReq := true } };
      answered t = true ∧ t.supply.holder = .none ∧ t.supply.kickerReq = true ∧ t.supply.monitor = .run ∧
        t.rumble.active = some ⟨requestTwo, 0, 4, 20, .waiting⟩ ∧ t.engine.queue = [⟨.commit, 7⟩]) := by decide

/-- An operation on slot 7 in flight. -/
def flying (k : OpKind) (st : Stage) (pos : Nat) (sweep : Bool) (r : SlotRecord) : State :=
  { slotSeven r [] with engine := ⟨[], some ⟨k, 7, st, pos, ⟨69, 159⟩, sweep⟩, if sweep then 7 else 8⟩ }

theorem test_witness_EngineWorksOnePosition :
    let copying := flying .open .copy 4095 false { validOn 0 with state := .opening, working := some 15 }
    let filling := flying .open .fill 0 false (workingOn .opening 15 ⟨0, 0⟩)
    let scanning := flying .verify .scan 4095 false (validOn 15)
    let erasing := flying .erase .fill 4095 false { validOn 15 with state := .erasing }
    (MemoryKept copying ∧ powered copying = true ∧ 4095 < 4096 ∧ copying.dir.slots[7].working = some 15 ∧
      15 < copying.profile.blocks ∧ copying.dir.slots[7].current = some 0 ∧ 0 < copying.profile.blocks) ∧
    (MemoryKept filling ∧ powered filling = true ∧ filling.dir.slots[7].working = some 15) ∧
    (MemoryKept scanning ∧ scanning.dir.slots[7].current = some 15 ∧ 15 < scanning.profile.blocks) ∧
    (MemoryKept erasing ∧ erasing.dir.slots[7].current = some 15 ∧ 15 < erasing.profile.blocks) := by decide

theorem test_witness_OperationsEndTheirWork :
    let opened := flying .open .copy 4096 false { validOn 0 with state := .opening, working := some 15 }
    let verified := flying .verify .scan 4096 false (validOn 15)
    let erased := flying .erase .flip 4096 false { validOn 15 with state := .erasing }
    let outside := flying .erase .fill 0 false { validOn 16 with state := .erasing }
    (powered opened = true ∧ opened.engine.flight = some ⟨.open, 7, .copy, 4096, ⟨69, 159⟩, false⟩) ∧
    (powered verified = true ∧ verified.engine.flight = some ⟨.verify, 7, .scan, 4096, ⟨69, 159⟩, false⟩) ∧
    (powered erased = true ∧ erased.supply.engineReq = false ∧ erased.supply.kickerReq = false) ∧
    (outside.dir.slots[7].current = some 16 ∧ outside.profile.blocks ≤ 16) := by decide

/-- An ERASE of slot 7 in FLIP under the grant, with a kick that waits behind it. -/
def erasingBeforeKick : State :=
  let s := shaking .once ⟨requestTwo, 0, 4, 20, .waiting⟩ (flying .erase .flip 4096 false { validOn 15 with state := .erasing })
  { s with supply := { s.supply with holder := .engine, kickerReq := true } }

theorem test_witness_OperationsEnd_before_a_kick :
    powered erasingBeforeKick = true ∧ erasingBeforeKick.engine.flight = some ⟨.erase, 7, .flip, 4096, ⟨69, 159⟩, false⟩ ∧
      erasingBeforeKick.supply.engineReq = false ∧ erasingBeforeKick.supply.kickerReq = true ∧
      erasingBeforeKick.supply.monitor = .run ∧
      erasingBeforeKick.rumble.active = some ⟨requestTwo, 0, 4, 20, .waiting⟩ := by decide

/-- R161 and R146 by hand: the release after the flip gives the grant to the kick that waits. -/
theorem test_waiting_kick_is_given_the_grant :
    let t := after (exec .eraseFlip erasingBeforeKick) lit
    (t.dir.slots[7].state, t.supply.holder, t.supply.kickerReq, t.rumble.active.map (fun a => a.kick), effectiveLevel t) =
      (.empty, .kicker, false, some (.kicking 3), 16) := by decide

theorem test_witness_SweepScansValidSlots :
    let due := { slotSeven (validOn 15) [] with engine := ⟨[], none, 7⟩ }
    let past := { slotSeven (validOn 16) [] with engine := ⟨[], none, 7⟩ }
    let scanned := flying .verify .scan 4096 true (validOn 15)
    let wrong := flying .verify .scan 4096 true { validOn 15 with stored := some ⟨0, 0⟩ }
    (answered due = true ∧ due.engine.sweep = (7 : SlotNo).val ∧ due.dir.slots[7].state = .valid ∧
      due.dir.slots[7].current = some 15 ∧ 15 < due.profile.blocks) ∧
    (answered past = true ∧ past.dir.slots[7].current = some 16 ∧ past.profile.blocks ≤ 16) ∧
    (powered scanned = true ∧ scanned.dir.slots[7].stored = some ⟨69, 159⟩) ∧
    wrong.dir.slots[7].stored ≠ some ⟨69, 159⟩ := by decide

/-- Two states that differ at position 4095 of block 15 alone. -/
theorem test_witness_ReplacedByteGivesBlockCheck :
    let t := { lit with sram := [(65535, 1)] }
    4095 < 4096 ∧ sramByte lit 15 4095 = 0xFF ∧ sramByte t 15 4095 = 1 ∧
      ∀ q, q ≠ 4095 → sramByte t 15 q = sramByte lit 15 q := by
  refine ⟨by decide, by decide, by decide, fun q hq => ?_⟩
  have h : ¬65535 = 15 * 4096 + q := by omega
  simp [sramByte, sramAddr, readMem, Config.blockSize, h, show lit.sram = [] from rfl]

/-! ## Statements about the idle step -/

/-- The engine has nothing to do at once: it is at rest after the sweep, or in the middle of an operation. -/
def engineAtRest (s : State) : Bool :=
  (s.engine == ⟨[], none, 8⟩) ||
    s.engine.flight.any fun f => (f.kind == .verify && f.position == 4095) || (f.kind == .erase && f.stage == .grantWait)

theorem test_witness_IdleStep_starts :
    let s := starting .open (workingOn .opening 1 ⟨0, 0⟩) .none
    s.pending = [] ∧ answered s = true ∧ s.engine.flight = none ∧ s.engine.queue = ⟨.open, 7⟩ :: [] := by decide

theorem test_witness_IdleStep_quiet :
    (∀ s ∈ [lit, flying .verify .scan 4095 false (validOn 15),
        flying .erase .grantWait 0 false { validOn 15 with state := .erasing }],
      s.pending = [] ∧ answered s = true ∧ engineAtRest s = true ∧ s.port.grant = none ∧
        (∀ v, voiceRequests s v = false) ∧ ∀ k, trackRequests s k = false) ∧ playing.port.grant.isSome = true := by decide

/-- Under /CRST with an ERASE in flight, in FILL at a position or in FLIP. -/
def heldErase (st : Stage) (pos : Nat) : State :=
  let s := flying .erase st pos false { validOn 15 with state := .erasing }
  { s with supply := { s.supply with crst := true, holder := .engine } }

theorem test_witness_IdleStep_ends_and_grants :
    (let s := heldErase .flip 4096; s.pending = [] ∧ powered s = true ∧
      s.engine.flight = some ⟨.erase, 7, .flip, 4096, ⟨69, 159⟩, false⟩) ∧
    (powered (flying .open .copy 4096 false (workingOn .opening 15 ⟨0, 0⟩)) = true ∧
      powered (flying .verify .scan 4096 true (validOn 15)) = true ∧ 4096 ≤ 4096) ∧
    (let s := { slotSeven (validOn 15) [] with engine := ⟨[], none, 7⟩ }; s.pending = [] ∧ answered s = true ∧
      s.engine.sweep < 8) ∧
    (contending.pending = [] ∧ answered contending = true ∧ contending.engine = ⟨[], none, 8⟩ ∧
      contending.port.grant = none ∧ voiceRequests contending 4 = true) := by decide

theorem test_witness_IdleStep_held :
    (let s := heldErase .fill 4095; s.pending = [] ∧ powered s = true ∧ s.supply.crst = true ∧
      s.engine.flight = some ⟨.erase, 7, .fill, 4095, ⟨69, 159⟩, false⟩ ∧ s.dir.slots[7].current = some 15 ∧
      15 < s.profile.blocks ∧ s.crystal.running = true) ∧
    (held.pending = [] ∧ powered held = true ∧ held.engine.flight = none) := by decide

theorem test_witness_IdleStep_messages :
    (let s := typed (frameOf (.slotOpen 2)); answered s = true ∧ s.cmd.reply.length + 35 ≤ 64 ∧
      s.cmd.fifo = frameOf (.slotOpen 2) ++ [] ∧ (Instr.slotOpen 2).wellFormed = true ∧
      (messageOf (.slotOpen 2)).isSome = true) ∧
    ((typed [1, 33]).cmd.fifo = 1 :: 33 :: [] ∧ 32 < (33 : Byte).toNat) ∧
    (([0xED] : List Byte).length = (0 : Byte).toNat + 1 ∧ byteSum [0x11, 0, 0xED] ≠ 0) ∧
    codeTable.lookup 0x03 = none ∧ (codeTable.lookup 0x01 = some [4] ∧ (0 : Byte).toNat ∉ [4]) := by decide

theorem test_witness_IdleStep_edges :
    ((typed [1]).cmd.fifo.length < 2 ∧ 29 < { (filled 0) with cmd := (filled 30).cmd }.cmd.reply.length) ∧
    ((32 : Byte).toNat ≤ 32 ∧ (List.replicate 32 (0 : Byte)).length ≤ (32 : Byte).toNat ∧
      (typed (1 :: 32 :: List.replicate 32 0)).cmd.fifo = 1 :: 32 :: List.replicate 32 0) ∧
    (lit.crystal.running = true ∧ { lit.crystal with divider := 511 }.divider = 511 ∧ (511 + 1) % 512 = 0) := by decide

theorem test_witness_IdleStep_console_off :
    (stopped.pending = [] ∧ powered stopped = false ∧ stopped.crystal.running = false) ∧
    (counting.pending = [] ∧ powered counting = false ∧ counting.crystal.running = true ∧
      counting.supply.domainValid = true ∧ counting.cal.endsSecond = false ∧ counting.cal.sec % 60 ≠ 0 ∧
      counting.cal.prescaler < 32767) ∧
    (powered lit = true ∧ lit.crystal.running = true ∧ lit.supply.domainValid = true) := by decide

/-! ## Statements about queries and the calendar -/

theorem test_witness_DirectoryQueriesReport :
    Ready .profile [0x55] (told .profile saving) ∧ Ready .faults [0x55] (told .faults refusing) ∧
    (Ready (.slotInfo 8) [0x55] (told (.slotInfo 8) saving) ∧ 7 < (8 : Byte).toNat) ∧
    (Ready (.slotInfo 7) [0x55] (told (.slotInfo 7) saving) ∧ (7 : Byte).toNat = (7 : SlotNo).val) ∧
    Ready .poolInfo [0x55] (told .poolInfo saving) := by decide

theorem test_witness_SoundAndRumbleQueriesReport :
    (Ready (.voiceInfo 6) [0x55] (told (.voiceInfo 6) playing) ∧ 5 < (6 : Byte).toNat) ∧
    (Ready (.voiceInfo 5) [0x55] (told (.voiceInfo 5) playing) ∧ (5 : Byte).toNat = (5 : VoiceNo).val) ∧
    (Ready (.trackInfo 2) [0x55] (told (.trackInfo 2) playing) ∧ 1 < (2 : Byte).toNat) ∧
    (Ready (.trackInfo 1) [0x55] (told (.trackInfo 1) playing) ∧ (1 : Byte).toNat = (1 : TrackNo).val) ∧
    Ready .rumbleInfo [0x55] (told .rumbleInfo rumbling) := by decide

theorem test_witness_ClockCommandsSetTime :
    (Ready (.clockSet 2179 6 7 0 0 0) [0x55] (told (.clockSet 2179 6 7 0 0 0) lit) ∧ ¬(7 : Byte).toNat ≤ 6) ∧
    (Ready (.clockSet 2179 6 6 23 59 59) [0x55] (told (.clockSet 2179 6 6 23 59 59) lit) ∧
      (2179 : Word16).toNat ≤ 2179 ∧ (6 : Byte).toNat ≤ monthLength 2179 6 ∧ (23 : Byte).toNat ≤ 23 ∧
      (59 : Byte).toNat ≤ 59) ∧
    (Ready (.clockTrim 0xBF) [0x55] (told (.clockTrim 0xBF) lit) ∧ (0xBF : Byte).toInt < -64) ∧
    (Ready (.clockTrim 0xC0) [0x55] (told (.clockTrim 0xC0) lit) ∧ -64 ≤ (0xC0 : Byte).toInt ∧
      (0xC0 : Byte).toInt ≤ 63) ∧
    (63 < (64 : Byte).toInt ∧ (63 : Byte).toInt ≤ 63 ∧ -64 ≤ (63 : Byte).toInt) := by decide

theorem test_witness_DatesAndDayNumbersAgree :
    (65535 : Nat) ≤ 65535 ∧ validDate 2179 6 6 = true ∧ validDate 2000 2 29 = true :=
  ⟨Nat.le_refl _, by decide +kernel, by decide⟩

theorem test_witness_CalendarQueriesReport :
    Ready .clockGet [0x55] (told .clockGet away) ∧ Ready (.dateOf 65535) [0x55] (told (.dateOf 65535) away) ∧
    (Ready (.dayOf 2100 2 29) [0x55] (told (.dayOf 2100 2 29) away) ∧ validDate 2100 2 29 = false) ∧
    (Ready (.dayOf 2100 2 28) [0x55] (told (.dayOf 2100 2 28) away) ∧ validDate 2100 2 28 = true) ∧
    (Ready (.daysSince 8) [0x55] (told (.daysSince 8) away) ∧ 7 < (8 : Byte).toNat) ∧
    (Ready (.daysSince 7) [0x55] (told (.daysSince 7) away) ∧ (7 : Byte).toNat = (7 : SlotNo).val ∧
      away.dir.slots[7].stamp = none) ∧
    ((setSlot 7 (validOn 0) away).dir.slots[7].stamp = some ⟨9000, 86100, false⟩ ∧ 9000 ≤ away.cal.day ∧
      { away.cal with day := 8999 }.day < 9000) ∧
    (Ready .absence [0x55] (told .absence away) ∧ away.cal.down = some ⟨9001, 300⟩ ∧ away.cal.up = some ⟨9003, 200⟩ ∧
      9001 * 86400 + 300 ≤ 9003 * 86400 + 200) ∧
    (Ready .absence [0x55] (told .absence lit) ∧ lit.cal.down = none) := by decide

theorem test_witness_SecondsLastTheirEdges :
    (Calendar.attached.prescaler = 0 ∧ Calendar.attached.extension = 0 ∧
      -64 ≤ { Calendar.attached with trim := -64 }.trim ∧ { Calendar.attached with trim := 63 }.trim ≤ 63) ∧
    State.reset.supply.domainValid = true := by decide

theorem test_witness_SecondTickAdvancesAndFiresCues :
    (playing.supply.domainValid = true ∧ playing.crystal.running = true ∧ playing.cal.day = 65535 ∧
      playing.cal.sec = 86399) ∧
    (fourCues.supply.domainValid = true ∧ fourCues.crystal.running = true ∧ ¬fourCues.cal.day = 65535 ∧
      fourCues.cal.atEnd = false ∧ fourCues.cal.sec < 86399 ∧ fourCues.cues[0].armed = true ∧
      fourCues.cues[1].armed = false) ∧
    (let s := { lit with cal := { lit.cal with sec := 86399 } }; ¬s.cal.day = 65535 ∧ s.cal.sec = 86399) ∧
    answered State.reset = false := by decide

/-! ## Statements about cues and voices -/

/-- The fields of a CUE SET with every action, at the ends of their ranges. -/
def fullCue : CueFields := ⟨7, 4, 0xFF, 0xFF, 0x7F, 0x51, 0x01, 1, 1, 15, 0xFFFF, 15, 255, 1, 15, 3⟩

theorem test_witness_CueCommandsLoadAndReport :
    let late := { fullCue with param2 := 0x80 }
    (Ready (.cueSet late) [0x55] (told (.cueSet late) lit) ∧ late.trigger.toNat = 4 ∧
      86399 < late.param2.toNat + 256 * late.param3.toNat + 65536 * late.param4.toNat) ∧
    (Ready (.cueSet fullCue) [0x55] (told (.cueSet fullCue) lit) ∧ fullCue.cue.toNat = (7 : CueNo).val ∧
      ¬86399 < fullCue.param2.toNat + 256 * fullCue.param3.toNat + 65536 * fullCue.param4.toNat ∧
      ¬15 < fullCue.instrument.toNat ∧ ¬15 < fullCue.volume.toNat ∧ ¬fullCue.hold = 0 ∧ ¬15 < fullCue.pattern.toNat ∧
      ¬3 < fullCue.priority.toNat) ∧
    (Ready (.cueClear 8) [0x55] (told (.cueClear 8) lit) ∧ Ready (.cueGet 8) [0x55] (told (.cueGet 8) lit) ∧
      7 < (8 : Byte).toNat) ∧
    (Ready (.cueClear 7) [0x55] (told (.cueClear 7) lit) ∧ Ready (.cueGet 7) [0x55] (told (.cueGet 7) lit) ∧
      (7 : Byte).toNat = (7 : CueNo).val) := by decide

/-- Sound RAM in which instrument record 15 starts with mode 0xFF and is invalid; the others are all zero, WAVE. -/
def badRecord (s : State) : State := { s with sound := [(0x2F0, 0xFF)] }

/-- The moment of `fourCues`' tick. -/
def tickMoment : TickMoment := ⟨9003, 28800, false, false⟩

/-- A cue note in its last rumble tick. -/
def expiring : State := setVoice 5 { sounding .cue .sustain with hold := some 1 } lit

theorem test_witness_CueNotesStartAndEnd :
    (answered lit = true ∧ ∀ n : CueNo, lit.cues[n].fires tickMoment = true → lit.cues[n].sound = none) ∧
    (answered fourCues = true ∧ fourCues.cues[0].fires tickMoment = true ∧
      fourCues.cues[0].sound = some ⟨2, 3520, 10, 32⟩ ∧ instrumentOf fourCues 2 = some .zero) ∧
    (answered (badRecord lit) = true ∧ instrumentOf (badRecord lit) 15 = none) ∧
    (powered expiring = true ∧ expiring.crystal.running = true ∧ expiring.voices[5].hold = some 1 ∧
      expiring.voices[5].phase = .sustain ∧ expiring.voices[5].snapshot.release ≠ 0 ∧
      (sounding .cue .sustain).snapshot ≠ .zero) ∧
    (let s := setVoice 5 { sounding .cue .attack with hold := some 2, snapshot := .zero } lit;
      powered s = true ∧ s.voices[5].hold = some (0 + 2) ∧ s.voices[5].phase = .attack ∧ s.voices[5].snapshot.release = 0) := by
  decide

theorem test_witness_CueNotes_second_tick :
    (fourCues.supply.domainValid = true ∧ fourCues.crystal.running = true ∧ fourCues.cal.atEnd = false ∧
      fourCues.cal.sec ≤ 86399 ∧ ¬(fourCues.cal.day = 65535 ∧ fourCues.cal.sec = 86399)) ∧
    (let c := { fourCues.cal with day := 65534, sec := 86399 };
      c.sec ≤ 86399 ∧ ¬(c.day = 65535 ∧ c.sec = 86399)) := by decide

/-- A record with its mode byte m, and a stream of one byte or of none, at number 15. -/
def record (m : Byte) (oneByte : Bool) : State :=
  { lit with sound := if oneByte then [(0x2F0, m), (0x2F5, 1)] else [(0x2F0, m)] }

theorem test_witness_CueNotes_records :
    let b := fun (s : State) (j : Nat) => readMem soundUnlisted s.sound (512 + 16 * 15 + j)
    let two := fun s => (b s 5).toNat + 256 * (b s 6).toNat
    (3 < (b (record 4 true) 0).toNat ∧ b (record 1 false) 0 = 1 ∧ two (record 1 false) = 0) ∧
    (b (record 1 true) 0 = 1 ∧ two (record 1 true) ≠ 0) ∧ b (record 3 false) 0 = 3 := by decide

/-- A record by hand: clamps of wave and loop, steps to 127, and a record invalid for its empty stream. -/
theorem test_record_is_clamped :
    let s := { lit with sound := [(0x200, 1), (0x201, 255), (0x205, 9), (0x207, 10), (0x209, 128), (0x20C, 127)] }
    instrumentOf s 0 = some { Snapshot.zero with mode := .stream, wave := 15, length := 9, loop := 9, attack := 127, release := 127 } ∧
    instrumentOf (record 1 false) 15 = none := by decide

/-- Voice 5 with an owner and a phase. -/
def voiceFive (o : Owner) (p : Phase) : State := setVoice 5 (sounding o p) (badRecord lit)

theorem test_witness_VoiceCommands_play :
    let play := Instr.voicePlay 5 15 0xFFFF 15
    (Ready (.voicePlay 6 0 0 0) [0x55] (told (.voicePlay 6 0 0 0) lit) ∧ 5 < (6 : Byte).toNat) ∧
    (Ready (.voicePlay 0 16 0 0) [0x55] (told (.voicePlay 0 16 0 0) lit) ∧ 15 < (16 : Byte).toNat) ∧
    (Ready play [0x55] (told play (voiceFive .cue .sustain)) ∧ (5 : Byte).toNat = (5 : VoiceNo).val ∧
      (15 : Byte).toNat ≤ 15 ∧ (voiceFive .cue .sustain).voices[5].owner = .cue) ∧
    (Ready play [0x55] (told play (voiceFive .none .idle)) ∧ (voiceFive .none .idle).voices[5].owner ≠ .cue ∧
      instrumentOf (voiceFive .none .idle) 15 = none ∧ instrumentOf (voiceFive .none .idle) 14 = some .zero) := by decide

theorem test_witness_VoiceCommands_others :
    (Ready (.voiceSet 5 0 16) [0x55] (told (.voiceSet 5 0 16) lit) ∧ 15 < (16 : Byte).toNat) ∧
    (Ready (.voiceSet 5 0 15) [0x55] (told (.voiceSet 5 0 15) (voiceFive .console .release)) ∧
      (voiceFive .console .release).voices[5].owner = .console ∧ (voiceFive .console .release).voices[5].phase = .release) ∧
    (Ready (.voiceRelease 5) [0x55] (told (.voiceRelease 5) (voiceFive (.track 1) .decay)) ∧
      (voiceFive (.track 1) .decay).voices[5].owner = .track 1 ∧ (voiceFive .none .idle).voices[5].owner = .none) ∧
    (Ready (.voiceRelease 5) [0x55] (told (.voiceRelease 5) (voiceFive .console .decay)) ∧
      (voiceFive .console .decay).voices[5].phase = .decay ∧ (voiceFive .console .decay).voices[5].snapshot.release ≠ 0 ∧
      { sounding .console .decay with snapshot := .zero }.snapshot.release = 0) ∧
    (Ready (.voiceStop 6) [0x55] (told (.voiceStop 6) lit) ∧ 5 < (6 : Byte).toNat) ∧
    (Ready (.voiceStop 5) [0x55] (told (.voiceStop 5) (voiceFive .cue .attack)) ∧
      (voiceFive .cue .attack).voices[5].phase ≠ .idle) ∧
    (Ready (.voiceStop 5) [0x55] (told (.voiceStop 5) (voiceFive .none .idle)) ∧
      (voiceFive .none .idle).voices[5].phase = .idle ∧ ∀ g ∈ (voiceFive .none .idle).port.grant, g.holder ≠ .voice 5) ∧
    Ready (.master 255) [0x55] (told (.master 255) lit) := by decide

/-- WAVE on voice 0, STREAM not primed on voice 1, STREAM primed and short of bytes on voice 2, no track running. -/
def sampling : State :=
  let stream := fun p : Bool => { sounding .console .sustain with
    snapshot := { Snapshot.zero with mode := .stream, length := 16 }, increment := 8192, primed := p, buffer := [1] }
  setVoice 0 (sounding .console .sustain) (setVoice 1 (stream false) (setVoice 2 (stream true) lit))

theorem test_witness_SampleClockMakesDacCode :
    powered sampling = true ∧ sampling.crystal.running = true ∧ (∀ k : TrackNo, sampling.tracks[k].state = .stopped) ∧
      sampling.voices[0].phase ≠ .idle ∧ sampling.voices[0].snapshot.mode = .wave ∧ sampling.voices[1].primed = false ∧
      (sampling.voices[2].primed = true ∧ sampling.voices[2].buffer.length < sampling.voices[2].streamNeed 2) ∧
      (∀ n : VoiceNo, lit.voices[n].phase = .idle) ∧ sampling.voices[5].phase = .idle ∧
      dacCode (mixScale 2400 16) = 1023 := by decide

/-- A fed STREAM voice of 16 bytes at a position, two bytes to consume at each sample. -/
def feeding (position loop : Nat) : Voice :=
  { sounding .console .sustain with
    snapshot := { Snapshot.zero with mode := .stream, length := 16, loop := loop }, increment := 8192, primed := true,
    position := position, buffer := [1, 2] }

theorem test_witness_SampleClock_advances :
    ((feeding 13 0).streamNeed 2 ≤ (feeding 13 0).buffer.length ∧ 13 + 2 < 16) ∧
    ((feeding 14 0).streamNeed 2 ≤ (feeding 14 0).buffer.length ∧ 16 ≤ 14 + 2 ∧
      { feeding 15 0 with buffer := [1] }.streamNeed 2 ≤ 1 ∧ 16 ≤ 15 + 2) ∧
    ((feeding 14 1).streamNeed 2 ≤ (feeding 14 1).buffer.length ∧ (feeding 14 1).snapshot.loop ≠ 0 ∧
      (feeding 14 16).snapshot.loop ≤ (feeding 14 16).snapshot.length) ∧
    ({ feeding 0 0 with snapshot := { Snapshot.zero with mode := .noiseShort } }.phase ≠ .idle) := by decide

/-- By hand: two bytes before the end with loop 4, and at the end of a stream without loop. -/
theorem test_stream_loops_or_ends :
    let t := after (exec .sampleClock (setVoice 0 (feeding 14 4) lit)) lit
    let u := after (exec .sampleClock (setVoice 0 (feeding 14 0) lit)) lit
    (t.voices[0].phase, t.voices[0].position, t.voices[0].last) = (.sustain, 12, 1) ∧
    (u.voices[0].phase, u.voices[0].position, u.voices[0].owner) = (.idle, 16, .none) := by decide

/-- Track 0 counts TIME to its period, its neighbour is stopped. -/
def timed (st : TrackState) (divider : Nat) (wait : Option Nat) : State :=
  let s := sequencing ⟨8, 4, 0, 0, 0⟩
  setTrack 0 { s.tracks[0] with state := st, period := 16, divider := divider, wait := wait,
                                buffer := if st = .running then s.tracks[0].buffer else [] } s

theorem test_witness_SampleClock_counts :
    (∀ s ∈ [timed .running 14 (some 1), timed .running 15 (some 2), timed .waiting 15 none],
      powered s = true ∧ s.crystal.running = true ∧ s.tracks[0].source = .time ∧ s.tracks[0].state ≠ .stopped ∧
        s.tracks[1].state = .stopped) ∧
    ((timed .running 14 (some 1)).tracks[0].divider + 1 < (timed .running 14 (some 1)).tracks[0].period) ∧
    ((timed .running 15 (some 2)).tracks[0].period ≤ (timed .running 15 (some 2)).tracks[0].divider + 1 ∧
      (timed .running 15 (some 2)).tracks[0].wait = some (0 + 2)) ∧
    (timed .waiting 15 none).tracks[0].state = .waiting ∧ lit.tracks[0].state = .stopped := by decide

/-- Voice 0 in a phase at a level E, every step 10 and the sustain level 60. -/
def enveloped (p : Phase) (env : Nat) : Voice :=
  { sounding .console p with
    env := env, snapshot := { Snapshot.zero with attack := 10, decay := 10, sustain := 60, release := 10 } }

theorem test_witness_EnvelopeTickStepsEveryVoice :
    (powered lit = true ∧ lit.crystal.running = true ∧ lit.voices[0].phase = .idle) ∧
    ((enveloped .attack 116).env + (enveloped .attack 116).snapshot.attack < 127 ∧
      127 ≤ (enveloped .attack 117).env + (enveloped .attack 117).snapshot.attack) ∧
    (sounding .console .decay).snapshot.decay = 0 ∧
    ((enveloped .decay 70).env ≤ (enveloped .decay 70).snapshot.sustain + (enveloped .decay 70).snapshot.decay ∧
      (enveloped .decay 71).snapshot.sustain + (enveloped .decay 71).snapshot.decay < (enveloped .decay 71).env) ∧
    ((enveloped .release 11).snapshot.release < (enveloped .release 11).env ∧
      (enveloped .release 10).env ≤ (enveloped .release 10).snapshot.release) := by decide

/-! ## Statements about the ROM port and the sequencer -/

/-- Both tracks WAITING, track 0 with five bytes of an event under a grant that has delivered 1. -/
def fetching : State :=
  let track := { Track.initial with state := .waiting, nextAddr := 0xFFFFFF, fetchAddr := 0xFFFFFF }
  let s := setTrack 0 { track with mask := 1 } (setTrack 1 { track with mask := 2 } lit)
  { s with port := ⟨some ⟨.track 0, 1, true⟩, #v[[255, 9, 0, 0, 0], [1, 2, 3, 4]]⟩ }

theorem test_witness_RomPort_grants :
    (answered contending = true ∧ contending.port.grant = none ∧ voiceRequests contending 4 = true ∧
      ∀ u, voiceRequests contending u = true → contending.voices[(4 : VoiceNo)].buffer.length < contending.voices[u].buffer.length ∨
        contending.voices[(4 : VoiceNo)].buffer.length = contending.voices[u].buffer.length ∧ 4 ≤ u) ∧
    (let s := { fetching with port := { fetching.port with grant := none } };
      answered s = true ∧ (∀ u, voiceRequests s u = false) ∧ trackRequests s 0 = true ∧
        ∀ u, trackRequests s u = true → s.tracks[(0 : TrackNo)].buffer.length < s.tracks[u].buffer.length ∨
          s.tracks[(0 : TrackNo)].buffer.length = s.tracks[u].buffer.length ∧ 0 ≤ u) := by decide

theorem test_witness_RomPort_delivers :
    (playing.port.grant = some ⟨.voice 4, 3, true⟩ ∧ answered playing = true ∧ 3 ≤ 3 ∧
      16 ≤ playing.voices[4].buffer.length + 1) ∧
    (answered fetching = true ∧ fetching.port.grant = some ⟨.track 0, 1, true⟩ ∧
      fetching.port.partials[0] = [255, 9, 0, 0, 0] ∧ fetching.tracks[0].state = .waiting ∧
      fetching.tracks[0].buffer = [] ∧ (255 : Byte) ≠ 0) ∧
    (contending.voices[4].buffer.length + 1 < 16 ∧ contending.voices[4].fetch + 1 < contending.voices[4].snapshot.length) ∧
    fetching.port.partials[1].length < 5 ∧ (sequencing ⟨8, 4, 0, 0, 0⟩).tracks[0].state = .running := by decide

/-- 7.8, the first row: track 0 WAITING at 0x020000 with five bytes of INSTR, delta 0; the sixth reads 0. -/
def arriving : State :=
  let s := setVoice 0 { Voice.initial with home := some 0, owner := .track 0 } lit
  let t := setTrack 0 { Track.initial with
    state := .waiting, nextAddr := 0x020000, fetchAddr := 0x020000, mask := 1, period := 512, divider := 5 } s
  { t with port := ⟨some ⟨.track 0, 1, true⟩, #v[[0, 3, 0, 3, 0], []]⟩, rom := [(0x020005, 0)] }

theorem test_instr_of_delta_zero_acts_at_its_arrival :
    let t := after (exec .romByteRead arriving) lit
    (t.tracks[0].state, t.tracks[0].buffer, t.tracks[0].nextAddr, t.tracks[0].fetchAddr, t.tracks[0].divider,
      t.voices[0].selected, t.port.grant) = (.waiting, [], 0x020006, 0x020006, 5, 3, none) := by decide

theorem test_witness_RomPort_delta_zero :
    answered arriving = true ∧ arriving.port.grant = some ⟨.track 0, 1, true⟩ ∧ arriving.tracks[0].state = .waiting ∧
      arriving.tracks[0].buffer = [] ∧ arriving.port.partials[0] = [0, 3, 0, 3, 0] := by decide

theorem test_witness_TracksStartStopAndTick :
    (Ready (.trackStart 0 0 0 0 15) [0x55] (told (.trackStart 0 0 0 0 15) lit) ∧ (15 : Word16).toNat < 16) ∧
    (Ready (.trackStart 0 0 0 1 17) [0x55] (told (.trackStart 0 0 0 1 17) lit) ∧ 16 < (17 : Word16).toNat) ∧
    (Ready (.trackStart 1 0 63 0 16) [0x55] (told (.trackStart 1 0 63 0 16) (sequencing ⟨8, 4, 0, 0, 0⟩)) ∧
      (sequencing ⟨8, 4, 0, 0, 0⟩).tracks[0].state ≠ .stopped ∧
      (sequencing ⟨8, 4, 0, 0, 0⟩).tracks[0].mask &&& (63 : Byte).setWidth 6 ≠ 0) ∧
    (Ready (.trackStart 1 0xFFFFFF 63 1 16) [0x55] (told (.trackStart 1 0xFFFFFF 63 1 16) lit) ∧
      (1 : Byte).toNat = (1 : TrackNo).val ∧ lit.tracks[0].state = .stopped ∧ lit.tracks[1].state = .stopped) ∧
    (Ready (.trackStop 2) [0x55] (told (.trackStop 2) lit) ∧ 1 < (2 : Byte).toNat) ∧
    Ready (.trackStop 1) [0x55] (told (.trackStop 1) lit) ∧
    Ready (.trackStop 0) [0x55] (told (.trackStop 0) (sequencing ⟨8, 4, 0, 0, 0⟩)) ∧
    (powered fetching = true ∧ sourceRuns fetching 0 = true ∧ fetching.tracks[0].state = .waiting) ∧
    (sourceRuns (sequencing ⟨8, 4, 0, 0, 0⟩) 0 = true ∧ { runningTrack ⟨8, 4, 0, 0, 0⟩ with wait := some 2 }.wait = some (0 + 2)) := by
  decide

/-- Track 0 at the tick of an event for voice 0, with a loop mark. -/
def acting (e : Event) (m : Option LoopMark) : State :=
  let s := sequencing e
  setTrack 0 { s.tracks[0] with loopMark := m } s

/-- The same with another tail behind the event. -/
def trailing (e : Event) (tail : List Event) (s : State) : State := setTrack 0 { s.tracks[0] with buffer := e :: tail } s

/-- The event's hypotheses: it is due, with this tail behind it. -/
def due (s : State) (e : Event) (tail : List Event) : Bool :=
  powered s && sourceRuns s 0 && s.tracks[0].state == .running && s.tracks[0].wait == some 1 && s.tracks[0].buffer == e :: tail

theorem test_witness_Events_are_due :
    (∀ kind ∈ ([0, 1, 2, 3, 4, 5, 6, 7, 8, 9, 10, 255] : List Byte),
      due (acting ⟨1, kind, 0, 15, 16⟩ none) ⟨1, kind, 0, 15, 16⟩ [⟨255, 9, 0, 0, 7⟩] = true ∧
      due (trailing ⟨1, kind, 6, 15, 16⟩ [] (acting ⟨1, kind, 0, 15, 16⟩ none)) ⟨1, kind, 6, 15, 16⟩ [] = true) ∧
    (∀ m ∈ ([⟨0, 0, false⟩, ⟨0, 1, false⟩, ⟨0, 0, true⟩] : List LoopMark),
      due (acting ⟨1, 8, 0, 0, 0⟩ (some m)) ⟨1, 8, 0, 0, 0⟩ [⟨255, 9, 0, 0, 7⟩] = true ∧
        (acting ⟨1, 8, 0, 0, 0⟩ (some m)).tracks[0].loopMark = some m) ∧
    ((255 : Byte) ≠ 0 ∧ 5 < (6 : Byte).toNat ∧ ¬5 < (5 : Byte).toNat ∧ 9 < (10 : Byte).toNat ∧ ¬9 < (9 : Byte).toNat) := by
  decide

/-- A run of delta 0: the marker is acted on with the event behind it made to wait, and a jump leaves nothing behind. -/
theorem test_witness_Events_in_one_tick :
    (let s := trailing ⟨1, 9, 0, 0, 1⟩ [⟨1, 9, 0, 0, 7⟩] (acting ⟨1, 9, 0, 0, 1⟩ none);
      ∃ u, exec (.markerEvent 0) s = .next u ∧ u.tracks[0].buffer ≠ []) ∧
    (let s := trailing ⟨1, 8, 0, 0, 1⟩ [⟨1, 9, 0, 0, 7⟩] (acting ⟨1, 8, 0, 0, 1⟩ (some ⟨0, 0, true⟩));
      ∃ u, exec (.backEvent 0) s = .next u ∧ u.tracks[0].buffer = []) :=
  ⟨⟨_, rfl, by decide⟩, ⟨_, rfl, by decide⟩⟩

/-- By hand: three events of delta 0 behind a due one are acted on at its tick, and the track waits for events. -/
theorem test_events_of_delta_zero_run_together :
    let s := trailing ⟨1, 9, 0, 0, 1⟩ [⟨0, 6, 0, 15, 0⟩, ⟨0, 4, 0, 0, 9⟩, ⟨0, 9, 0, 0, 7⟩] (acting ⟨1, 9, 0, 0, 1⟩ none)
    let t := after (exec (.markerEvent 0) s) s
    (t.tracks[0].state, t.tracks[0].marker, t.tracks[0].period, t.voices[0].volume, t.tracks[0].nextAddr) =
      (.waiting, 7, 16, 9, 0x020018) := by decide

theorem test_witness_EventsActAtTheirTick :
    (instrumentOf (acting ⟨1, 1, 0, 0, 0⟩ none) (acting ⟨1, 1, 0, 0, 0⟩ none).voices[0].selected = some .zero ∧
      (0 : Byte).toNat = (0 : VoiceNo).val ∧ (acting ⟨1, 1, 0, 0, 0⟩ none).voices[0].owner = .track 0) ∧
    (let s := badRecord (setVoice 0 { sounding (.track 0) .sustain with selected := 15 } (acting ⟨1, 1, 0, 0, 0⟩ none));
      due s ⟨1, 1, 0, 0, 0⟩ [⟨255, 9, 0, 0, 7⟩] = true ∧ instrumentOf s s.voices[0].selected = none) ∧
    ((acting ⟨1, 2, 0, 0, 0⟩ none).voices[0].phase = .sustain ∧
      (acting ⟨1, 2, 0, 0, 0⟩ none).voices[0].snapshot.release ≠ 0) ∧
    (∀ v ∈ [{ sounding (.track 0) .attack with snapshot := .zero }, sounding (.track 0) .release,
        { Voice.initial with owner := .track 0, home := some 0 }],
      let s := setVoice 0 v (acting ⟨1, 2, 0, 0, 0⟩ none)
      due s ⟨1, 2, 0, 0, 0⟩ [⟨255, 9, 0, 0, 7⟩] = true ∧ s.voices[0].owner = .track 0 ∧
        ∀ g ∈ s.port.grant, g.holder ≠ .voice 0) ∧
    ((setVoice 0 (sounding .console .sustain) (acting ⟨1, 5, 0, 0, 0⟩ none)).voices[0].owner ≠ .track 0 ∧
      (acting ⟨1, 8, 0, 0, 0⟩ none).tracks[0].loopMark = none ∧
      ({ addr := 0, remaining := 0, forever := true : LoopMark }.forever = true ∧ 0 < 1)) := by decide

/-! ## Statements about frame capture and rumble -/

/-- Frame capture in a state, its last capture d counts ago. -/
def capturing (st : FrameState) (d : BitVec 16) : State :=
  { lit with frame := { lit.frame with counter := d, last := if st = .waitingFirst then none else some 0, state := st } }

theorem test_witness_FrameCaptureFollowsStrobes :
    (answered lit = true ∧ lit.frame.state = .waitingFirst ∧ lit.crystal.running = true ∧ lit.frame.state ≠ .lost) ∧
    ((capturing .present 136).frame.state = .present ∧ (capturing .present 136).frame.last = some 0 ∧
      ((136 : BitVec 16) - 0).toNat < 137 ∧ 137 ≤ ((137 : BitVec 16) - 0).toNat ∧ ((1638 : BitVec 16) - 0).toNat ≤ 1638) ∧
    ((capturing .lost 0).frame.state = .lost ∧ (capturing .lost 0).frame.mode = .coast ∧
      answered (capturing .lost 0) = true) ∧
    (Ready (.frameMode 2) [0x55] (told (.frameMode 2) lit) ∧ 1 < (2 : Byte).toNat) ∧
    (Ready (.frameMode 1) [0x55] (told (.frameMode 1) lit) ∧ (1 : Byte).toNat ≤ 1) := by decide

/-- Frame capture short of a deadline by d counts, in PRESENT or in LOST under a mode, with no period. -/
def silentFor (st : FrameState) (m : FrameMode) (silence synth : Nat) : State :=
  let s := capturing st 5
  { s with frame := { s.frame with mode := m, silence := silence, synth := synth } }

theorem test_witness_FrameCapture_counts :
    (∀ s ∈ [silentFor .present .coast 544 0, silentFor .present .hold 545 0, silentFor .lost .coast 546 271,
        silentFor .lost .coast 546 272, silentFor .lost .hold 546 272],
      answered s = true ∧ s.crystal.running = true ∧ s.frame.period = none) ∧
    (544 + 1 < 546 ∧ 545 + 1 = 546 ∧ 271 + 1 < 273 ∧ 272 + 1 = 273) ∧
    ((silentFor .lost .hold 546 272).frame.state = .lost ∧ (silentFor .lost .hold 546 272).frame.mode = .hold) ∧
    answered held = false := by decide

/-- Track 1 counts frames, at its last but one count or at its last. -/
def framed (st : TrackState) (divider : Nat) : State :=
  let s := capturing .lost 0
  setTrack 1 { Track.initial with state := st, source := .frame, period := 2, divider := divider,
                                  wait := if st = .running then some 2 else none,
                                  buffer := if st = .running then [⟨8, 9, 0, 0, 0⟩] else [] } s

theorem test_witness_FrameCapture_gives_frames :
    (∀ s ∈ [framed .running 0, framed .running 1, framed .waiting 1],
      answered s = true ∧ s.frame.state = .lost ∧ s.tracks[1].source = .frame ∧ s.tracks[1].state ≠ .stopped) ∧
    ((framed .running 0).tracks[1].divider + 1 < 2 ∧ 2 ≤ (framed .running 1).tracks[1].divider + 1 ∧
      (framed .running 1).tracks[1].wait = some (0 + 2)) := by decide

/-- Fifteen steps that are legal, at the ends of their ranges. -/
def fifteen : List (Byte × Byte) := (0xFF, 1) :: List.replicate 14 (15, 255)

/-- A told message stands ready where the console is answered and the reply FIFO has room. -/
theorem test_told_is_ready (c : Instr) (s : State) (h : answered s = true) (r : s.cmd.reply.length + 35 ≤ 64) :
    Ready c [0x55] (told c s) := ⟨h, r, rfl⟩

theorem test_witness_RumbleCommands_load_ready :
    Ready (.patternLoad 16 0 fifteen) [0x55] (told (.patternLoad 16 0 fifteen) lit) ∧
    Ready (.patternLoad 2 1 fifteen) [0x55] (told (.patternLoad 2 1 fifteen) rumbling) ∧
    Ready (.patternLoad 2 1 fifteen) [0x55] (told (.patternLoad 2 1 fifteen) lit) :=
  ⟨test_told_is_ready _ _ (by decide) (by decide), test_told_is_ready _ _ (by decide) (by decide),
    test_told_is_ready _ _ (by decide) (by decide)⟩

theorem test_witness_RumbleCommands_load :
    (15 < (16 : Byte).toNat ∧ (16 : Byte) ≠ 0xFF) ∧
    (fifteen.length ≤ 15 ∧ (2 : Byte).toNat = (2 : Fin 16).val ∧
      rumbling.rumble.active.map (fun a => a.request.pattern) = some 2) ∧
    lit.rumble.active = none := by decide

theorem test_witness_RumbleCommands_load_steps :
    ∀ st ∈ fifteen, ¬(st.2 = 0 ∨ (15 < st.1.toNat ∧ st.1 ≠ 0xFF)) := by simp [fifteen]

/-- The drive of `rumbling` with three requests in the queue, or none, and a zero run. -/
def playable (queue : List Request) (active : Option Active) (zeroes : Nat) : State :=
  { rumbling with rumble := { rumbling.rumble with queue := queue, active := active, zeroRun := zeroes } }

theorem test_witness_RumbleCommands_play :
    let play := Instr.rumblePlay 2 1 255
    let three : List Request := [⟨2, 1, 9, .cue⟩, ⟨2, 0, 9, .cue⟩, ⟨2, 0, 9, .cue⟩]
    let a : Active := ⟨requestTwo, 1, 255, 255, .none⟩
    (Ready (.rumblePlay 0 4 1) [0x55] (told (.rumblePlay 0 4 1) lit) ∧ 3 < (4 : Byte).toNat) ∧
    (Ready play [0x55] (told play { lit with profile := { lit.profile with motor := false } }) ∧ (255 : Byte) ≠ 0) ∧
    (Ready play [0x55] (told play (setFault .stall lit)) ∧ hasFault .stall (setFault .stall lit) = true ∧
      lit.profile.motor = true) ∧
    (Ready play [0x55] (told play lit) ∧ lit.rumble.patterns[2].steps = [] ∧ hasFault .stall lit = false) ∧
    (Ready play [0x55] (told play rumbling) ∧ rumbling.rumble.patterns[2].steps ≠ [] ∧
      4 ≤ rumbling.rumble.queue.length ∧ (1 : Byte).toNat ≤ 1) ∧
    (Ready play [0x55] (told play (playable three (some a) 0)) ∧ (playable three (some a) 0).rumble.queue.length < 4) ∧
    (Ready (.rumblePlay 2 3 1) [0x55] (told (.rumblePlay 2 3 1) (playable three (some a) 7)) ∧ 1 < (3 : Byte).toNat ∧
      a.kick = .none ∧ (playable three (some a) 7).rumble.zeroRun < 8) ∧
    (Ready play [0x55] (told play (playable [] none 7)) ∧ (playable [] none 7).rumble.active = none) ∧
    (Ready play [0x55] (told play (playable [] none 8)) ∧ (playable [] none 8).rumble.zeroRun = 8 ∧
      (playable [] none 8).rumble.hot = false ∧ (playable [] none 8).supply.monitor = .run ∧
      (playable [] none 8).supply.holder = .none ∧
      (playable [] none 8).rumble.patterns[2].steps.head?.map (fun st => st.level) = some (.drive (14 + 1))) := by decide

theorem test_witness_RumbleCommands_stop_and_renew :
    (Ready (.rumbleStop 2) [0x55] (told (.rumbleStop 2) lit) ∧ 1 < (2 : Byte).toNat) ∧
    (Ready (.rumbleStop 1) [0x55] (told (.rumbleStop 1) lit) ∧ lit.rumble.active = none ∧ (1 : Byte).toNat ≤ 1) ∧
    (Ready (.rumbleStop 1) [0x55] (told (.rumbleStop 1) rumbling) ∧
      rumbling.rumble.active = some ⟨requestTwo, 1, 255, 255, .none⟩) ∧
    Ready (.rumbleRenew 0) [0x55] (told (.rumbleRenew 0) rumbling) ∧
    (Ready (.rumbleRenew 1) [0x55] (told (.rumbleRenew 1) lit) ∧ (1 : Byte) ≠ 0) ∧
    (Ready (.rumbleRenew 255) [0x55] (told (.rumbleRenew 255) rumbling) ∧ rumbling.rumble.patterns[2].rep = .loop) ∧
    (let s := shaking .once ⟨requestTwo, 1, 255, 255, .none⟩ lit;
      Ready (.rumbleRenew 1) [0x55] (told (.rumbleRenew 1) s) ∧ s.rumble.patterns[2].rep = .once) := by decide

/-- A request with one behind it, before a zero run and a holder of the grant. -/
def followed (k : Kick) (zeroes : Nat) (h : SurgeHolder) : State :=
  let s := playable [⟨2, 0, 9, .console⟩] (some ⟨requestTwo, 1, 255, 255, k⟩) zeroes
  { s with supply := { s.supply with holder := h } }

theorem test_witness_RumbleCommands_stop_with_a_queue :
    (∀ s ∈ [followed .none 7 .none, followed .none 8 .none, followed .none 8 .engine],
      Ready (.rumbleStop 0) [0x55] (told (.rumbleStop 0) s) ∧ s.rumble.queue = ⟨2, 0, 9, .console⟩ :: [] ∧
        s.supply.monitor = .run ∧ s.profile.motor = true ∧ hasFault .stall s = false ∧ s.rumble.hot = false ∧
        s.rumble.patterns[2].steps.head?.map (fun st => st.level) = some (.drive (14 + 1))) ∧
    (let s := followed (.kicking 2) 0 .kicker; Ready (.rumbleStop 1) [0x55] (told (.rumbleStop 1) s) ∧
      s.supply.holder = .kicker ∧ s.supply.engineReq = false ∧ s.supply.kickerReq = false) := by decide

/-- What stands against a kick, or for one: `playable` with another monitor state, HOT, first step or holder. -/
def startable (m : Monitor) (hot : Bool) (first : Level) (h : SurgeHolder) : State :=
  let s := playable [] none 8
  { s with supply := { s.supply with monitor := m, holder := h },
           rumble := { s.rumble with hot := hot, patterns := s.rumble.patterns.set 2 ⟨.once, [⟨first, 9⟩]⟩ } }

theorem test_witness_RumbleCommands_starts :
    (∀ s ∈ [startable .run false (.drive 0) .none, startable .run false .brake .none, startable .run true (.drive 1) .none,
        startable .warn false (.drive 1) .none, startable .run false (.drive 1) .none, startable .run false (.drive 1) .engine],
      Ready (.rumblePlay 2 1 255) [0x55] (told (.rumblePlay 2 1 255) s) ∧ s.profile.motor = true ∧
        hasFault .stall s = false ∧ s.rumble.patterns[2].steps ≠ [] ∧ s.rumble.active = none ∧ s.rumble.zeroRun = 8) ∧
    (let s := startable .run false (.drive 1) .engine; s.supply.monitor = .run ∧ s.rumble.hot = false ∧
      s.supply.holder ≠ .none ∧ s.rumble.patterns[2].steps.head?.map (fun st => st.level) = some (.drive (0 + 1))) := by decide

/-- A request of priority 1 under a kick, with one behind it, and an operation that waits behind the kick. -/
def kickedAndFollowed (k : Kick) (op : Option OpKind) : State :=
  let s := followed k 0 (if k = .waiting then .engine else .kicker)
  { s with supply := { s.supply with kickerReq := k == .waiting, engineReq := op.isSome },
           engine := ⟨[], op.map fun o => ⟨o, 7, .grantWait, 0, ⟨0, 0⟩, false⟩, 8⟩ }

theorem test_witness_RumbleCommands_end_kicks :
    (∀ s ∈ [kickedAndFollowed .waiting none, kickedAndFollowed (.kicking 3) none, kickedAndFollowed (.kicking 1) (some .commit),
        kickedAndFollowed (.kicking 1) (some .erase)],
      Ready (.rumbleStop 0) [0x55] (told (.rumbleStop 0) s) ∧ Ready (.rumblePlay 2 2 9) [0x55] (told (.rumblePlay 2 2 9) s) ∧
        s.rumble.active.map (fun a => a.request.priority) = some 1 ∧ 1 < (2 : Byte).toNat ∧
        s.rumble.queue = ⟨2, 0, 9, .console⟩ :: []) ∧
    (kickedAndFollowed .waiting none).rumble.active = some ⟨requestTwo, 1, 255, 255, .waiting⟩ ∧
    (let s := kickedAndFollowed (.kicking 3) none; s.rumble.active = some ⟨requestTwo, 1, 255, 255, .kicking 3⟩ ∧
      s.supply.holder = .kicker ∧ s.supply.kickerReq = false ∧ s.supply.engineReq = false) ∧
    (let s := kickedAndFollowed (.kicking 1) (some .erase); s.supply.holder = .kicker ∧ s.supply.kickerReq = false ∧
      s.supply.engineReq = true ∧ s.engine.flight = some ⟨.erase, 7, .grantWait, 0, ⟨0, 0⟩, false⟩) := by decide

/-- The same states for a cue's submission of pattern 2 at a priority: refused, queued, started, and preempting a kick. -/
theorem test_witness_CueNotes_rumble :
    (∀ s ∈ [playable [] none 8, startable .run false (.drive 1) .engine, kickedAndFollowed .waiting none,
        kickedAndFollowed (.kicking 3) none, kickedAndFollowed (.kicking 1) (some .commit),
        kickedAndFollowed (.kicking 1) (some .erase)],
      s.profile.motor = true ∧ hasFault .stall s = false ∧ s.rumble.patterns[2].steps ≠ [] ∧ s.rumble.queue.length < 4 ∧
        ∀ b ∈ s.rumble.active, b.request.priority = 1) ∧
    ((2 : Nat) = (2 : Fin 16).val ∧ rumbling.rumble.queue.length = 4 ∧
      rumbling.rumble.active = some ⟨requestTwo, 1, 255, 255, .none⟩) ∧
    ((startable .run false (.drive 1) .engine).supply.holder ≠ .none ∧ (playable [] none 8).supply.holder = .none) := by decide

/-- R139 and R145 by hand: a PLAY on a stopped motor under the engine's grant waits, and a STOP withdraws its request. -/
theorem test_play_waits_for_the_engine :
    let t := answeredWith (.rumblePlay 2 1 255) (startable .run false (.drive 1) .engine)
    let u := after (exec (.rumbleStop 1) (told (.rumbleStop 1) { t with cmd := lit.cmd })) lit
    (t.rumble.active.map (fun a => a.kick), t.supply.kickerReq, effectiveLevel t) = (some .waiting, true, 0) ∧
    (u.rumble.active, u.supply.kickerReq, u.supply.holder) = (none, false, .engine) := by decide

/-- A ONCE or LOOP request on a step with ticks and allowance left and a kick, the queue empty. -/
def ticked (rep : Repeat) (step left allowance : Nat) (k : Kick) : State :=
  let s := shaking rep ⟨requestTwo, step, left, allowance, k⟩ lit
  { s with supply := { s.supply with holder := if k = .kicking 1 then .kicker else .none } }

theorem test_witness_RumbleTickAdvances :
    (powered lit = true ∧ lit.crystal.running = true ∧ lit.rumble.active = none ∧ lit.rumble.queue = []) ∧
    (let s := ticked .once 0 2 1 .none; powered s = true ∧ s.rumble.active = some ⟨requestTwo, 0, 2, 1, .none⟩ ∧
      s.rumble.patterns[2].rep = .once ∧ effectiveLevel s = 15) ∧
    (let s := ticked .loop 0 2 2 .none; s.rumble.patterns[2].rep = .loop ∧
      s.rumble.active = some ⟨requestTwo, 0, 2, 2, .none⟩ ∧ 1 < 2) ∧
    (let s := ticked .loop 0 2 1 .none; s.rumble.queue = [] ∧ s.rumble.patterns[2].rep = .loop ∧
      s.rumble.active = some ⟨requestTwo, 0, 2, 1, .none⟩) ∧
    (let s := ticked .once 0 1 1 .none; s.rumble.patterns[2].steps[0 + 1]? = some ⟨.drive 3, 255⟩ ∧
      s.rumble.active = some ⟨requestTwo, 0, 1, 1, .none⟩) ∧
    (let s := ticked .loop 1 1 2 .none; 1 + 1 = s.rumble.patterns[2].steps.length ∧
      s.rumble.patterns[2].steps[0]? = some ⟨.drive 15, 4⟩ ∧ s.rumble.active = some ⟨requestTwo, 1, 1, 2, .none⟩) ∧
    (let s := ticked .once 1 1 1 .none; 1 + 1 = s.rumble.patterns[2].steps.length ∧ s.rumble.queue = [] ∧
      s.rumble.active = some ⟨requestTwo, 1, 1, 1, .none⟩) ∧
    (let s := ticked .once 0 2 1 (.kicking 1); s.rumble.active = some ⟨requestTwo, 0, 2, 1, .kicking 1⟩ ∧
      s.rumble.hot = false ∧ s.supply.monitor = .run ∧ s.profile.motor = true ∧ hasFault .stall s = false ∧
      s.supply.holder = .kicker ∧ s.supply.engineReq = false ∧ s.supply.kickerReq = false ∧ effectiveLevel s = 16 ∧
      ¬8 ≤ s.rumble.warnTicks) := by decide

/-- The same with one request behind it. -/
def tickedBefore (rep : Repeat) (step left allowance : Nat) : State :=
  let s := ticked rep step left allowance .none
  { s with rumble := { s.rumble with queue := [⟨2, 0, 9, .console⟩] } }

theorem test_witness_RumbleTick_head_starts :
    (let s := tickedBefore .loop 0 2 1; powered s = true ∧ s.rumble.queue = ⟨2, 0, 9, .console⟩ :: [] ∧
      s.rumble.active = some ⟨requestTwo, 0, 2, 1, .none⟩ ∧ s.rumble.patterns[2].rep = .loop) ∧
    (let s := tickedBefore .once 1 1 1; s.rumble.queue = ⟨2, 0, 9, .console⟩ :: [] ∧
      s.rumble.active = some ⟨requestTwo, 1, 1, 1, .none⟩ ∧ 1 + 1 = s.rumble.patterns[2].steps.length) := by decide

/-- A kick in the state before a tick, on the first step, with a heat and HOT. -/
def kickedAt (k : Kick) (left heat : Nat) (second : Level) : State :=
  let s := ticked .once 0 left 1 k
  { s with rumble := { s.rumble with heat := heat, patterns := s.rumble.patterns.set 2 ⟨.once, [⟨.drive 15, 4⟩, ⟨second, 9⟩]⟩ },
           supply := { s.supply with holder := if k = .waiting then .engine else .kicker, kickerReq := k == .waiting } }

theorem test_witness_RumbleTick_kicks :
    (let s := kickedAt .waiting 2 0 .brake; powered s = true ∧ s.rumble.active.map (fun a => a.kick) = some .waiting ∧
      s.rumble.patterns[2].rep = .once ∧ s.rumble.hot = false) ∧
    (let s := kickedAt (.kicking 2) 2 0 .brake; s.rumble.active.map (fun a => a.kick) = some (.kicking (0 + 2)) ∧
      ¬49152 ≤ min 65535 (s.rumble.heat - s.rumble.heat / 256 + 15 * effectiveLevel s)) ∧
    (let s := kickedAt (.kicking 2) 1 0 (.drive 1); s.rumble.patterns[2].steps[0 + 1]? = some ⟨.drive (0 + 1), 9⟩) ∧
    (let s := kickedAt (.kicking 2) 1 0 .brake; s.rumble.patterns[2].steps[0 + 1]? = some ⟨.brake, 9⟩ ∧
      s.supply.holder = .kicker ∧ s.supply.engineReq = false ∧ s.supply.kickerReq = false) ∧
    (let s := kickedAt (.kicking 3) 2 49152 .brake; s.rumble.hot = false ∧
      49152 ≤ min 65535 (s.rumble.heat - s.rumble.heat / 256 + 15 * effectiveLevel s)) := by decide

/-- A kick begins at a tick: eight ticks at 0, the ninth meets a drive step, with the grant free or held. -/
theorem test_witness_RumbleTick_kick_begins :
    (let s := warned 8; powered s = true ∧ s.supply.monitor = .run ∧ 8 ≤ s.rumble.warnTicks ∧ s.profile.motor = true ∧
      hasFault .stall s = false ∧ s.rumble.hot = false ∧ s.supply.holder = .none ∧
      s.rumble.patterns[2].steps[0]? = some ⟨.drive (14 + 1), 4⟩) ∧
    { (warned 8).supply with holder := SurgeHolder.engine }.holder ≠ .none := by decide

theorem test_witness_MotorLevelSlotsAndStall :
    (State.reset.supply.monitor ≠ .run ∧ lit.rumble.active = none) ∧
    (let s := ticked .once 0 2 1 .none; s.rumble.active = some ⟨requestTwo, 0, 2, 1, .none⟩ ∧
      s.rumble.patterns[2].steps[0]? = some ⟨.drive 15, 4⟩ ∧ { s.rumble with hot := true }.hot = true) ∧
    (powered lit = true ∧ lit.crystal.running = true) ∧
    (let s := ticked .once 0 2 1 .none; let t := { s with rumble := { s.rumble with stallInput := true } };
      powered t = true ∧ t.rumble.stallInput = true ∧ 0 < effectiveLevel t) ∧
    (let s := kickedAt .waiting 2 0 .brake; s.supply.monitor = .run ∧ hasFault .stall s = false ∧ s.profile.motor = true ∧
      s.rumble.active = some ⟨requestTwo, 0, 2, 1, .waiting⟩) ∧
    (kickedAt (.kicking 3) 2 0 .brake).rumble.active = some ⟨requestTwo, 0, 2, 1, .kicking 3⟩ ∧
    ((kickedAt .none 2 0 .brake).rumble.patterns[2].steps[1]? = some ⟨.brake, 9⟩ ∧
      (kickedAt .none 2 0 (.drive 0)).rumble.patterns[2].steps[1]? = some ⟨.drive 0, 9⟩) := by decide

/-- R143 by hand: level 15 driven, held to 6 while HOT, and 16 in a kick. -/
theorem test_motor_levels :
    let s := kickedAt .none 2 0 .brake
    (motorDrive s, motorDrive { s with rumble := { s.rumble with hot := true } }, motorDrive (kickedAt (.kicking 1) 2 0 .brake)) =
      ((15, .drive), (6, .drive), (16, .drive)) := by decide

/-! ## Statements about the supply watch and the resets -/

/-- The battery domain is lost. -/
def domainless : State := { State.reset with supply := { State.reset.supply with domainValid := false } }

theorem test_witness_BatteryAttachAndStartDelay :
    (domainless.supply.domainValid = false ∧ domainless.supply.monitor = .battery) ∧
    (State.reset.supply.domainValid = true ∧ State.reset.supply.monitor = .battery) ∧
    (underMonitor .starting State.reset).supply.monitor = .starting := by decide

/-- STARTING with a slot in every state a save can be caught in. -/
def recovering : State := underMonitor .starting saving

theorem test_witness_ConsolePowerUp :
    (recovering.supply.monitor = .starting ∧ recovering.supply.crst = false) ∧
    (recovering.dir.slots[0].state = .empty ∧ recovering.dir.slots[1].state = .opened ∧
      recovering.dir.slots[2].state = .erasing ∧ recovering.dir.slots[6].state = .opening) ∧
    (let s := { recovering with supply := { recovering.supply with crst := true } };
      s.supply.monitor = .starting ∧ s.supply.crst = true) ∧
    (validStraps 0b111000 = true ∧ validStraps 0b000111 = false ∧ validStraps 0b000011 = false) := by decide

/-- A request under a kick, the grant with the kicker. -/
def kicking (k : Kick) : State :=
  let s := shaking .once ⟨requestTwo, 0, 4, 20, k⟩ lit
  { s with supply := { s.supply with holder := if k = .waiting then .engine else .kicker, kickerReq := k == .waiting } }

theorem test_witness_WarnCutsTheKick :
    (lit.supply.monitor = .run ∧ lit.rumble.active = none) ∧
    ((ticked .once 0 2 1 .none).supply.monitor = .run ∧
      (ticked .once 0 2 1 .none).rumble.active = some ⟨requestTwo, 0, 2, 1, .none⟩) ∧
    ((kicking .waiting).supply.monitor = .run ∧
      (kicking .waiting).rumble.active = some ⟨requestTwo, 0, 4, 20, .waiting⟩) ∧
    ((kicking (.kicking 3)).supply.holder = .kicker ∧ (kicking (.kicking 3)).supply.engineReq = false ∧
      (kicking (.kicking 3)).rumble.active = some ⟨requestTwo, 0, 4, 20, .kicking 3⟩) ∧
    (brownOut.supply.monitor = .run ∧ brownOut.supply.holder = .kicker ∧ brownOut.supply.engineReq = true ∧
      brownOut.rumble.active = some ⟨requestTwo, 0, 4, 18, .kicking 2⟩ ∧
      brownOut.engine.flight = some ⟨.commit, 4, .grantWait, 0, ⟨0, 0⟩, false⟩) ∧
    (underMonitor .warn lit).supply.monitor = .warn := by decide

theorem test_witness_FailLeavesTheBatteryDomain :
    let flipping := underMonitor .warn (flying .erase .flip 4096 false { validOn 15 with state := .erasing })
    flipping.supply.monitor = .warn ∧ flipping.engine.flight = some ⟨.erase, 7, .flip, 4096, ⟨69, 159⟩, false⟩ := by decide

theorem test_witness_ResetsRevertOpenSaves :
    (answered opening = true ∧ (∀ f ∈ opening.engine.flight, f.kind = .open ∨ f.kind = .verify) ∧
      opening.rumble.active = none ∧ opening.dir.slots[1].state = .opening ∧ opening.dir.slots[0].state = .empty) ∧
    Ready .softReset [0x55] (told .softReset opening) ∧
    ({ validOn 1 with state := .erasing }.state = .erasing ∧ (⟨.erase, 7⟩ : QueueEntry) ∈ [(⟨.erase, 7⟩ : QueueEntry)]) := by
  decide

/-- A COMMIT or an ERASE of slot 7 in flight behind a kick, its request standing. -/
def behindKick (k : OpKind) (r : SlotRecord) : State :=
  let s := kicking (.kicking 2)
  setSlot 7 r { s with engine := ⟨[], some ⟨k, 7, .grantWait, 0, ⟨0, 0⟩, false⟩, 8⟩, supply := { s.supply with engineReq := true } }

theorem test_witness_Resets_with_operations_and_kicks :
    (∀ s ∈ [kicking .waiting, kicking (.kicking 3), behindKick .commit (workingOn .committing 1 ⟨1, 1⟩),
        behindKick .erase { validOn 1 with state := .erasing }],
      answered s = true ∧ Ready .softReset [0x55] (told .softReset s)) ∧
    ((kicking .waiting).rumble.active = some ⟨requestTwo, 0, 4, 20, .waiting⟩ ∧
      (kicking (.kicking 3)).rumble.active = some ⟨requestTwo, 0, 4, 20, .kicking 3⟩ ∧
      (kicking (.kicking 3)).supply.holder = .kicker ∧ (kicking (.kicking 3)).supply.kickerReq = false ∧
      (kicking (.kicking 3)).supply.engineReq = false) ∧
    (let s := behindKick .commit (workingOn .committing 1 ⟨1, 1⟩); s.supply.engineReq = true ∧ s.supply.holder = .kicker ∧
      s.engine.flight = some ⟨.commit, 7, .grantWait, 0, ⟨0, 0⟩, false⟩ ∧ s.dir.slots[7].state = .committing) ∧
    (saving.engine.flight = some ⟨.erase, 2, .fill, 4095, ⟨0, 0⟩, false⟩ ∧ saving.dir.slots[2].state = .erasing ∧
      saving.dir.slots[3].state = .committing) := by decide

theorem test_witness_ReleaseAndCellSense :
    (powered held = true ∧ held.supply.crst = true) ∧
    (let s := { State.reset with supply := { State.reset.supply with vbatLow := true } };
      s.supply.domainValid = true ∧ s.supply.vbatLow = true ∧ s.supply.batlowSense = false ∧ s.supply.monitor = .battery) ∧
    ((underMonitor .starting State.reset).supply.monitor = .starting ∧ powered lit = true) := by decide

end Sys2Proof.Tests
end

section
/-! SUPPORT. MAP SET and MAP GET (R5, R6): the fields of a map entry, the entries R3 allows, and what the two commands
do to the window map. -/

namespace Sys2Proof.Proofs

open Sys2Proof.Machine Sys2Proof.Safety Sys2Proof.Laws

/-! ## The fields of a map entry -/

theorem mapKindOf_eq_some {b : Byte} {k : MapKind} : mapKindOf b = some k ↔ b = byteOf k.code := by
  constructor
  · intro h
    apply BitVec.eq_of_toNat_eq
    unfold mapKindOf at h
    split at h <;> simp_all <;> subst h <;> rfl
  · rintro rfl
    cases k <;> rfl

theorem mapKindOf_eq_none {b : Byte} : mapKindOf b = none ↔ 4 < b.toNat := by
  unfold mapKindOf
  split <;> simp_all
  omega

theorem boolOf_eq_some {b : Byte} {w : Bool} : boolOf b = some w ↔ b = flagByte w := by
  constructor
  · intro h
    unfold boolOf at h
    split at h
    · cases h; assumption
    · split at h <;> cases h; assumption
  · rintro rfl
    cases w <;> rfl

theorem toNat_byteOf_mapKind_code (k : MapKind) : (byteOf k.code).toNat = k.code := by cases k <;> rfl

/-! ## The entries that R3 allows -/

theorem legal_iff_entryLegal {pages : Nat} {e : MapEntry} : e.legal pages = true ↔ EntryLegal pages e := by
  obtain ⟨k, p, w⟩ := e
  cases k <;> simp [MapEntry.legal, EntryLegal]
  omega

/-- The fields that MAP SET refuses with BAD_ARG under a page count (R5). -/
def BadMapSet (pages : Nat) (strip kind page writable : Byte) : Prop :=
  15 < strip.toNat ∨ 4 < kind.toNat ∨ 1 < writable.toNat ∨
    (kind = 1 ∧ pages ≤ page.toNat) ∨ (kind = 2 ∧ 7 < page.toNat) ∨
    ((kind = 0 ∨ kind = 3 ∨ kind = 4) ∧ page ≠ 0) ∨ (writable = 1 ∧ (kind = 1 ∨ kind = 3 ∨ kind = 0))

/-- With every field in range, the refused fields are those whose entry R3 does not allow. -/
theorem badMapSet_iff_not_entryLegal {pages : Nat} {strip page : Byte} {k : MapKind} {w : Bool}
    (hs : strip.toNat < 16) :
    BadMapSet pages strip (byteOf k.code) page (flagByte w) ↔ ¬EntryLegal pages ⟨k, page.toNat, w⟩ := by
  have hpage : page = 0#8 ↔ page.toNat = 0 := BitVec.toNat_inj.symm
  have hstrip : ¬15 < strip.toNat := by omega
  cases k <;> cases w <;> simp [BadMapSet, EntryLegal, MapKind.code, byteOf, flagByte, hstrip, hpage]

/-- MAP SET's fields give the strip and entry they name exactly where that entry is legal. -/
theorem mapSetFields_eq_some {pages : Nat} {strip kind page writable : Byte} {i : Fin 16} {e : MapEntry} :
    mapSetFields pages strip kind page writable = some (i, e) ↔
      strip.toNat = i.val ∧ kind = byteOf e.kind.code ∧ page.toNat = e.page ∧ writable = flagByte e.writable ∧
        EntryLegal pages e := by
  rw [← indexOf_eq_some, ← mapKindOf_eq_some, ← boolOf_eq_some, ← legal_iff_entryLegal]
  unfold mapSetFields
  split
  next j k w hstrip hkind hwritable =>
    simp only [hstrip, hkind, hwritable, Option.some.injEq]
    split
    next hlegal =>
      constructor
      · rintro ⟨⟩
        exact ⟨rfl, rfl, rfl, rfl, hlegal⟩
      · rintro ⟨rfl, rfl, hpage, rfl, -⟩
        rw [hpage]
    next hlegal =>
      constructor
      · nofun
      · rintro ⟨rfl, rfl, hpage, rfl, h⟩
        exact absurd (hpage ▸ h) hlegal
  next hnone =>
    constructor
    · nofun
    · rintro ⟨hstrip, hkind, -, hwritable, -⟩
      exact (hnone _ _ _ hstrip hkind hwritable).elim

/-- MAP SET's fields give no entry exactly where R5 refuses them. -/
theorem mapSetFields_eq_none {pages : Nat} {strip kind page writable : Byte} :
    mapSetFields pages strip kind page writable = none ↔ BadMapSet pages strip kind page writable := by
  constructor
  · intro hnone
    by_contra hbad
    have ⟨hs, hk, hw⟩ : strip.toNat < 16 ∧ mapKindOf kind ≠ none ∧ boolOf writable ≠ none := by
      rw [Ne, Ne, mapKindOf_eq_none, boolOf_eq_none]
      unfold BadMapSet at hbad
      omega
    obtain ⟨k, hk⟩ := Option.ne_none_iff_exists'.1 hk
    obtain ⟨w, hw⟩ := Option.ne_none_iff_exists'.1 hw
    obtain rfl := mapKindOf_eq_some.1 hk
    obtain rfl := boolOf_eq_some.1 hw
    have hlegal : EntryLegal pages ⟨k, page.toNat, w⟩ :=
      not_not.1 (mt (badMapSet_iff_not_entryLegal hs).2 hbad)
    have hsome := (mapSetFields_eq_some (i := ⟨strip.toNat, hs⟩)).2 ⟨rfl, rfl, rfl, rfl, hlegal⟩
    exact absurd (hnone.symm.trans hsome) nofun
  · intro hbad
    rw [Option.eq_none_iff_forall_ne_some]
    rintro ⟨i, k, p, w⟩ hsome
    obtain ⟨hs, rfl, rfl, rfl, hlegal⟩ := mapSetFields_eq_some.1 hsome
    exact (badMapSet_iff_not_entryLegal (by omega)).1 hbad hlegal

/-! ## The two commands -/

theorem exec_mapSet_of_ready {strip kind page writable : Byte} {rest : List Byte} {s : State}
    (h : Ready (.mapSet strip kind page writable) rest s) :
    exec (.mapSet strip kind page writable) s = .next (mapSetEffect strip kind page writable (taken rest s)) :=
  command_of_ready h _

theorem exec_mapGet_of_ready {strip : Byte} {rest : List Byte} {s : State} (h : Ready (.mapGet strip) rest s) :
    exec (.mapGet strip) s = .next (mapGetEffect strip (taken rest s)) :=
  command_of_ready h _

theorem mapSetEffect_of_bad {strip kind page writable : Byte} {s : State}
    (h : BadMapSet s.profile.pageCount strip kind page writable) :
    mapSetEffect strip kind page writable s = answer .badArg s := by
  simp only [mapSetEffect, mapSetFields_eq_none.2 h]

theorem mapSetEffect_of_fields {strip kind page writable : Byte} {s : State} {i : Fin 16} {e : MapEntry}
    (h : mapSetFields s.profile.pageCount strip kind page writable = some (i, e)) :
    mapSetEffect strip kind page writable s = answer .ok { s with map := s.map.set i.val e i.isLt } := by
  simp only [mapSetEffect, h]

theorem mapGetEffect_of_ge {strip : Byte} {s : State} (h : 16 ≤ strip.toNat) :
    mapGetEffect strip s = answer .badArg s := by
  simp only [mapGetEffect, indexOf_eq_none.2 h]

theorem mapGetEffect_of_index {strip : Byte} {s : State} {i : Fin 16} (h : strip.toNat = i.val) :
    mapGetEffect strip s =
      reply .ok [strip, byteOf s.map[i].kind.code, byteOf s.map[i].page, flagByte s.map[i].writable] s := by
  simp only [mapGetEffect, indexOf_eq_some.2 h]

/-- Settles O24: the refused fields are those that name no legal entry (`mapSetFields_eq_none`); otherwise the entry that
the fields give takes the place of the strip's, and no other strip's changes. -/
theorem mapSetReplacesLegalEntry : Obligations.MapSetReplacesLegalEntry := by
  intro strip kind page writable rest s c bad hready
  refine ⟨fun hbad => ?_, fun hgood => ?_⟩
  · exact (exec_mapSet_of_ready hready).trans (congrArg _ (mapSetEffect_of_bad (s := taken rest s) hbad))
  · obtain ⟨⟨j, e⟩, hfields⟩ := Option.ne_none_iff_exists'.1 (mt mapSetFields_eq_none.1 hgood)
    obtain ⟨hstrip, hkind, hpage, hwritable, -⟩ := mapSetFields_eq_some.1 hfields
    refine ⟨s.map.set j.val e j.isLt, ?_, fun i => ⟨fun hi => ?_, fun hi => ?_⟩⟩
    · exact (exec_mapSet_of_ready hready).trans (congrArg _ (mapSetEffect_of_fields (s := taken rest s) hfields))
    · have hij : i = j := Fin.ext (hi.trans hstrip)
      have hentry : (s.map.set j.val e j.isLt)[i] = e := by simp [hij]
      rw [hentry, hkind, hwritable, toNat_byteOf_mapKind_code]
      exact ⟨rfl, hpage.symm, by cases e.writable <;> rfl⟩
    · exact Vector.getElem_set_ne _ _ (by omega)

/-- Settles O25, by the strip's index: one above 15 names no entry. -/
theorem mapGetReportsEntry : Obligations.MapGetReportsEntry := by
  intro strip rest s c hready
  refine ⟨fun hout => ?_, fun i hi => ?_⟩
  · exact (exec_mapGet_of_ready hready).trans (congrArg _ (mapGetEffect_of_ge hout))
  · exact (exec_mapGet_of_ready hready).trans (congrArg _ (mapGetEffect_of_index hi))

end Sys2Proof.Proofs
end

section
/-! SUPPORT. SLOT PROTECT (R37, R40): gathered bits read back, the protected set as a byte, the fields the command refuses,
and what it does in and out of the protect window. -/

namespace Sys2Proof.Proofs

open Sys2Proof.Machine Sys2Proof.Safety Sys2Proof.Laws

/-! ## Gathered bits -/

theorem testBit_bitsOf (l : List Bool) (i : Nat) : (bitsOf l).testBit i = l[i]?.getD false := by
  induction l generalizing i with
  | nil => simp [bitsOf]
  | cons b rest ih =>
    cases i with
    | zero => cases b <;> simp [bitsOf]
    | succ i =>
      have hhalf : bitsOf (b :: rest) / 2 = bitsOf rest := by cases b <;> simp [bitsOf]; omega
      rw [Nat.testBit_succ, hhalf, ih, List.getElem?_cons_succ]

theorem getLsbD_byteOf_bitsOf {l : List Bool} {i : Nat} (h : i < 8) :
    (byteOf (bitsOf l)).getLsbD i = l[i]?.getD false := by
  rw [byteOf, BitVec.getLsbD_ofNat, testBit_bitsOf, decide_eq_true h, Bool.true_and]

/-! ## The protected set -/

theorem getElem?_allSlots (n : SlotNo) : allSlots[n.val]? = some n := by
  revert n
  decide

/-- The byte of a protected set holds each slot's membership at the slot's own bit. -/
theorem getLsbD_protectedByte (p : Protect) (n : SlotNo) : (protectedByte p).getLsbD n.val = isProtected p n := by
  rw [protectedByte, getLsbD_byteOf_bitsOf n.isLt, List.getElem?_map, getElem?_allSlots, Option.map_some, Option.getD_some]

theorem isProtected_low (count : Nat) (invert : Bool) (n : SlotNo) :
    isProtected ⟨count, .low, invert⟩ n = (decide (n.val < count) != invert) := rfl

theorem isProtected_high (count : Nat) (invert : Bool) (n : SlotNo) :
    isProtected ⟨count, .high, invert⟩ n = (decide (8 - count ≤ n.val) != invert) := by
  simp only [isProtected, Nat.sub_le_iff_le_add]

/-! ## The fields of SLOT PROTECT -/

/-- A side code is a flag: set, it names the high side. -/
theorem sideOf_eq_map_boolOf (b : Byte) : sideOf b = (boolOf b).map fun high => if high then .high else .low := by
  unfold sideOf boolOf
  split
  · rfl
  · split <;> rfl

theorem sideOf_eq_none {b : Byte} : sideOf b = none ↔ 1 < b.toNat := by
  rw [sideOf_eq_map_boolOf, Option.map_eq_none_iff, boolOf_eq_none]

theorem sideOf_of_le {b : Byte} (h : b.toNat ≤ 1) : sideOf b = some (if b = 0 then .low else .high) := by
  obtain ⟨high, hflag⟩ := Option.ne_none_iff_exists'.1 (mt boolOf_eq_none.1 (Nat.not_lt.2 h))
  obtain rfl := boolOf_eq_some.1 hflag
  cases high <;> rfl

/-- The fields that SLOT PROTECT refuses with BAD_ARG (R40). -/
def BadProtect (count side invert : Byte) : Prop := 8 < count.toNat ∨ 1 < side.toNat ∨ 1 < invert.toNat

theorem protectOf_of_bad {count side invert : Byte} (h : BadProtect count side invert) :
    protectOf count side invert = none := by
  unfold protectOf
  split
  next sd inv hcount hside hinvert =>
    rcases h with h | h | h
    · exact absurd (of_decide_eq_true hcount) (by omega)
    · exact absurd (hside.symm.trans (sideOf_eq_none.2 h)) nofun
    · exact absurd (hinvert.symm.trans (boolOf_eq_none.2 h)) nofun
  next => rfl

/-- The setting that three fields in range name. -/
theorem protectOf_of_good {count side invert : Byte} (h : ¬BadProtect count side invert) :
    protectOf count side invert =
      some ⟨count.toNat, if side = 0 then .low else .high, decide (invert = 1)⟩ := by
  have ⟨hcount, hside, hinvert⟩ : count.toNat ≤ 8 ∧ side.toNat ≤ 1 ∧ invert.toNat ≤ 1 := by
    unfold BadProtect at h
    omega
  simp only [protectOf, hcount, sideOf_of_le hside, boolOf_of_le hinvert, decide_true]

/-! ## The command -/

theorem exec_slotProtect_of_ready {count side invert : Byte} {rest : List Byte} {s : State}
    (h : Ready (.slotProtect count side invert) rest s) :
    exec (.slotProtect count side invert) s = .next (slotProtectEffect count side invert (taken rest s)) :=
  command_of_ready h _

theorem slotProtectEffect_of_bad {count side invert : Byte} {s : State} (h : BadProtect count side invert) :
    slotProtectEffect count side invert s = answer .badArg s := by
  simp only [slotProtectEffect, protectOf_of_bad h]

theorem slotProtectEffect_of_closed {count side invert : Byte} {s : State} (h : ¬BadProtect count side invert)
    (hclosed : s.dir.windowOpen = false) : slotProtectEffect count side invert s = answer .locked s := by
  simp [slotProtectEffect, protectOf_of_good h, hclosed]

theorem slotProtectEffect_of_open {count side invert : Byte} {s : State} {p : Protect}
    (h : protectOf count side invert = some p) (hopen : s.dir.windowOpen = true) :
    slotProtectEffect count side invert s =
      reply .ok [protectedByte p] { s with dir := { s.dir with protect := p } } := by
  simp only [slotProtectEffect, h, hopen, if_true]

/-- Settles O27: the arguments give a setting or none (`protectOf_of_good`, `protectOf_of_bad`), the window decides over
one that is given, and the reply's byte is the protected set bit by bit (`getLsbD_protectedByte`). -/
theorem protectReplacesSetting : Obligations.ProtectReplacesSetting := by
  intro count side invert rest s c bad hready
  have hexec := exec_slotProtect_of_ready hready
  refine ⟨fun hbad => ?_, fun hgood hclosed => ?_, fun hgood hopen => ?_⟩
  · exact hexec.trans (congrArg _ (slotProtectEffect_of_bad hbad))
  · exact hexec.trans (congrArg _ (slotProtectEffect_of_closed (s := taken rest s) hgood hclosed))
  · have hfields := protectOf_of_good hgood
    refine ⟨_, hexec.trans (congrArg _ (slotProtectEffect_of_open (s := taken rest s) hfields hopen)), fun n => ?_⟩
    rw [getLsbD_protectedByte]
    split
    · exact isProtected_low ..
    · exact isProtected_high ..

end Sys2Proof.Proofs
end

section
/-! SUPPORT. CLOCK SET and CLOCK TRIM (R73, R75, R76): the days of whole years and months, the dates whose day number the
calendar holds, and what the two commands do to the time record. -/

namespace Sys2Proof.Proofs

open Sys2Proof.Machine Sys2Proof.Safety Sys2Proof.Laws

/-! ## Whole years and months -/

theorem daysOfYears_eq_sum (n : Nat) :
    daysOfYears n = ((List.range n).map fun i => yearLength (2000 + i)).sum := by
  induction n with
  | zero => rfl
  | succ n ih => rw [daysOfYears, ih, List.sum_range_succ]

theorem daysOfMonths_eq_sum (year n : Nat) :
    daysOfMonths year n = ((List.range n).map fun i => monthLength year (i + 1)).sum := by
  induction n with
  | zero => rfl
  | succ n ih => rw [daysOfMonths, ih, List.sum_range_succ]

theorem daysOfYears_mono : Monotone daysOfYears := monotone_nat_of_le_succ fun _ => Nat.le_add_right ..

theorem daysOfMonths_mono (year : Nat) : Monotone (daysOfMonths year) :=
  monotone_nat_of_le_succ fun _ => Nat.le_add_right ..

theorem daysOfMonths_twelve (year : Nat) : daysOfMonths year 12 = yearLength year := by
  simp only [daysOfMonths, monthLength, yearLength]
  cases isLeap year <;> rfl

/-- Year n of the calendar is 2000 + n: its days are 365, one more in each fourth year, and 2100 has no leap day. -/
theorem daysOfYears_eq (n : Nat) : daysOfYears n = 365 * n + (n + 3) / 4 - if 100 < n then 1 else 0 := by
  induction n with
  | zero => rfl
  | succ n ih =>
    rw [daysOfYears, ih]
    simp only [yearLength, isLeap, Bool.and_eq_true, beq_iff_eq, bne_iff_ne]
    split_ifs <;> omega

/-! ## The dates with a day number of the calendar -/

/-- A day of a month lies before the next month. -/
theorem daysOfMonths_add_day_le {year month day : Nat} (hmonth : 1 ≤ month) (hday : day ≤ monthLength year month) :
    daysOfMonths year (month - 1) + day ≤ daysOfMonths year month := by
  obtain ⟨n, rfl⟩ := Nat.exists_eq_add_of_le' hmonth
  exact Nat.add_le_add_left hday _

/-- A date lies before the next year. -/
theorem dayNumber_lt_daysOfYears {year month day : Nat} (hyear : 2000 ≤ year) (hmonth : 1 ≤ month ∧ month ≤ 12)
    (hday : 1 ≤ day ∧ day ≤ monthLength year month) : dayNumber year month day < daysOfYears (year - 2000 + 1) := by
  have hnext : daysOfYears (year - 2000 + 1) = daysOfYears (year - 2000) + daysOfMonths year 12 := by
    rw [daysOfYears, daysOfMonths_twelve, Nat.add_sub_cancel' hyear]
  have hwithin := daysOfMonths_add_day_le hmonth.1 hday.2
  have hrest := daysOfMonths_mono year hmonth.2
  unfold dayNumber
  omega

/-- In its last year the calendar ends with 6 June. -/
theorem dayNumber_2179_le_iff {month day : Nat} (hmonth : 1 ≤ month)
    (hday : 1 ≤ day ∧ day ≤ monthLength 2179 month) :
    dayNumber 2179 month day ≤ 65535 ↔ month < 6 ∨ month = 6 ∧ day ≤ 6 := by
  have hyears : daysOfYears (2179 - 2000) = 65379 := daysOfYears_eq 179
  have hfive : daysOfMonths 2179 (6 - 1) = 151 := rfl
  have hsix : daysOfMonths 2179 6 = 181 := rfl
  rw [dayNumber, hyears]
  rcases Nat.lt_trichotomy month 6 with hbefore | rfl | hafter
  · have hwithin := daysOfMonths_add_day_le hmonth hday.2
    have hend := daysOfMonths_mono 2179 (show month ≤ 6 - 1 by omega)
    omega
  · omega
  · have hstart := daysOfMonths_mono 2179 (show 6 ≤ month - 1 by omega)
    omega

/-- R73's bound on the day number is a bound on the date. -/
theorem dayNumber_le_iff {year month day : Nat} (hyear : 2000 ≤ year ∧ year ≤ 2179) (hmonth : 1 ≤ month ∧ month ≤ 12)
    (hday : 1 ≤ day ∧ day ≤ monthLength year month) :
    dayNumber year month day ≤ 65535 ↔ year < 2179 ∨ month < 6 ∨ month = 6 ∧ day ≤ 6 := by
  rcases Nat.lt_or_eq_of_le hyear.2 with hbefore | rfl
  · have hdate := dayNumber_lt_daysOfYears hyear.1 hmonth hday
    have hend : daysOfYears (year - 2000 + 1) ≤ 65379 :=
      (daysOfYears_mono (show year - 2000 + 1 ≤ 179 by omega)).trans_eq (daysOfYears_eq 179)
    omega
  · simpa using dayNumber_2179_le_iff hmonth.1 hday

theorem validDate_iff {year month day : Nat} :
    validDate year month day = true ↔
      2000 ≤ year ∧ year ≤ 2179 ∧ 1 ≤ month ∧ month ≤ 12 ∧ 1 ≤ day ∧ day ≤ monthLength year month ∧
        (year < 2179 ∨ month < 6 ∨ month = 6 ∧ day ≤ 6) := by
  simp only [validDate, Bool.and_eq_true, decide_eq_true_eq, and_assoc]
  constructor
  · rintro ⟨hy, hy', hm, hm', hd, hd', hn⟩
    exact ⟨hy, hy', hm, hm', hd, hd', (dayNumber_le_iff ⟨hy, hy'⟩ ⟨hm, hm'⟩ ⟨hd, hd'⟩).1 hn⟩
  · rintro ⟨hy, hy', hm, hm', hd, hd', hn⟩
    exact ⟨hy, hy', hm, hm', hd, hd', (dayNumber_le_iff ⟨hy, hy'⟩ ⟨hm, hm'⟩ ⟨hd, hd'⟩).2 hn⟩

/-! ## The two commands -/

/-- The fields that CLOCK SET accepts (R75). -/
def GoodClockSet (year : Word16) (month day hour minute second : Byte) : Prop :=
  validDate year.toNat month.toNat day.toNat = true ∧ hour.toNat ≤ 23 ∧ minute.toNat ≤ 59 ∧ second.toNat ≤ 59

section
variable {year : Word16} {month day hour minute second trim : Byte} {rest : List Byte} {s : State}

theorem exec_clockSet_of_ready (h : Ready (.clockSet year month day hour minute second) rest s) :
    exec (.clockSet year month day hour minute second) s =
      .next (clockSetEffect year month day hour minute second (taken rest s)) :=
  command_of_ready h _

theorem exec_clockTrim_of_ready (h : Ready (.clockTrim trim) rest s) :
    exec (.clockTrim trim) s = .next (clockTrimEffect trim (taken rest s)) :=
  command_of_ready h _

theorem clockSetEffect_of_bad (h : ¬GoodClockSet year month day hour minute second) :
    clockSetEffect year month day hour minute second s = answer .badArg s := if_neg h

theorem clockSetEffect_of_good (h : GoodClockSet year month day hour minute second) :
    clockSetEffect year month day hour minute second s =
      answer .ok (setCal (s.cal.setTo (dayNumber year.toNat month.toNat day.toNat)
        (hour.toNat * 3600 + minute.toNat * 60 + second.toNat)) s) := if_pos h

theorem clockTrimEffect_of_bad (h : trim.toInt < -64 ∨ 63 < trim.toInt) :
    clockTrimEffect trim s = answer .badArg s := if_pos h

theorem clockTrimEffect_of_good (hlow : -64 ≤ trim.toInt) (hhigh : trim.toInt ≤ 63) :
    clockTrimEffect trim s = answer .ok (setCal { s.cal with trim := trim.toInt } s) :=
  if_neg (not_or.2 ⟨Int.not_lt.2 hlow, Int.not_lt.2 hhigh⟩)

end

/-- Settles O38: the dates accepted are those whose day number the calendar holds (`validDate_iff`), and the day number
is the days of the whole years and months before the date (`daysOfYears_eq_sum`, `daysOfMonths_eq_sum`). -/
theorem clockCommandsSetTime : Obligations.ClockCommandsSetTime := by
  intro year month day hour minute second trim rest s y m d ok number
  have hok : GoodClockSet year month day hour minute second ↔ ok := by
    simp only [GoodClockSet, validDate_iff, and_assoc, ok, y, m, d]
  have hnumber : dayNumber y m d = number := by
    rw [dayNumber, daysOfYears_eq_sum, daysOfMonths_eq_sum]
  refine ⟨fun hready => ?_, fun hready => ?_⟩
  · have hexec := exec_clockSet_of_ready hready
    refine ⟨fun hbad => ?_, fun hgood => ?_⟩
    · exact hexec.trans (congrArg _ (clockSetEffect_of_bad (mt hok.1 hbad)))
    · rw [← hnumber]
      exact hexec.trans (congrArg _ (clockSetEffect_of_good (hok.2 hgood)))
  · have hexec := exec_clockTrim_of_ready hready
    refine ⟨fun hbad => ?_, fun hlow hhigh => ?_⟩
    · exact hexec.trans (congrArg _ (clockTrimEffect_of_bad hbad))
    · exact hexec.trans (congrArg _ (clockTrimEffect_of_good hlow hhigh))

end Sys2Proof.Proofs
end

section
/-! SUPPORT. ENVELOPE_TICK (R104): what a voice's record becomes at a tick by its phase, and what replacing every voice's
record in turn does to the state. -/

namespace Sys2Proof.Proofs

open Sys2Proof.Machine Sys2Proof.Safety Sys2Proof.Laws

/-! ## A voice's replaced record -/

theorem endGrant_eq (h : Holder) (s : State) :
    endGrant h s = { s with port := { s.port with grant := s.port.grant.filter fun g => decide (g.holder ≠ h) } } := by
  simp only [endGrant, ne_eq, decide_not, beq_eq_decide]

theorem putVoice_of_idle {n : VoiceNo} {v : Voice} {s : State} (h : v.phase = .idle) :
    putVoice n v s = endGrant (.voice n) (setVoice n v s) := if_pos h

theorem putVoice_of_not_idle {n : VoiceNo} {v : Voice} {s : State} (h : v.phase ≠ .idle) :
    putVoice n v s = setVoice n v s := if_neg h

theorem putVoice_voices (n : VoiceNo) (v : Voice) (s : State) :
    (putVoice n v s).voices = s.voices.set n.val v n.isLt := by rw [putVoice_eq]

theorem getElem_putVoice_same (n : VoiceNo) (v : Voice) (s : State) : (putVoice n v s).voices[n] = v := by
  rw [putVoice_voices]
  exact Vector.getElem_set_self _

theorem getElem_putVoice_of_ne {n m : VoiceNo} (h : n ≠ m) (v : Voice) (s : State) :
    (putVoice n v s).voices[m] = s.voices[m] := by
  rw [putVoice_voices]
  exact Vector.getElem_set_ne _ _ (Fin.val_ne_of_ne h)

/-- A replaced voice can lose the port its grant; it gives none. -/
theorem mem_grant_of_mem_putVoice_grant {n : VoiceNo} {v : Voice} {s : State} {g : Grant}
    (h : g ∈ (putVoice n v s).port.grant) : g ∈ s.port.grant := by
  by_cases hidle : v.phase = .idle
  · rw [putVoice_of_idle hidle, endGrant_eq] at h
    exact (Option.mem_filter_iff.1 h).1
  · rwa [putVoice_of_not_idle hidle] at h

/-! ## Every voice's record replaced in turn -/

/-- Each listed voice's record becomes what f makes of it, one after the other. -/
def mapVoices (f : Voice → Voice) (l : List VoiceNo) (s : State) : State :=
  l.foldl (fun s n => putVoice n (f s.voices[n]) s) s

theorem envelopeAll_eq_mapVoices (s : State) : envelopeAll s = mapVoices Voice.envelope allVoices s := rfl

theorem mapVoices_cons (f : Voice → Voice) (n : VoiceNo) (l : List VoiceNo) (s : State) :
    mapVoices f (n :: l) s = mapVoices f l (putVoice n (f s.voices[n]) s) := rfl

theorem mapVoices_frame (f : Voice → Voice) (l : List VoiceNo) (s : State) :
    { mapVoices f l s with voices := s.voices, port := s.port } = s := by
  have heq : mapVoices f l s =
      { s with voices := (mapVoices f l s).voices, port := (mapVoices f l s).port } := by
    induction l generalizing s with
    | nil => rfl
    | cons n l ih =>
      rw [mapVoices_cons]
      refine (ih _).trans ?_
      generalize mapVoices f l _ = t
      rw [putVoice_eq]
  rw [heq]

theorem getElem_mapVoices_of_not_mem {f : Voice → Voice} {l : List VoiceNo} {n : VoiceNo} (h : n ∉ l) (s : State) :
    (mapVoices f l s).voices[n] = s.voices[n] := by
  induction l generalizing s with
  | nil => rfl
  | cons m l ih =>
    obtain ⟨hne, hrest⟩ := not_or.1 (mt List.mem_cons.2 h)
    rw [mapVoices_cons, ih hrest, getElem_putVoice_of_ne (Ne.symm hne)]

theorem getElem_mapVoices_of_mem {f : Voice → Voice} {l : List VoiceNo} (hl : l.Nodup) {n : VoiceNo} (h : n ∈ l)
    (s : State) : (mapVoices f l s).voices[n] = f s.voices[n] := by
  induction l generalizing s with
  | nil => nomatch h
  | cons m l ih =>
    obtain ⟨hm, hl⟩ := List.nodup_cons.1 hl
    rw [mapVoices_cons]
    rcases List.mem_cons.1 h with rfl | hrest
    · rw [getElem_mapVoices_of_not_mem hm, getElem_putVoice_same]
    · have hne : m ≠ n := fun e => hm (e ▸ hrest)
      rw [ih hl hrest, getElem_putVoice_of_ne hne]

theorem mem_grant_of_mem_mapVoices_grant {f : Voice → Voice} {l : List VoiceNo} {s : State} {g : Grant}
    (h : g ∈ (mapVoices f l s).port.grant) : g ∈ s.port.grant := by
  induction l generalizing s with
  | nil => exact h
  | cons n l ih => exact mem_grant_of_mem_putVoice_grant (ih h)

/-- A voice that reaches IDLE holds no grant, whatever voices follow it. -/
theorem mapVoices_grant_of_idle {f : Voice → Voice} {l : List VoiceNo} (hl : l.Nodup) {n : VoiceNo} (h : n ∈ l)
    {s : State} (hidle : (f s.voices[n]).phase = .idle) :
    ∀ g ∈ (mapVoices f l s).port.grant, g.holder ≠ .voice n := by
  induction l generalizing s with
  | nil => nomatch h
  | cons m l ih =>
    obtain ⟨hm, hl⟩ := List.nodup_cons.1 hl
    rw [mapVoices_cons]
    rcases List.mem_cons.1 h with rfl | hrest
    · exact fun g hg => putVoice_grant _ _ _ hidle g (mem_grant_of_mem_mapVoices_grant hg)
    · have hne : m ≠ n := fun e => hm (e ▸ hrest)
      exact ih hl hrest (by rwa [getElem_putVoice_of_ne hne])

/-! ## The envelope's step by phase -/

theorem envelope_of_still {v : Voice} (h : v.phase = .idle ∨ v.phase = .sustain) : v.envelope = v := by
  rcases h with h | h <;> simp only [Voice.envelope, h]

theorem envelope_of_attack {v : Voice} (h : v.phase = .attack) :
    v.envelope = if 127 ≤ v.env + v.snapshot.attack then { v with env := 127, phase := .decay }
      else { v with env := v.env + v.snapshot.attack } := by
  simp only [Voice.envelope, h]

theorem envelope_of_decay {v : Voice} (h : v.phase = .decay) :
    v.envelope = if v.snapshot.decay = 0 then { v with phase := .sustain }
      else if v.env ≤ v.snapshot.sustain + v.snapshot.decay then
        { v with env := v.snapshot.sustain, phase := .sustain }
      else { v with env := v.env - v.snapshot.decay } := by
  simp only [Voice.envelope, h]

theorem envelope_of_release {v : Voice} (h : v.phase = .release) :
    v.envelope = if v.env ≤ v.snapshot.release then v.toIdle
      else { v with env := v.env - v.snapshot.release } := by
  simp only [Voice.envelope, h]

/-! ## The tick -/

theorem nodup_allVoices : allVoices.Nodup := by decide

theorem mem_allVoices (n : VoiceNo) : n ∈ allVoices := by
  revert n
  decide

theorem exec_envelopeTick {s : State} (hpow : powered s = true) (hrun : s.crystal.running = true) :
    exec .envelopeTick s = .next (mapVoices Voice.envelope allVoices s) :=
  (if_pos (Bool.and_eq_true_iff.2 ⟨hpow, hrun⟩)).trans (congrArg _ (envelopeAll_eq_mapVoices s))

/-- Settles O47: the tick replaces each voice's record once (`getElem_mapVoices_of_mem`) by its envelope's step in its
phase, and a voice released to IDLE keeps no grant (`mapVoices_grant_of_idle`). -/
theorem envelopeTickStepsEveryVoice : Obligations.EnvelopeTickStepsEveryVoice := by
  intro s hpow hrun
  refine ⟨_, exec_envelopeTick hpow hrun, mapVoices_frame .., ?_⟩
  intro n v p
  rw [getElem_mapVoices_of_mem nodup_allVoices (mem_allVoices n)]
  refine ⟨envelope_of_still, fun hph hlow => ?_, fun hph hfull => ?_, fun hph hzero => ?_, fun hph hstep hnear => ?_,
    fun hph hstep hfar => ?_, fun hph hhigh => ?_, fun hph hend => ?_⟩
  · rw [envelope_of_attack hph, if_neg (Nat.not_le.2 hlow)]
  · rw [envelope_of_attack hph, if_pos hfull]
  · rw [envelope_of_decay hph, if_pos hzero]
  · rw [envelope_of_decay hph, if_neg hstep, if_pos hnear]
  · rw [envelope_of_decay hph, if_neg hstep, if_neg (Nat.not_le.2 hfar)]
  · rw [envelope_of_release hph, if_neg (Nat.not_le.2 hhigh)]
  · have hidle : v.envelope = v.toIdle := (envelope_of_release hph).trans (if_pos hend)
    exact ⟨hidle, mapVoices_grant_of_idle nodup_allVoices (mem_allVoices n) (congrArg Voice.phase hidle)⟩

end Sys2Proof.Proofs
end

section
/-! SUPPORT. VOICE PLAY, SET, RELEASE, STOP and MASTER (R103, R105, R111 to R113, R115): the note-on record, the release
and stop requests by the voice's phase, and what each command does by its fields and the voice's owner. -/

namespace Sys2Proof.Proofs

open Sys2Proof.Machine Sys2Proof.Safety Sys2Proof.Laws

/-! ## Note-on, release and stop requests -/

theorem firstLfsr_eq (mode : Mode) (old : Nat) :
    firstLfsr mode old = if mode = .noiseLong then 32767 else if mode = .noiseShort then 127 else old := by
  cases mode <;> rfl

/-- A note-on begins its attack at 0, or its decay at 127 where the record has no attack (R103). -/
theorem noteOn_eq (v : Voice) (n : Nat) (snap : Snapshot) (increment volume : Nat) :
    v.noteOn n snap increment volume =
      { v with snapshot := snap, noteInstrument := n, increment := increment, volume := volume, acc := 0, position := 0,
               fraction := 0, fetch := 0, buffer := [], primed := false, last := 0, hold := none,
               lfsr := if snap.mode = .noiseLong then 32767 else if snap.mode = .noiseShort then 127 else v.lfsr,
               env := if snap.attack = 0 then 127 else 0,
               phase := if snap.attack = 0 then .decay else .attack } := by
  simp only [Voice.noteOn, firstLfsr_eq, Nat.pos_iff_ne_zero, ne_eq, ite_not]

theorem startNote_of_invalid {s : State} {instrument : Nat} (h : instrumentOf s instrument = none) (n : VoiceNo)
    (increment volume : Nat) (own : Voice → Voice) : startNote n instrument increment volume own s = none := by
  simp only [startNote, h]

theorem startNote_of_record {s : State} {instrument : Nat} {snap : Snapshot}
    (h : instrumentOf s instrument = some snap) (n : VoiceNo) (increment volume : Nat) (own : Voice → Voice) :
    startNote n instrument increment volume own s =
      some (endGrant (.voice n) (setVoice n (own (s.voices[n].noteOn instrument snap increment volume)) s)) := by
  simp only [startNote, h]

/-- The phases in which a release request acts (R105). -/
def Sounding (p : Phase) : Prop := p = .attack ∨ p = .decay ∨ p = .sustain

theorem releaseRequest_of_sounding {v : Voice} (h : Sounding v.phase) :
    v.releaseRequest = if v.snapshot.release = 0 then v.toIdle else { v with phase := .release } := by
  rcases h with h | h | h <;> simp only [Voice.releaseRequest, h]

theorem releaseRequest_of_release {v : Voice} (h : v.phase = .release) : v.releaseRequest = v := by
  simp only [Voice.releaseRequest, h]

theorem setVoice_self (n : VoiceNo) (s : State) : setVoice n s.voices[n] s = s := by
  simp [setVoice]

theorem endGrant_of_not_held {h : Holder} {s : State} (hfree : ∀ g ∈ s.port.grant, g.holder ≠ h) :
    endGrant h s = s := by
  have hgrant : (s.port.grant.filter fun g => decide (g.holder ≠ h)) = s.port.grant := by
    cases hg : s.port.grant with
    | none => rfl
    | some g => exact Option.filter_some_pos (decide_eq_true (hfree g hg))
  rw [endGrant_eq, hgrant]

section
variable {n : VoiceNo} {s : State}

theorem putVoice_toIdle (v : Voice) : putVoice n v.toIdle s = endGrant (.voice n) (setVoice n v.toIdle s) :=
  putVoice_of_idle rfl

theorem releaseVoice_of_sounding (h : Sounding s.voices[n].phase) (hrel : s.voices[n].snapshot.release ≠ 0) :
    releaseVoice n s = setVoice n { s.voices[n] with phase := .release } s := by
  rw [releaseVoice, releaseRequest_of_sounding h, if_neg hrel]
  exact putVoice_of_not_idle nofun

theorem releaseVoice_of_no_release (h : Sounding s.voices[n].phase) (hrel : s.voices[n].snapshot.release = 0) :
    releaseVoice n s = endGrant (.voice n) (setVoice n s.voices[n].toIdle s) := by
  rw [releaseVoice, releaseRequest_of_sounding h, if_pos hrel, putVoice_toIdle]

theorem releaseVoice_of_release (h : s.voices[n].phase = .release) : releaseVoice n s = s := by
  rw [releaseVoice, releaseRequest_of_release h, putVoice_of_not_idle (fun hidle => nomatch h.symm.trans hidle),
    setVoice_self]

theorem stopVoice_of_not_idle (h : s.voices[n].phase ≠ .idle) :
    stopVoice n s = endGrant (.voice n) (setVoice n s.voices[n].toIdle s) := by
  rw [stopVoice, Voice.stopRequest, if_neg h, putVoice_toIdle]

theorem stopVoice_of_idle (h : s.voices[n].phase = .idle) (hfree : ∀ g ∈ s.port.grant, g.holder ≠ .voice n) :
    stopVoice n s = s := by
  rw [stopVoice, Voice.stopRequest, if_pos h, putVoice_of_idle h, setVoice_self, endGrant_of_not_held hfree]

end

/-! ## The commands' messages -/

section
variable {b instrument volume : Byte} {increment : Word16} {rest : List Byte} {s : State}

theorem exec_voicePlay_of_ready (h : Ready (.voicePlay b instrument increment volume) rest s) :
    exec (.voicePlay b instrument increment volume) s =
      .next (voicePlayEffect b instrument increment volume (taken rest s)) :=
  command_of_ready h _

theorem exec_voiceSet_of_ready (h : Ready (.voiceSet b increment volume) rest s) :
    exec (.voiceSet b increment volume) s = .next (voiceSetEffect b increment volume (taken rest s)) :=
  command_of_ready h _

theorem exec_voiceRelease_of_ready (h : Ready (.voiceRelease b) rest s) :
    exec (.voiceRelease b) s = .next (voiceReleaseEffect b (taken rest s)) :=
  command_of_ready h _

theorem exec_voiceStop_of_ready (h : Ready (.voiceStop b) rest s) :
    exec (.voiceStop b) s = .next (voiceStopEffect b (taken rest s)) :=
  command_of_ready h _

theorem exec_master_of_ready (h : Ready (.master b) rest s) :
    exec (.master b) s = .next (masterEffect b (taken rest s)) :=
  command_of_ready h _

end

/-! ## Their effects -/

section
variable {b instrument volume : Byte} {increment : Word16} {n : VoiceNo} {s : State}

theorem voicePlayEffect_of_bad (h : 5 < b.toNat ∨ 15 < instrument.toNat ∨ 15 < volume.toNat) :
    voicePlayEffect b instrument increment volume s = answer .badArg s := by
  unfold voicePlayEffect
  split
  next => rfl
  next k hk =>
    have hb := indexOf_eq_some.1 hk
    exact if_pos (h.resolve_left (by omega))

/-- With its fields in range VOICE PLAY is decided by the voice's owner and the instrument's record (R111). -/
theorem voicePlayEffect_of_good (hb : b.toNat = n.val) (hi : instrument.toNat ≤ 15) (hv : volume.toNat ≤ 15) :
    voicePlayEffect b instrument increment volume s =
      if s.voices[n].owner = .cue then answer .busy s
      else ((startNote n instrument.toNat increment.toNat volume.toNat (fun v => { v with owner := .console }) s).map
        (answer .ok)).getD (answer .badArg s) := by
  have hgood : ¬(15 < instrument.toNat ∨ 15 < volume.toNat) := by omega
  simp only [voicePlayEffect, indexOf_eq_some.2 hb, if_neg hgood]
  cases startNote n instrument.toNat increment.toNat volume.toNat (fun v => { v with owner := .console }) s <;> rfl

theorem voicePlayEffect_of_cue (hb : b.toNat = n.val) (hi : instrument.toNat ≤ 15) (hv : volume.toNat ≤ 15)
    (howner : s.voices[n].owner = .cue) :
    voicePlayEffect b instrument increment volume s = answer .busy s := by
  rw [voicePlayEffect_of_good hb hi hv, if_pos howner]

theorem voicePlayEffect_of_invalid (hb : b.toNat = n.val) (hi : instrument.toNat ≤ 15) (hv : volume.toNat ≤ 15)
    (howner : s.voices[n].owner ≠ .cue) (hrec : instrumentOf s instrument.toNat = none) :
    voicePlayEffect b instrument increment volume s = answer .badArg s := by
  rw [voicePlayEffect_of_good hb hi hv, if_neg howner, startNote_of_invalid hrec]
  rfl

theorem voicePlayEffect_of_record (hb : b.toNat = n.val) (hi : instrument.toNat ≤ 15) (hv : volume.toNat ≤ 15)
    (howner : s.voices[n].owner ≠ .cue) {snap : Snapshot} (hrec : instrumentOf s instrument.toNat = some snap) :
    voicePlayEffect b instrument increment volume s =
      answer .ok (endGrant (.voice n) (setVoice n
        { s.voices[n].noteOn instrument.toNat snap increment.toNat volume.toNat with owner := .console } s)) := by
  rw [voicePlayEffect_of_good hb hi hv, if_neg howner, startNote_of_record hrec]
  rfl

theorem voiceSetEffect_of_bad (h : 5 < b.toNat ∨ 15 < volume.toNat) :
    voiceSetEffect b increment volume s = answer .badArg s := by
  unfold voiceSetEffect
  split
  next => rfl
  next k hk =>
    have hb := indexOf_eq_some.1 hk
    exact if_pos (h.resolve_left (by omega))

theorem voiceSetEffect_of_refused (hb : b.toNat = n.val) (hv : volume.toNat ≤ 15) {st : ReplyStatus}
    (h : ownerRefusal s.voices[n].owner = some st) : voiceSetEffect b increment volume s = answer st s := by
  simp only [voiceSetEffect, indexOf_eq_some.2 hb, if_neg (Nat.not_lt.2 hv), h]

theorem voiceSetEffect_of_console (hb : b.toNat = n.val) (hv : volume.toNat ≤ 15)
    (h : s.voices[n].owner = .console) :
    voiceSetEffect b increment volume s =
      answer .ok (setVoice n { s.voices[n] with increment := increment.toNat, volume := volume.toNat } s) := by
  simp only [voiceSetEffect, indexOf_eq_some.2 hb, if_neg (Nat.not_lt.2 hv), h, ownerRefusal]

theorem voiceReleaseEffect_of_bad (h : 5 < b.toNat) : voiceReleaseEffect b s = answer .badArg s := by
  simp only [voiceReleaseEffect, indexOf_eq_none.2 (Nat.succ_le_of_lt h)]

theorem voiceReleaseEffect_of_refused (hb : b.toNat = n.val) {st : ReplyStatus}
    (h : ownerRefusal s.voices[n].owner = some st) : voiceReleaseEffect b s = answer st s := by
  simp only [voiceReleaseEffect, indexOf_eq_some.2 hb, h]

theorem voiceReleaseEffect_of_console (hb : b.toNat = n.val) (h : s.voices[n].owner = .console) :
    voiceReleaseEffect b s = answer .ok (releaseVoice n s) := by
  simp only [voiceReleaseEffect, indexOf_eq_some.2 hb, h, ownerRefusal]

theorem voiceStopEffect_of_bad (h : 5 < b.toNat) : voiceStopEffect b s = answer .badArg s := by
  simp only [voiceStopEffect, indexOf_eq_none.2 (Nat.succ_le_of_lt h)]

theorem voiceStopEffect_of_index (hb : b.toNat = n.val) : voiceStopEffect b s = answer .ok (stopVoice n s) := by
  simp only [voiceStopEffect, indexOf_eq_some.2 hb]

theorem ownerRefusal_of_busy {o : Owner} (h : o = .cue ∨ ∃ k, o = .track k) : ownerRefusal o = some .busy := by
  rcases h with rfl | ⟨k, rfl⟩ <;> rfl

theorem ownerRefusal_of_none {o : Owner} (h : o = .none) : ownerRefusal o = some .wrongState := by
  rw [h]
  rfl

end

/-! ## The statement, command by command -/

section
variable {b instrument volume : Byte} {increment : Word16} {n : VoiceNo} {rest : List Byte} {s : State}

/-- VOICE SET and VOICE RELEASE refuse their fields alike, and then what the voice's owner refuses (R112). -/
theorem voiceSet_or_voiceRelease_refuses {c : Instr} {st : ReplyStatus}
    (hc : c = .voiceSet b increment volume ∨ c = .voiceRelease b) (hready : Ready c rest s)
    (hb : b.toNat = n.val) (hv : c = .voiceSet b increment volume → volume.toNat ≤ 15)
    (h : ownerRefusal s.voices[n].owner = some st) : Refuses c rest s st := by
  rcases hc with rfl | rfl
  · exact (exec_voiceSet_of_ready hready).trans
      (congrArg _ (voiceSetEffect_of_refused (s := taken rest s) hb (hv rfl) h))
  · exact (exec_voiceRelease_of_ready hready).trans
      (congrArg _ (voiceReleaseEffect_of_refused (s := taken rest s) hb h))

theorem voiceSet_or_voiceRelease_refuses_fields {c : Instr}
    (hc : c = .voiceSet b increment volume ∨ c = .voiceRelease b) (hready : Ready c rest s)
    (h : 5 < b.toNat ∨ c = .voiceSet b increment volume ∧ 15 < volume.toNat) : Refuses c rest s .badArg := by
  rcases hc with rfl | rfl
  · exact (exec_voiceSet_of_ready hready).trans (congrArg _ (voiceSetEffect_of_bad (h.imp_right And.right)))
  · have hout : 5 < b.toNat := h.resolve_right fun hset => nomatch hset.1
    exact (exec_voiceRelease_of_ready hready).trans (congrArg _ (voiceReleaseEffect_of_bad hout))

end

/-- Settles O45: each command is taken (`command_of_ready`), its fields and the voice's owner decide what it does
(`voicePlayEffect_of_good`, `ownerRefusal`), and the voice's phase what a request makes of it. -/
theorem voiceCommandsAct : Obligations.VoiceCommandsAct := by
  intro b instrument increment volume n rest s v put ended idle play set
  refine ⟨fun hready => ?_, fun c hc hready => ⟨?_, ?_⟩, fun hb howner => ⟨?_, ?_⟩, fun hready => ?_, fun hready => ?_⟩
  · have hexec := exec_voicePlay_of_ready hready
    refine ⟨fun hbad => ?_, fun hb hi hv => ⟨fun howner => ?_, fun howner hrec => ?_, fun snap howner hrec => ?_⟩⟩
    · exact hexec.trans (congrArg _ (voicePlayEffect_of_bad hbad))
    · exact hexec.trans (congrArg _ (voicePlayEffect_of_cue (s := taken rest s) hb hi hv howner))
    · exact hexec.trans (congrArg _ (voicePlayEffect_of_invalid (s := taken rest s) hb hi hv howner hrec))
    · refine hexec.trans (congrArg _ ?_)
      rw [voicePlayEffect_of_record (s := taken rest s) hb hi hv howner hrec, noteOn_eq, endGrant_eq]
      rfl
  · exact voiceSet_or_voiceRelease_refuses_fields hc hready
  · intro hb hv
    exact ⟨fun h => voiceSet_or_voiceRelease_refuses hc hready hb hv (ownerRefusal_of_busy h),
      fun h => voiceSet_or_voiceRelease_refuses hc hready hb hv (ownerRefusal_of_none h)⟩
  · intro hready hv
    exact (exec_voiceSet_of_ready hready).trans
      (congrArg _ (voiceSetEffect_of_console (s := taken rest s) hb hv howner))
  · intro hready
    have hexec := (exec_voiceRelease_of_ready hready).trans
      (congrArg _ (voiceReleaseEffect_of_console (s := taken rest s) hb howner))
    refine ⟨fun hph hrel => ?_, fun hph hrel => ?_, fun hph => ?_⟩
    · rw [releaseVoice_of_sounding (s := taken rest s) hph hrel] at hexec
      exact hexec
    · rw [releaseVoice_of_no_release (s := taken rest s) hph hrel, endGrant_eq] at hexec
      exact hexec
    · rw [releaseVoice_of_release (s := taken rest s) hph] at hexec
      exact hexec
  · have hexec := exec_voiceStop_of_ready hready
    refine ⟨fun hout => ?_, fun hb hph => ?_, fun hb hph hfree => ?_⟩
    · exact hexec.trans (congrArg _ (voiceStopEffect_of_bad hout))
    · rw [voiceStopEffect_of_index hb, stopVoice_of_not_idle (s := taken rest s) hph, endGrant_eq] at hexec
      exact hexec
    · rw [voiceStopEffect_of_index hb, stopVoice_of_idle (s := taken rest s) hph hfree] at hexec
      exact hexec
  · refine (exec_master_of_ready hready).trans (congrArg _ ?_)
    rw [masterEffect, Nat.min_comm]
    rfl

end Sys2Proof.Proofs
end

section
/-! SUPPORT. What the work of one part leaves alone: the state with everything that the part can touch put out of
sight. Voices and tracks, the rumble drive, the save engine. -/

namespace Sys2Proof.Proofs

open Sys2Proof.Machine Sys2Proof.Safety Sys2Proof.Laws

/-! ## What a part can touch, put out of sight -/

/-- Every edge latch that is set has its class enabled, as a truth value. -/
def latchesFit (s : State) : Bool := decide (LatchesKept s)

/-- The cause unit without what the faults of voices, tracks and saves change: the enables and STALL alone. -/
def quietCause (s : State) : CauseUnit :=
  { flags := if hasFault .stall s then -1 else 0, record := none, enables := s.cause.enables, latches := .clear }

/-- The supply watch without the surge grant. -/
def unheld (u : Supply) : Supply := { u with holder := .none, engineReq := false, kickerReq := false }

/-- An active request without its kick. -/
def unkicked (a : Active) : Active := { a with kick := .none }

/-- What the voices, the mixer, the tracks and the ROM port leave alone; the truth value says that they keep the rule of
the edge latches. -/
def outsideSound (s : State) : State × Bool :=
  ({ s with voices := initialVoices, port := .idle, tracks := initialTracks, mixer := ⟨0, none⟩,
            cause := quietCause s }, latchesFit s)

/-- What the save engine leaves alone: of the drive it touches the kick, of the supply watch the grant. -/
def outsideSave (s : State) : State × Bool :=
  ({ s with dir := State.reset.dir, engine := .off, sram := [], saveAccess := none, supply := unheld s.supply,
            rumble := { s.rumble with active := s.rumble.active.map unkicked }, cause := quietCause s },
    latchesFit s)

/-- What the rumble drive leaves alone: of the supply watch it touches the grant. -/
def outsideDrive (s : State) : State × Bool :=
  ({ s with dir := State.reset.dir, engine := .off, supply := unheld s.supply, rumble := .initial false none,
            cause := { quietCause s with flags := 0 } }, latchesFit s)

/-- What the surge grant, the flips and the kick leave alone. -/
def outsideGrant (s : State) : State :=
  { s with dir := State.reset.dir, engine := .off, supply := unheld s.supply,
           rumble := { s.rumble with active := s.rumble.active.map unkicked } }

theorem outsideSave_of_outsideGrant {s t : State} (h : outsideGrant t = outsideGrant s) :
    outsideSave t = outsideSave s :=
  congrArg (fun u : State => (({ u with sram := [], saveAccess := none, cause := quietCause u } : State), latchesFit u)) h

theorem outsideDrive_of_outsideGrant {s t : State} (h : outsideGrant t = outsideGrant s) :
    outsideDrive t = outsideDrive s :=
  congrArg (fun u : State =>
    (({ u with rumble := .initial false none, cause := { quietCause u with flags := 0 } } : State), latchesFit u)) h

/-! ## Fault flags and latches -/

theorem latchesKept_iff {s : State} :
    LatchesKept s ↔
      (s.cause.latches.fault = true → enabled .fault s = true) ∧
      (s.cause.latches.frameLost = true → enabled .frame s = true) ∧
      (s.cause.latches.rumbleEnd = true → enabled .rumble s = true) ∧
      (s.cause.latches.marker0 = true → enabled .marker s = true) ∧
      (s.cause.latches.marker1 = true → enabled .marker s = true) := by
  unfold LatchesKept Latches.keep enabled
  obtain ⟨_, _, _, l⟩ := s.cause
  cases l
  simp

theorem latchesFit_setFault (f : FaultFlag) (s : State) : latchesFit (setFault f s) = latchesFit s := by
  unfold latchesFit
  rw [decide_eq_decide, latchesKept_iff, latchesKept_iff]
  unfold setFault
  split
  · rfl
  · simp only [enabled, Bool.or_eq_true, or_imp, imp_self, and_true]

theorem latchesFit_latchFrameLost (s : State) : latchesFit (latchFrameLost s) = latchesFit s := by
  unfold latchesFit
  rw [decide_eq_decide, latchesKept_iff, latchesKept_iff]
  unfold latchFrameLost
  split <;> simp_all [enabled]

theorem latchesFit_latchRumbleEnd (s : State) : latchesFit (latchRumbleEnd s) = latchesFit s := by
  unfold latchesFit
  rw [decide_eq_decide, latchesKept_iff, latchesKept_iff]
  unfold latchRumbleEnd
  split <;> simp_all [enabled]

theorem latchesFit_latchMarker (k : TrackNo) (s : State) : latchesFit (latchMarker k s) = latchesFit s := by
  unfold latchesFit
  rw [decide_eq_decide, latchesKept_iff, latchesKept_iff]
  unfold latchMarker
  split
  · split <;> simp_all [enabled]
  · rfl

theorem quietCause_setFault {f : FaultFlag} (h : f ≠ .stall) (s : State) :
    quietCause (setFault f s) = quietCause s := by
  have hstall : hasFault .stall (setFault f s) = hasFault .stall s := by simp [hasFault_setFault, h.symm]
  have henables : (setFault f s).cause.enables = s.cause.enables := by unfold setFault; split <;> rfl
  rw [quietCause, quietCause, hstall, henables]

theorem quietCause_latchMarker (k : TrackNo) (s : State) :
    quietCause (latchMarker k s) = quietCause s := by
  unfold latchMarker
  split <;> rfl

/-! ## Voices -/

theorem outsideSound_setFault {f : FaultFlag} (h : f ≠ .stall) (s : State) :
    outsideSound (setFault f s) = outsideSound s := by
  rw [outsideSound, outsideSound, latchesFit_setFault, quietCause_setFault h, setFault_eq]

@[simp] theorem outsideSound_badEvent (s : State) : outsideSound (setFault .badEvent s) = outsideSound s :=
  outsideSound_setFault (by decide) s

@[simp] theorem outsideSound_latchMarker (k : TrackNo) (s : State) :
    outsideSound (latchMarker k s) = outsideSound s := by
  rw [outsideSound, outsideSound, latchesFit_latchMarker, quietCause_latchMarker]
  simp

@[simp] theorem outsideSound_setVoice (n : VoiceNo) (v : Voice) (s : State) :
    outsideSound (setVoice n v s) = outsideSound s := rfl

@[simp] theorem outsideSound_setTrack (k : TrackNo) (r : Track) (s : State) :
    outsideSound (setTrack k r s) = outsideSound s := rfl

@[simp] theorem outsideSound_changeTrack (k : TrackNo) (f : Track → Track) (s : State) :
    outsideSound (changeTrack k f s) = outsideSound s := rfl

@[simp] theorem outsideSound_endGrant (h : Holder) (s : State) : outsideSound (endGrant h s) = outsideSound s := rfl

@[simp] theorem outsideSound_flushFetch (k : TrackNo) (s : State) :
    outsideSound (flushFetch k s) = outsideSound s := rfl

@[simp] theorem outsideSound_putVoice (n : VoiceNo) (v : Voice) (s : State) :
    outsideSound (putVoice n v s) = outsideSound s := by
  unfold putVoice
  split <;> rfl

@[simp] theorem outsideSound_releaseVoice (n : VoiceNo) (s : State) :
    outsideSound (releaseVoice n s) = outsideSound s := outsideSound_putVoice ..

@[simp] theorem outsideSound_stopVoice (n : VoiceNo) (s : State) :
    outsideSound (stopVoice n s) = outsideSound s := outsideSound_putVoice ..

theorem outsideSound_startNote {n : VoiceNo} {i inc vol : Nat} {own : Voice → Voice} {s t : State}
    (h : startNote n i inc vol own s = some t) : outsideSound t = outsideSound s := by
  unfold startNote at h
  split at h
  · nomatch h
  · cases h
    simp

theorem outsideSound_foldl {α : Type} {f : State → α → State}
    (h : ∀ s a, outsideSound (f s a) = outsideSound s) (l : List α) (s : State) :
    outsideSound (l.foldl f s) = outsideSound s := by
  induction l generalizing s with
  | nil => rfl
  | cons a l ih => rw [List.foldl_cons, ih, h]

@[simp] theorem outsideSound_envelopeAll (s : State) : outsideSound (envelopeAll s) = outsideSound s :=
  outsideSound_foldl (fun _ _ => outsideSound_putVoice ..) _ s

@[simp] theorem outsideSound_holdTick (s : State) : outsideSound (holdTick s) = outsideSound s := by
  unfold holdTick
  simp only
  split
  · split
    · split <;> simp
    · rfl
  · rfl

theorem outsideSound_setFaultIf {f : FaultFlag} (h : f ≠ .stall) (b : Bool) (s : State) :
    outsideSound (setFaultIf b f s) = outsideSound s := by
  unfold setFaultIf
  split
  · exact outsideSound_setFault h s
  · rfl

@[simp] theorem outsideSound_advanceVoice (s : State) (n : VoiceNo) :
    outsideSound (advanceVoice s n) = outsideSound s := by
  simp only [advanceVoice, outsideSound_setFaultIf (f := .underrun) (by decide), outsideSound_putVoice]

theorem outsideSound_mixer (m : Mixer) (s : State) : outsideSound { s with mixer := m } = outsideSound s := rfl

@[simp] theorem outsideSound_sampleVoices (s : State) : outsideSound (sampleVoices s) = outsideSound s := by
  simp only [sampleVoices, outsideSound_setFaultIf (f := .clip) (by decide)]
  exact (outsideSound_mixer _ _).trans (outsideSound_foldl outsideSound_advanceVoice allVoices s)

/-! ## Tracks -/

/-- What the loading of the head can come to (R125): nothing more, a track that waits for events, a head that waits for
its delta, or a head acted on with the loading of the next behind it. -/
theorem loadHead_cases {k : TrackNo} {P : State → State → Prop} (hself : ∀ s, P s s)
    (hempty : ∀ s, s.tracks[k].state ≠ .stopped → s.tracks[k].buffer = [] →
      P s (changeTrack k (fun r => { r with state := .waiting, wait := none }) s))
    (hwait : ∀ s e rest, s.tracks[k].state ≠ .stopped → s.tracks[k].buffer = e :: rest → e.delta ≠ 0 →
      P s (changeTrack k (fun r => { r with state := .running, wait := some e.delta.toNat }) s))
    (hact : ∀ s e rest t, s.tracks[k].state ≠ .stopped → s.tracks[k].buffer = e :: rest → e.delta = 0 →
      P (actOnEvent k e rest s) t → P s t)
    (n : Nat) (s : State) : P s (loadHead n k s) := by
  induction n generalizing s with
  | zero =>
    unfold loadHead
    split
    · exact hself s
    · split
      · exact hempty s ‹_› ‹_›
      · split
        · exact hself s
        · exact hwait s _ _ ‹_› ‹_› ‹_›
  | succ n ih =>
    unfold loadHead
    split
    · exact hself s
    · split
      · exact hempty s ‹_› ‹_›
      · split
        · exact hact s _ _ _ ‹_› ‹_› ‹_› (ih _)
        · exact hwait s _ _ ‹_› ‹_› ‹_›

@[simp] theorem outsideSound_dismissVoice (k : TrackNo) (s : State) (n : VoiceNo) :
    outsideSound (dismissVoice k s n) = outsideSound s := by
  unfold dismissVoice
  simp only
  split <;> split <;> simp

@[simp] theorem outsideSound_stopTrack (k : TrackNo) (s : State) : outsideSound (stopTrack k s) = outsideSound s := by
  simp [stopTrack, outsideSound_foldl]

@[simp] theorem outsideSound_adoptVoice (k : TrackNo) (mask : BitVec 6) (s : State) (n : VoiceNo) :
    outsideSound (adoptVoice k mask s n) = outsideSound s := by
  unfold adoptVoice
  split <;> rfl

@[simp] theorem outsideSound_startTrack (k : TrackNo) (r : Track) (s : State) :
    outsideSound (startTrack k r s) = outsideSound s := by
  unfold startTrack
  simp only [outsideSound_foldl (outsideSound_adoptVoice k r.mask), outsideSound_flushFetch, outsideSound_setTrack]
  split <;> simp

theorem outsideSound_voiceRequest {request : VoiceNo → State → State}
    (h : ∀ n s, outsideSound (request n s) = outsideSound s) (k : TrackNo) (e : Event) (s : State) :
    outsideSound (voiceRequest k e request s) = outsideSound s := by
  unfold voiceRequest
  split
  · simp
  · split
    · exact h ..
    · rfl

@[simp] theorem outsideSound_noteRequest (e : Event) (n : VoiceNo) (s : State) :
    outsideSound (noteRequest e n s) = outsideSound s := by
  unfold noteRequest
  split
  · exact outsideSound_startNote ‹_›
  · simp

@[simp] theorem outsideSound_backRequest (k : TrackNo) (s : State) :
    outsideSound (backRequest k s) = outsideSound s := by
  unfold backRequest
  split
  · rfl
  · split <;> simp [jumpBack]

@[simp] theorem outsideSound_performEvent (k : TrackNo) (e : Event) (s : State) :
    outsideSound (performEvent k e s) = outsideSound s := by
  unfold performEvent
  split
  case h_4 | h_5 | h_6 => refine outsideSound_voiceRequest ?_ _ _ _; exact fun _ _ => outsideSound_setVoice ..
  all_goals simp [outsideSound_voiceRequest, markerRequest]

@[simp] theorem outsideSound_actOnEvent (k : TrackNo) (e : Event) (rest : List Event) (s : State) :
    outsideSound (actOnEvent k e rest s) = outsideSound s := by
  simp [actOnEvent]

@[simp] theorem outsideSound_loadHead (n : Nat) (k : TrackNo) (s : State) :
    outsideSound (loadHead n k s) = outsideSound s := by
  refine loadHead_cases (P := fun s t => outsideSound t = outsideSound s) (fun _ => rfl) (fun _ _ _ => rfl)
    (fun _ _ _ _ _ _ => rfl) (fun s e rest t _ _ _ ht => ?_) n s
  rw [ht, outsideSound_actOnEvent]

@[simp] theorem outsideSound_actOnHead (k : TrackNo) (s : State) :
    outsideSound (actOnHead k s) = outsideSound s := by
  unfold actOnHead
  split <;> simp

@[simp] theorem outsideSound_trackTick (k : TrackNo) (s : State) :
    outsideSound (trackTick k s) = outsideSound s := by
  unfold trackTick
  simp only
  split
  · rfl
  · exact outsideSound_setFault (by decide) s
  · split
    · split <;> simp
    · rfl

@[simp] theorem outsideSound_countTrack (k : TrackNo) (s : State) :
    outsideSound (countTrack k s) = outsideSound s := by
  unfold countTrack
  simp only
  split <;> simp

@[simp] theorem outsideSound_fullTick (k : TrackNo) (s : State) :
    outsideSound (fullTick k s) = outsideSound s := by simp [fullTick]

@[simp] theorem outsideSound_sampleTrack (s : State) (k : TrackNo) :
    outsideSound (sampleTrack s k) = outsideSound s := by
  unfold sampleTrack
  split <;> simp

@[simp] theorem outsideSound_frameTrack (s : State) (k : TrackNo) :
    outsideSound (frameTrack s k) = outsideSound s := by
  unfold frameTrack
  split <;> simp

@[simp] theorem outsideSound_giveFrame (s : State) : outsideSound (giveFrame s) = outsideSound s :=
  outsideSound_foldl outsideSound_frameTrack _ s

/-! ## The ROM port -/

@[simp] theorem outsideSound_deliverVoice (g : Grant) (n : VoiceNo) (s : State) :
    outsideSound (deliverVoice g n s) = outsideSound s := rfl

@[simp] theorem outsideSound_joinEvent (k : TrackNo) (e : Event) (s : State) :
    outsideSound (joinEvent k e s) = outsideSound s := by
  unfold joinEvent
  simp only
  split <;> simp

@[simp] theorem outsideSound_deliverTrack (g : Grant) (k : TrackNo) (s : State) :
    outsideSound (deliverTrack g k s) = outsideSound s := by
  unfold deliverTrack
  simp only
  split
  · simp only [outsideSound_joinEvent]
    rfl
  · rfl

/-! ## The surge grant -/

@[simp] theorem outsideGrant_setSlot (n : SlotNo) (r : SlotRecord) (s : State) :
    outsideGrant (setSlot n r s) = outsideGrant s := rfl

@[simp] theorem outsideGrant_setFlight (f : Option Flight) (s : State) :
    outsideGrant (setFlight f s) = outsideGrant s := rfl

@[simp] theorem outsideGrant_setHolder (h : SurgeHolder) (s : State) :
    outsideGrant (setHolder h s) = outsideGrant s := rfl

@[simp] theorem outsideGrant_setKick (k : Kick) (s : State) : outsideGrant (setKick k s) = outsideGrant s := by
  simp only [outsideGrant, setKick]
  rw [Option.map_map]
  rfl

@[simp] theorem outsideGrant_returnBlock (b : Option Nat) (s : State) :
    outsideGrant (returnBlock b s) = outsideGrant s := by
  rw [returnBlock_eq]
  rfl

@[simp] theorem outsideGrant_commitFlip (n : SlotNo) (s : State) : outsideGrant (commitFlip n s) = outsideGrant s :=
  outsideGrant_returnBlock ..

@[simp] theorem outsideGrant_eraseFlip (n : SlotNo) (s : State) : outsideGrant (eraseFlip n s) = outsideGrant s :=
  outsideGrant_returnBlock ..

@[simp] theorem outsideGrant_giveKicker (s : State) : outsideGrant (giveKicker s) = outsideGrant s :=
  outsideGrant_setKick ..

@[simp] theorem outsideGrant_offerKicker (s : State) : outsideGrant (offerKicker s) = outsideGrant s := by
  unfold offerKicker
  split <;> simp

theorem outsideGrant_engineReq (b : Bool) (s : State) :
    outsideGrant { s with supply := { s.supply with engineReq := b } } = outsideGrant s := rfl

theorem outsideGrant_kickerReq (b : Bool) (s : State) :
    outsideGrant { s with supply := { s.supply with kickerReq := b } } = outsideGrant s := rfl

@[simp] theorem outsideGrant_giveEngine (s : State) : outsideGrant (giveEngine s) = outsideGrant s := by
  unfold giveEngine
  simp only
  split
  · split <;> simp [outsideGrant_engineReq]
  · rfl

@[simp] theorem outsideGrant_releaseGrant (s : State) : outsideGrant (releaseGrant s) = outsideGrant s := by
  unfold releaseGrant
  simp only
  split <;> simp

@[simp] theorem outsideGrant_engineRequest (s : State) : outsideGrant (engineRequest s) = outsideGrant s := by
  unfold engineRequest
  split
  · simp
  · rfl

@[simp] theorem outsideGrant_kickerRequest (s : State) : outsideGrant (kickerRequest s) = outsideGrant s := by
  unfold kickerRequest
  split
  · simp
  · rfl

@[simp] theorem outsideGrant_endKick (s : State) : outsideGrant (endKick s) = outsideGrant s := by
  unfold endKick
  split
  · split
    · rfl
    · simp [outsideGrant_kickerReq]
    · split <;> simp
  · rfl

/-! ## The save engine -/

@[simp] theorem outsideSave_setSlot (n : SlotNo) (r : SlotRecord) (s : State) :
    outsideSave (setSlot n r s) = outsideSave s := rfl

@[simp] theorem outsideSave_setFlight (f : Option Flight) (s : State) :
    outsideSave (setFlight f s) = outsideSave s := rfl

@[simp] theorem outsideSave_portRead (e : Bool) (b p : Nat) (s : State) :
    outsideSave (portRead e b p s) = outsideSave s := rfl

@[simp] theorem outsideSave_portWrite (e : Bool) (b p : Nat) (x : Byte) (s : State) :
    outsideSave (portWrite e b p x s) = outsideSave s := rfl

@[simp] theorem outsideSave_closeWindow (s : State) : outsideSave (closeWindow s) = outsideSave s := rfl

@[simp] theorem outsideSave_enqueue (k : OpKind) (n : SlotNo) (s : State) :
    outsideSave (enqueue k n s) = outsideSave s := rfl

@[simp] theorem outsideSave_cancelOpen (n : SlotNo) (s : State) : outsideSave (cancelOpen n s) = outsideSave s := rfl

@[simp] theorem outsideSave_dropWork (n : SlotNo) (s : State) : outsideSave (dropWork n s) = outsideSave s :=
  outsideSave_of_outsideGrant (outsideGrant_returnBlock ..)

@[simp] theorem outsideSave_acceptOpen (n : SlotNo) (s : State) : outsideSave (acceptOpen n s) = outsideSave s := rfl

@[simp] theorem outsideSave_landWrite (n : SlotNo) (p : Nat) (b : Byte) (s : State) :
    outsideSave (landWrite n p b s) = outsideSave s := by
  unfold landWrite
  split <;> rfl

@[simp] theorem outsideSave_viewRead (n : SlotNo) (p : Nat) (s : State) :
    outsideSave (viewRead n p s) = outsideSave s := by
  unfold viewRead
  split <;> rfl

theorem outsideSave_startEntry (e : QueueEntry) (s : State) : outsideSave (startEntry e s) = outsideSave s := by
  refine outsideSave_of_outsideGrant ?_
  unfold startEntry
  simp only
  split <;> simp

theorem outsideSave_setFault {f : FaultFlag} (h : f ≠ .stall) (s : State) :
    outsideSave (setFault f s) = outsideSave s := by
  rw [outsideSave, outsideSave, latchesFit_setFault, quietCause_setFault h, setFault_eq]

@[simp] theorem outsideSave_markDamage (d : Bool) (n : SlotNo) (s : State) :
    outsideSave (markDamage d n s) = outsideSave s := by
  unfold markDamage
  split
  · exact outsideSave_setFault (by decide) _
  · rfl

@[simp] theorem outsideSave_openEnd (f : Flight) (s : State) : outsideSave (openEnd f s) = outsideSave s := by
  simp [openEnd]

@[simp] theorem outsideSave_verifyEnd (f : Flight) (s : State) : outsideSave (verifyEnd f s) = outsideSave s := by
  simp [verifyEnd]

@[simp] theorem outsideSave_advanceSweep (s : State) : outsideSave (advanceSweep s) = outsideSave s := rfl

@[simp] theorem outsideSave_sweepEnd (f : Flight) (s : State) : outsideSave (sweepEnd f s) = outsideSave s := by
  simp [sweepEnd]

@[simp] theorem outsideSave_eraseEnd (f : Flight) (s : State) : outsideSave (eraseEnd f s) = outsideSave s :=
  outsideSave_of_outsideGrant (by simp [eraseEnd])

@[simp] theorem outsideSave_engineRead (o : Option Nat) (p : Nat) (s : State) :
    outsideSave (engineRead o p s) = outsideSave s := by
  unfold engineRead
  split <;> rfl

@[simp] theorem outsideSave_engineWrite (o : Option Nat) (p : Nat) (b : Byte) (s : State) :
    outsideSave (engineWrite o p b s) = outsideSave s := by
  unfold engineWrite
  split <;> rfl

@[simp] theorem outsideSave_openByte (f : Flight) (b : Byte) (s : State) :
    outsideSave (openByte f b s) = outsideSave s := by
  simp [openByte]

@[simp] theorem outsideSave_accessByte (f : Flight) (s : State) : outsideSave (accessByte f s) = outsideSave s := by
  unfold accessByte
  split
  · simp
  · simp
  · unfold eraseByte
    split <;> simp
  · simp [scanByte]
  · rfl

/-! ## The rumble drive -/

@[simp] theorem outsideDrive_setActive (a : Option Active) (s : State) :
    outsideDrive (setActive a s) = outsideDrive s := rfl

theorem outsideDrive_rumble (r : Rumble) (s : State) : outsideDrive { s with rumble := r } = outsideDrive s := rfl

theorem outsideDrive_setFault (f : FaultFlag) (s : State) : outsideDrive (setFault f s) = outsideDrive s := by
  have henables : (setFault f s).cause.enables = s.cause.enables := by unfold setFault; split <;> rfl
  rw [outsideDrive, outsideDrive, latchesFit_setFault, quietCause, quietCause, henables, setFault_eq]

@[simp] theorem outsideDrive_latchRumbleEnd (s : State) : outsideDrive (latchRumbleEnd s) = outsideDrive s := by
  have henables : (latchRumbleEnd s).cause.enables = s.cause.enables := by unfold latchRumbleEnd; split <;> rfl
  rw [outsideDrive, outsideDrive, latchesFit_latchRumbleEnd, quietCause, quietCause, henables]
  simp

@[simp] theorem outsideDrive_endKick (s : State) : outsideDrive (endKick s) = outsideDrive s :=
  outsideDrive_of_outsideGrant (outsideGrant_endKick s)

@[simp] theorem outsideDrive_setKick (k : Kick) (s : State) : outsideDrive (setKick k s) = outsideDrive s := rfl

@[simp] theorem outsideDrive_kickRuleIf (b : Bool) (s : State) : outsideDrive (kickRuleIf b s) = outsideDrive s := by
  unfold kickRuleIf
  split
  · split
    · exact outsideDrive_of_outsideGrant (by simp)
    · rfl
  · rfl

@[simp] theorem outsideDrive_startRequest (r : Request) (s : State) :
    outsideDrive (startRequest r s) = outsideDrive s := outsideDrive_kickRuleIf ..

@[simp] theorem outsideDrive_startHead (s : State) : outsideDrive (startHead s) = outsideDrive s := by
  unfold startHead
  split
  · simp [outsideDrive_rumble]
  · rfl

@[simp] theorem outsideDrive_closeRequest (e : EndReason) (s : State) :
    outsideDrive (closeRequest e s) = outsideDrive s := by
  unfold closeRequest
  simp only
  split <;> simp [outsideDrive_rumble]

@[simp] theorem outsideDrive_endRequest (e : EndReason) (s : State) :
    outsideDrive (endRequest e s) = outsideDrive s := by simp [endRequest]

@[simp] theorem outsideDrive_decideRequest (r : Request) (s : State) :
    outsideDrive (decideRequest r s).2 = outsideDrive s := by
  unfold decideRequest
  split
  · rfl
  · unfold takeRequest
    split
    · simp
    · split
      · simp
      · rfl

@[simp] theorem outsideDrive_submitCue (a : CueRumble) (s : State) :
    outsideDrive (submitCue a s) = outsideDrive s := by
  unfold submitCue
  split
  · simp
  · rfl

@[simp] theorem outsideDrive_warmTick (s : State) : outsideDrive (warmTick s) = outsideDrive s := by
  unfold warmTick
  simp only
  split
  · simp [outsideDrive_rumble]
  · rfl

@[simp] theorem outsideDrive_kickTick (s : State) : outsideDrive (kickTick s) = outsideDrive s := by
  unfold kickTick
  split
  · split
    · split <;> simp
    · rfl
    · rfl
  · rfl

@[simp] theorem outsideDrive_enterStep (i : Nat) (s : State) : outsideDrive (enterStep i s) = outsideDrive s := by
  unfold enterStep
  split
  · simp only
    split <;> simp
  · rfl

@[simp] theorem outsideDrive_advanceStep (s : State) : outsideDrive (advanceStep s) = outsideDrive s := by
  unfold advanceStep
  split
  · simp only
    split
    · simp
    · split <;> simp
  · rfl

@[simp] theorem outsideDrive_stepTick (b : Bool) (s : State) : outsideDrive (stepTick b s) = outsideDrive s := by
  unfold stepTick
  split
  · split
    · rfl
    · split <;> simp
  · rfl

@[simp] theorem outsideDrive_countAllowance (s : State) : outsideDrive (countAllowance s) = outsideDrive s := by
  unfold countAllowance
  split
  · split <;> simp
  · rfl

@[simp] theorem outsideDrive_driveTick (s : State) : outsideDrive (driveTick s) = outsideDrive s := by
  unfold driveTick countTick
  simp only [outsideDrive_kickRuleIf]
  split <;> simp

@[simp] theorem outsideDrive_pwmSlot (s : State) : outsideDrive (pwmSlot s) = outsideDrive s := rfl

@[simp] theorem outsideDrive_latchStall (s : State) : outsideDrive (latchStall s) = outsideDrive s :=
  (outsideDrive_closeRequest ..).trans ((outsideDrive_rumble _ _).trans (outsideDrive_setFault ..))

end Sys2Proof.Proofs
end

section
/-! SUPPORT. What a step is made of, said once: every command, and every tick of a crystal edge, is a run of moves, each
the work of one part or a reset. A property that every move keeps is one that every step keeps. -/

namespace Sys2Proof.Proofs

open Sys2Proof.Machine Sys2Proof.Safety Sys2Proof.Laws

/-! ## The moves -/

/-- The time record lies in its ranges (R68, R71). -/
def CalLegal (c : Calendar) : Prop :=
  c.day ≤ 65535 ∧ c.sec ≤ 86399 ∧ c.prescaler ≤ 32767 ∧ c.extension ≤ 64 ∧ -64 ≤ c.trim ∧ c.trim ≤ 63 ∧
  c.setCount ≤ 255 ∧ (c.atEnd = true → c.day = 65535 ∧ c.sec = 86399) ∧ (∀ st ∈ c.down, StampLegal st) ∧
  ∀ st ∈ c.up, StampLegal st

/-- Frame capture lies in its ranges (R130 to R132). -/
def FrameLegal (f : FrameCapture) : Prop :=
  (∀ p ∈ f.period, 137 ≤ p ∧ p ≤ 1638) ∧ f.silence ≤ 3276 ∧ f.synth ≤ 1637 ∧
  (f.state = .waitingFirst → f.last = none) ∧ (f.state = .present → f.last.isSome = true) ∧
  (f.silent = true → f.silence < f.deadline)

/-- The voice fetches under a grant: a STREAM note with a further byte and room for it (R16). -/
def fetches (v : Voice) : Bool :=
  v.phase != .idle && v.snapshot.mode == .stream && decide (v.fetch < v.snapshot.length) && decide (v.buffer.length < 16)

/-- A request that a command or a cue can make (R138, R93). -/
def RequestFields (r : Request) : Prop := r.priority ≤ 3 ∧ 1 ≤ r.allowance ∧ r.allowance ≤ 255

/-- A track record that TRACK START makes (R120). -/
def StartedTrack (r : Track) : Prop :=
  ∃ address mask source period, r = .started address mask source period ∧ periodAllowed source period = true ∧
    period ≤ 65535

/-- Work on the cause unit, the map, the sound RAM and the memory of the save port's access. -/
inductive BusWork (s : State) : State → Prop
  | cause (u : CauseUnit) (hstall : hasFault .stall { s with cause := u } = true → hasFault .stall s = true)
      (hlatch : LatchesKept s → LatchesKept { s with cause := u }) : BusWork s { s with cause := u }
  | map (i : Fin 16) (e : MapEntry) (h : EntryLegal s.profile.pageCount e) :
      BusWork s { s with map := s.map.set i.val e i.isLt }
  | sound (a : Nat) (b : Byte) (h : a < 4096) : BusWork s { s with sound := writeMem soundUnlisted s.sound a b }
  | access (x : Option SaveAccess) : BusWork s { s with saveAccess := x }

/-- Work on the voices, the mixer, the tracks and the ROM port. -/
inductive SoundWork (s : State) : State → Prop
  | endGrant (h : Holder) : SoundWork s (endGrant h s)
  | interrupt : SoundWork s (interruptFetch s)
  | voice (n : VoiceNo) (v : Voice) (hhome : v.home = s.voices[n].home)
      (hlegal : CuesKept s → VoiceLegal n s.voices[n] → VoiceLegal n v)
      (hfetch : ∀ g ∈ s.port.grant, g.holder = .voice n → fetches s.voices[n] = true → fetches v = true) :
      SoundWork s (setVoice n v s)
  | master (m : Nat) (h : m ≤ 16) : SoundWork s { s with mixer := { s.mixer with master := m } }
  | dac (d : Nat) (h : d ≤ 1023) (hpow : powered s = true) :
      SoundWork s { s with mixer := { s.mixer with dac := some d } }
  | start (k : TrackNo) (r : Track) (h : StartedTrack r)
      (hother : s.tracks[otherTrack k].active = true → s.tracks[otherTrack k].mask &&& r.mask = 0) :
      SoundWork s (startTrack k r s)
  | stop (k : TrackNo) : SoundWork s (stopTrack k s)
  | count (k : TrackNo) (h : s.tracks[k].active = true) : SoundWork s (countTrack k s)
  | tick (k : TrackNo) (h : s.tracks[k].active = true) : SoundWork s (fullTick k s)
  | arbitrate (h : Holder) (hidle : s.port.grant = none) (hnext : nextHolder s = some h) :
      SoundWork s { s with port := { s.port with grant := some ⟨h, 0, true⟩ } }
  | deliverVoice (g : Grant) (n : VoiceNo) (hgrant : s.port.grant = some g) (hholder : g.holder = .voice n) :
      SoundWork s (deliverVoice g n s)
  | deliverTrack (g : Grant) (k : TrackNo) (hgrant : s.port.grant = some g) (hholder : g.holder = .track k) :
      SoundWork s (deliverTrack g k s)

/-- Work on the slot directory and the save engine. -/
inductive SaveWork (s : State) : State → Prop
  | seen (n : SlotNo) : SaveWork s (setSlot n { s.dir.slots[n] with done := false } s)
  | land (n : SlotNo) (p : Nat) (b : Byte) (hp : p < 4096) (hpow : powered s = true) : SaveWork s (landWrite n p b s)
  | protect (p : Protect) : SaveWork s { s with dir := { s.dir with protect := p } }
  | acceptOpen (n : SlotNo) (hans : answered s = true) (h : openRefusal n s = none) : SaveWork s (acceptOpen n s)
  | acceptCommit (n : SlotNo) (hans : answered s = true) (hopen : s.dir.slots[n].state = .opened)
      (hroom : queueFull s = false) :
      SaveWork s (closeWindow (enqueue .commit n (setSlot n { s.dir.slots[n] with state := .committing } s)))
  | abandon (n : SlotNo) (hans : answered s = true)
      (h : s.dir.slots[n].state = .opening ∨ s.dir.slots[n].state = .opened) :
      SaveWork s (closeWindow (dropWork n (cancelOpen n s)))
  | acceptErase (n : SlotNo) (hans : answered s = true) (h : eraseRefusal n s = none) :
      SaveWork s (closeWindow (enqueue .erase n (setSlot n { s.dir.slots[n] with state := .erasing } s)))
  | acceptVerify (n : SlotNo) (hans : answered s = true) (h : verifyRefusal n s = none) :
      SaveWork s (enqueue .verify n (setSlot n { s.dir.slots[n] with verifyPending := true } s))
  | start (e : QueueEntry) (rest : List QueueEntry) (hidle : engineIdle s = true) (hq : s.engine.queue = e :: rest) :
      SaveWork s (startEntry e { s with engine := { s.engine with queue := rest } })
  | access (f : Flight) (hf : s.engine.flight = some f) (hpow : powered s = true) (hpos : f.position < 4096) :
      SaveWork s (accessByte f s)
  | openEnd (f : Flight) (hf : s.engine.flight = some f) (hpow : powered s = true) (hkind : f.kind = .open)
      (hall : scannedAll f = true) : SaveWork s (openEnd f s)
  | eraseEnd (f : Flight) (hf : s.engine.flight = some f) (hpow : powered s = true) (hready : eraseReady f s = true) :
      SaveWork s (eraseEnd f s)
  | verifyEnd (f : Flight) (hf : s.engine.flight = some f) (hpow : powered s = true) (hkind : f.kind = .verify)
      (hsweep : f.bySweep = false) (hall : scannedAll f = true) : SaveWork s (verifyEnd f s)
  | scan (n : SlotNo) (hn : s.engine.sweep = n.val) (hdue : sweepDue s = true) (hscan : sweepScans n s = true) :
      SaveWork s (setFlight (some ⟨.verify, n, .scan, 0, ⟨0, 0⟩, true⟩) s)
  | pass (hdue : sweepDue s = true) : SaveWork s (advanceSweep s)
  | sweepEnd (f : Flight) (hf : s.engine.flight = some f) (hpow : powered s = true) (hkind : f.kind = .verify)
      (hsweep : f.bySweep = true) (hall : scannedAll f = true) : SaveWork s (sweepEnd f s)

/-- Work on the rumble drive. -/
inductive DriveWork (s : State) : State → Prop
  | decide (r : Request) (hans : answered s = true) (h : CuesKept s → RequestFields r) :
      DriveWork s (decideRequest r s).2
  | clearQueue : DriveWork s { s with rumble := { s.rumble with queue := [] } }
  | stop (hans : answered s = true) (hactive : s.rumble.active.isSome = true) : DriveWork s (endRequest .stopped s)
  | renew (a : Active) (n : Nat) (hactive : s.rumble.active = some a) (hn : 1 ≤ n ∧ n ≤ 255) :
      DriveWork s (setActive (some { a with allowanceLeft := n }) s)
  | pattern (i : Fin 16) (p : Pattern) (hfree : playsPattern s i = false) (hlegal : PatternLegal p)
      (hsteps : p.steps ≠ []) :
      DriveWork s { s with rumble := { s.rumble with patterns := s.rumble.patterns.set i.val p i.isLt } }
  | tick (hpow : powered s = true) : DriveWork s (driveTick s)
  | stallInput (b : Bool) : DriveWork s { s with rumble := { s.rumble with stallInput := b, stallTimer := 0 } }
  | latchStall (hpow : powered s = true) : DriveWork s (latchStall s)
  | pwm (hpow : powered s = true) : DriveWork s (pwmSlot s)

/-- Work on the calendar, the crystal, the cues and frame capture. -/
inductive TimeWork (s : State) : State → Prop
  | cal (c : Calendar) (h : CalLegal s.cal → CalLegal c) : TimeWork s (setCal c s)
  | crystal (c : Crystal) (h : s.crystal.divider < 512 → c.divider < 512) : TimeWork s { s with crystal := c }
  | cue (n : CueNo) (c : Cue) (h : CueLegal s.cues[n] → CueLegal c) : TimeWork s (setCue n c s)
  | evaluate (m : TickMoment) : TimeWork s { s with cues := tabulate fun n => s.cues[n].evaluated m }
  | frame (f : FrameCapture) (h : FrameLegal s.frame → FrameLegal f) : TimeWork s (setFrame f s)

/-- The work of one part. -/
inductive Work (s t : State) : Prop
  | bus (h : BusWork s t)
  | sound (h : SoundWork s t)
  | save (h : SaveWork s t)
  | drive (h : DriveWork s t)
  | time (h : TimeWork s t)

/-- A move: the work of one part, or a change of the slot lines, the FIFOs, the supply or the whole console side. -/
inductive Move (s : State) : State → Prop
  | work {t : State} (h : Work s t) : Move s t
  | slot (x : SlotBus) : Move s { s with slot := x }
  | commands (u : CommandUnit) (hfifo : s.cmd.fifo.length ≤ 64 → u.fifo.length ≤ 64)
      (hreply : BoundsKept s → u.reply.length ≤ 64) : Move s { s with cmd := u }
  | softReset (hans : answered s = true) :
      Move s { setLastReset .softReset (loadProfile s.profile (resetBlocks s)) with
        cmd := .initial, cause := { (resetBlocks s).cause with enables := 0, latches := .clear } }
  | resetLine (hpow : powered s = true) :
      Move s (resetLineEffect (changeSupply (fun u => { u with crst := true }) s))
  | assertReset (hans : answered s = false) : Move s (changeSupply (fun u => { u with crst := true }) s)
  | release (straps : Straps) (hpow : powered s = true) (hcrst : s.supply.crst = true) :
      Move s (releaseEffect straps (changeSupply (fun u => { u with crst := false }) s))
  | dropReset (h : powered s = false ∨ s.supply.crst = false) :
      Move s (changeSupply (fun u => { u with crst := false }) s)
  | attach (h : s.supply.domainValid = false) : Move s (attach s)
  | enterStarting (h : s.supply.monitor = .battery) (hvalid : s.supply.domainValid = true) : Move s (enterStarting s)
  | abortStart (h : s.supply.monitor = .starting) : Move s (abortStart s)
  | powerUp (straps : Straps) (h : s.supply.monitor = .starting) : Move s (powerUp straps s)
  | enterWarn (h : s.supply.monitor = .run) : Move s (enterWarn s)
  | exitWarn (h : s.supply.monitor = .warn) : Move s (setMonitor .run s)
  | fail (h : s.supply.monitor = .warn) : Move s (failFromWarn s)
  | loseDomain (h : s.supply.monitor = .battery) : Move s (loseDomain s)
  | watch (low sense : Bool) (filter : Nat) :
      Move s (changeSupply (fun u => { u with vbatLow := low, batlowFilter := filter, batlowSense := sense }) s)

/-- A run of moves. -/
abbrev Moves : State → State → Prop := Relation.ReflTransGen Move

/-- A run of the parts' work. -/
abbrev Works : State → State → Prop := Relation.ReflTransGen Work

/-! ## What the work of each part leaves alone -/

/-- What the map, the sound RAM and the cause unit leave alone. -/
def outsideBus (s : State) : State := { s with map := loadedMap 4, sound := [], cause := .initial, saveAccess := none }

/-- What the calendar, the crystal, the cues and frame capture leave alone. -/
def outsideTime (s : State) : State :=
  { s with cal := .attached, crystal := ⟨0, true⟩, cues := State.reset.cues, frame := .initial 0 }

/-- What no part's work touches. -/
def untouched (s : State) : SlotBus × Profile × Memory × Supply × CommandUnit × Nat × List Instr :=
  (s.slot, s.profile, s.rom, unheld s.supply, s.cmd, s.freeIndex, s.pending)

section
variable {s t : State}

theorem BusWork.outside (h : BusWork s t) : outsideBus t = outsideBus s := by
  cases h <;> rfl

theorem SoundWork.outside (h : SoundWork s t) : outsideSound t = outsideSound s := by
  cases h
  case interrupt | master | dac | arbitrate => rfl
  all_goals simp

theorem SaveWork.outside (h : SaveWork s t) : outsideSave t = outsideSave s := by
  cases h
  case start e rest _ _ => exact outsideSave_startEntry ..
  case protect => rfl
  all_goals simp

theorem DriveWork.outside (h : DriveWork s t) : outsideDrive t = outsideDrive s := by
  cases h
  case clearQueue | pattern | stallInput => rfl
  all_goals simp

theorem TimeWork.outside (h : TimeWork s t) : outsideTime t = outsideTime s := by
  cases h <;> rfl

/-! A property that reads nothing of what a part can touch is kept by that part's work. -/

theorem BusWork.keeps {P : State → Prop} (hP : ∀ u, P u ↔ P (outsideBus u)) (h : BusWork s t) (hs : P s) : P t :=
  (hP t).2 (h.outside ▸ (hP s).1 hs)

theorem SoundWork.keeps {P : State → Prop} (hP : ∀ u, P u ↔ P (outsideSound u).1) (h : SoundWork s t) (hs : P s) :
    P t :=
  (hP t).2 (congrArg Prod.fst h.outside ▸ (hP s).1 hs)

theorem SaveWork.keeps {P : State → Prop} (hP : ∀ u, P u ↔ P (outsideSave u).1) (h : SaveWork s t) (hs : P s) : P t :=
  (hP t).2 (congrArg Prod.fst h.outside ▸ (hP s).1 hs)

theorem DriveWork.keeps {P : State → Prop} (hP : ∀ u, P u ↔ P (outsideDrive u).1) (h : DriveWork s t) (hs : P s) :
    P t :=
  (hP t).2 (congrArg Prod.fst h.outside ▸ (hP s).1 hs)

theorem TimeWork.keeps {P : State → Prop} (hP : ∀ u, P u ↔ P (outsideTime u)) (h : TimeWork s t) (hs : P s) : P t :=
  (hP t).2 (h.outside ▸ (hP s).1 hs)

theorem Work.untouched_eq (h : Work s t) : untouched t = untouched s := by
  cases h with
  | bus h => exact (congrArg (fun u => untouched u) h.outside : untouched (outsideBus t) = untouched (outsideBus s))
  | sound h => exact congrArg (fun u => untouched u.1) h.outside
  | save h => exact congrArg (fun u => untouched u.1) h.outside
  | drive h => exact congrArg (fun u => untouched u.1) h.outside
  | time h => exact (congrArg (fun u => untouched u) h.outside : untouched (outsideTime t) = untouched (outsideTime s))

theorem Works.untouched_eq (h : Works s t) : untouched t = untouched s := by
  induction h with
  | refl => rfl
  | tail _ h ih => exact h.untouched_eq.trans ih

theorem Works.cmd_eq (h : Works s t) : t.cmd = s.cmd := by
  have := h.untouched_eq
  simp_all [untouched]

theorem Works.unheld_eq (h : Works s t) : unheld t.supply = unheld s.supply := by
  have := h.untouched_eq
  simp_all [untouched]

theorem powered_of_unheld (h : unheld t.supply = unheld s.supply) : powered t = powered s := by
  have : t.supply.monitor = s.supply.monitor := congrArg (fun u => u.monitor) h
  simp [powered, this]

theorem answered_of_unheld (h : unheld t.supply = unheld s.supply) : answered t = answered s := by
  have : t.supply.crst = s.supply.crst := congrArg (fun u => u.crst) h
  simp [answered, powered_of_unheld h, this]

theorem Works.powered_eq (h : Works s t) : powered t = powered s := powered_of_unheld h.unheld_eq

theorem Works.answered_eq (h : Works s t) : answered t = answered s := answered_of_unheld h.unheld_eq

theorem Works.moves (h : Works s t) : Moves s t := Relation.ReflTransGen.mono (fun _ _ => Move.work) s t h

end

end Sys2Proof.Proofs
end

section
/-! SUPPORT. Voice records in their ranges (R97 to R110): what a record's taking, a note-on, a release, a stop, an
envelope step and a sample leave of them, and that each of these is the voices' work. -/

namespace Sys2Proof.Proofs

open Sys2Proof.Machine Sys2Proof.Safety Sys2Proof.Laws

/-! ## Records taken -/

theorem takeRecord_legal {b : Nat → Byte} {snap : Snapshot} (h : takeRecord b = some snap) : SnapshotLegal snap := by
  unfold takeRecord at h
  simp only at h
  split at h
  · nomatch h
  · split at h
    · nomatch h
    next hstream =>
      cases h
      have hlength : nat2 (b 5) (b 6) ≤ 65535 := by
        have := (b 5).isLt
        have := (b 6).isLt
        unfold nat2
        omega
      refine ⟨Nat.min_le_right .., hlength, Nat.min_le_right .., Nat.min_le_right .., Nat.min_le_right ..,
        Nat.min_le_right .., Nat.min_le_right .., fun hmode => ?_⟩
      exact Nat.one_le_iff_ne_zero.2 fun hzero => hstream ⟨hmode, hzero⟩

theorem instrumentOf_legal {s : State} {n : Nat} {snap : Snapshot} (h : instrumentOf s n = some snap) :
    SnapshotLegal snap := takeRecord_legal h

/-! ## Requests -/

theorem ownerOfHome_ne_cue (home : Option TrackNo) : ownerOfHome home ≠ .cue := by cases home <;> nofun

theorem toIdle_legal {n : VoiceNo} {v : Voice} (h : VoiceLegal n v) : VoiceLegal n v.toIdle := by
  obtain ⟨hsnap, hnote, hsel, hinc, hvol, -, hacc, hfrac, -, hlfsr, hlow, hhigh, -⟩ := h
  exact ⟨hsnap, hnote, hsel, hinc, hvol, Nat.zero_le _, hacc, hfrac, Nat.zero_le _, hlfsr, hlow, hhigh,
    fun hcue => absurd hcue (ownerOfHome_ne_cue _), nofun, fun _ => ⟨rfl, rfl, rfl, rfl⟩⟩

theorem noteOn_legal {n : VoiceNo} {v : Voice} {i inc vol : Nat} {snap : Snapshot} (h : VoiceLegal n v)
    (hsnap : SnapshotLegal snap) (hi : i ≤ 15) (hinc : inc ≤ 65535) (hvol : vol ≤ 15) :
    VoiceLegal n (v.noteOn i snap inc vol) := by
  obtain ⟨-, -, hsel, -, -, -, -, -, -, hlfsr, -, -, hcue, -, -⟩ := h
  have henv : (if 0 < snap.attack then 0 else 127) ≤ 127 := by split <;> omega
  have hfirst : firstLfsr snap.mode v.lfsr ≤ 32767 := by cases hm : snap.mode <;> simp [firstLfsr, hlfsr]
  have hphase : (v.noteOn i snap inc vol).phase ≠ .idle := by
    simp only [Voice.noteOn]
    split <;> nofun
  exact ⟨hsnap, hi, hsel, hinc, hvol, henv, Nat.zero_lt_succ _, Nat.zero_lt_succ _, Nat.zero_le _, hfirst,
    by simp [Voice.noteOn], by simp [Voice.noteOn], hcue, nofun, fun hidle => absurd hidle hphase⟩

theorem noteOn_phase_ne_idle (v : Voice) (i inc vol : Nat) (snap : Snapshot) :
    (v.noteOn i snap inc vol).phase ≠ .idle := by
  simp only [Voice.noteOn]
  split <;> nofun

/-- A sounding voice changes its phase, not to IDLE, and its envelope within its range. -/
theorem legal_of_phase {n : VoiceNo} {v : Voice} {p : Phase} {env : Nat} (h : VoiceLegal n v) (hp : p ≠ .idle)
    (henv : env ≤ 127) : VoiceLegal n { v with phase := p, env := env } := by
  obtain ⟨hsnap, hnote, hsel, hinc, hvol, -, hacc, hfrac, hbuf, hlfsr, hlow, hhigh, hcue, hhold, -⟩ := h
  exact ⟨hsnap, hnote, hsel, hinc, hvol, henv, hacc, hfrac, hbuf, hlfsr, hlow, hhigh, hcue, hhold,
    fun hidle => absurd hidle hp⟩

theorem env_le_of_legal {n : VoiceNo} {v : Voice} (h : VoiceLegal n v) : v.env ≤ 127 := h.2.2.2.2.2.1

theorem releaseRequest_legal {n : VoiceNo} {v : Voice} (h : VoiceLegal n v) : VoiceLegal n v.releaseRequest := by
  unfold Voice.releaseRequest
  split
  · exact h
  · exact h
  · split
    · exact toIdle_legal h
    · exact legal_of_phase h nofun (env_le_of_legal h)

theorem stopRequest_legal {n : VoiceNo} {v : Voice} (h : VoiceLegal n v) : VoiceLegal n v.stopRequest := by
  unfold Voice.stopRequest
  split
  · exact h
  · exact toIdle_legal h

theorem envelope_legal {n : VoiceNo} {v : Voice} (h : VoiceLegal n v) : VoiceLegal n v.envelope := by
  have henv := env_le_of_legal h
  have hsustain : v.snapshot.sustain ≤ 127 := h.1.2.2.2.2.2.1
  unfold Voice.envelope
  simp only
  split
  · exact h
  next hphase =>
    split
    · exact legal_of_phase h nofun (Nat.le_refl _)
    next hlow => exact legal_of_phase (p := v.phase) h (by simp [hphase]) (Nat.le_of_not_ge fun hge => hlow hge)
  next hphase =>
    split
    · exact legal_of_phase h nofun henv
    · split
      · exact legal_of_phase h nofun hsustain
      · exact legal_of_phase (p := v.phase) h (by simp [hphase]) ((Nat.sub_le ..).trans henv)
  · exact h
  next hphase =>
    split
    · exact toIdle_legal h
    · exact legal_of_phase (p := v.phase) h (by simp [hphase]) ((Nat.sub_le ..).trans henv)

/-! ## Samples -/

theorem sampleOf_range (b : Byte) : -128 ≤ sampleOf b ∧ sampleOf b ≤ 127 := by
  have := b.isLt
  unfold sampleOf
  split <;> omega

theorem lfsrStep_le {mode : Mode} {l : Nat} (h : l ≤ 32767) : lfsrStep mode l ≤ 32767 := by
  simp only [lfsrStep]
  split <;> split <;> omega

theorem lfsrSteps_le {mode : Mode} (c : Nat) {l : Nat} (h : l ≤ 32767) : lfsrSteps mode c l ≤ 32767 := by
  induction c generalizing l with
  | zero => exact h
  | succ c ih => exact ih (lfsrStep_le h)

/-- What a sample leaves of a sounding voice: its phase, owner and hold, and the fields of its mode in their ranges. -/
theorem legal_of_sample {n : VoiceNo} {v w : Voice} (h : VoiceLegal n v) (hphase : v.phase ≠ .idle)
    (hw : w = { v with last := w.last, acc := w.acc, lfsr := w.lfsr, buffer := w.buffer, fraction := w.fraction,
                       position := w.position })
    (hlow : -128 ≤ w.last) (hhigh : w.last ≤ 127) (hacc : w.acc < 131072) (hlfsr : w.lfsr ≤ 32767)
    (hbuf : w.buffer.length ≤ 16) (hfrac : w.fraction < 4096) : VoiceLegal n w := by
  obtain ⟨hsnap, hnote, hsel, hinc, hvol, henv, -, -, -, -, -, -, hcue, hhold, -⟩ := h
  rw [hw]
  exact ⟨hsnap, hnote, hsel, hinc, hvol, henv, hacc, hfrac, hbuf, hlfsr, hlow, hhigh, hcue, hhold,
    fun hidle => absurd hidle hphase⟩

theorem streamAdvance_legal {n : VoiceNo} {v : Voice} {k : Nat} {x : Int} (h : VoiceLegal n v)
    (hphase : v.phase ≠ .idle) (hx : -128 ≤ x ∧ x ≤ 127) : VoiceLegal n (v.streamAdvance k x) := by
  have ⟨_, _, _, _, _, _, hacc, _, hbuf, hlfsr, _⟩ := h
  have hdrop : (v.buffer.drop (min k v.buffer.length)).length ≤ 16 := by rw [List.length_drop]; omega
  have hbase : ∀ position, VoiceLegal n { v with
      last := x, buffer := v.buffer.drop (min k v.buffer.length), fraction := (v.fraction + v.increment) % 4096,
      position := position } := fun position =>
    legal_of_sample h hphase rfl hx.1 hx.2 hacc hlfsr hdrop (Nat.mod_lt _ (Nat.zero_lt_succ _))
  unfold Voice.streamAdvance
  simp only
  split
  · split
    · exact toIdle_legal (hbase _)
    · exact hbase _
  · exact hbase _

theorem sample_legal {n : VoiceNo} {v : Voice} {sound : Nat → Byte} (h : VoiceLegal n v) :
    VoiceLegal n (v.sample sound).voice := by
  have ⟨_, _, _, _, _, _, hacc, hfrac, hbuf, hlfsr, _⟩ := h
  have hnoise (hphase : v.phase ≠ .idle) : VoiceLegal n v.sampleNoise.voice := by
    have hx : -128 ≤ v.sampleNoise.voice.last ∧ v.sampleNoise.voice.last ≤ 127 := by
      simp only [Voice.sampleNoise]
      split <;> omega
    exact legal_of_sample h hphase rfl hx.1 hx.2 ((Nat.mod_lt _ (Nat.zero_lt_succ _)).trans (by decide))
      (lfsrSteps_le _ hlfsr) hbuf hfrac
  unfold Voice.sample
  split
  · exact h
  next hphase =>
    split
    · have hx := sampleOf_range (sound (32 * v.snapshot.wave + v.acc / 4096))
      exact legal_of_sample h hphase rfl hx.1 hx.2 (Nat.mod_lt _ (Nat.zero_lt_succ _)) hlfsr hbuf hfrac
    · unfold Voice.sampleStream
      simp only
      split
      · exact h
      · split
        · exact h
        · exact streamAdvance_legal h hphase (sampleOf_range _)
    · exact hnoise hphase
    · exact hnoise hphase

/-! ## What these leave of a voice that fetches -/

theorem fetches_iff {v : Voice} :
    fetches v = true ↔ v.phase ≠ .idle ∧ v.snapshot.mode = .stream ∧ v.fetch < v.snapshot.length ∧
      v.buffer.length < 16 := by
  simp [fetches, and_assoc]

/-- A voice that is not brought to IDLE, and whose buffer does not grow, goes on fetching. -/
theorem fetches_of_le {v w : Voice} (h : fetches v = true) (hphase : w.phase ≠ .idle) (hsnap : w.snapshot = v.snapshot)
    (hfetch : w.fetch = v.fetch) (hbuf : w.buffer.length ≤ v.buffer.length) : fetches w = true := by
  obtain ⟨-, hmode, hmore, hroom⟩ := fetches_iff.1 h
  exact fetches_iff.2 ⟨hphase, hsnap ▸ hmode, by rwa [hfetch, hsnap], hbuf.trans_lt hroom⟩

theorem envelope_same (v : Voice) : v.envelope.home = v.home ∧ v.envelope.snapshot = v.snapshot ∧
    v.envelope.fetch = v.fetch ∧ v.envelope.buffer.length ≤ v.buffer.length := by
  unfold Voice.envelope
  simp only
  repeat' split
  all_goals simp [Voice.toIdle]

theorem releaseRequest_same (v : Voice) : v.releaseRequest.home = v.home ∧ v.releaseRequest.snapshot = v.snapshot ∧
    v.releaseRequest.fetch = v.fetch ∧ v.releaseRequest.buffer.length ≤ v.buffer.length := by
  unfold Voice.releaseRequest
  repeat' split
  all_goals simp [Voice.toIdle]

theorem stopRequest_same (v : Voice) : v.stopRequest.home = v.home ∧ v.stopRequest.snapshot = v.snapshot ∧
    v.stopRequest.fetch = v.fetch ∧ v.stopRequest.buffer.length ≤ v.buffer.length := by
  unfold Voice.stopRequest
  split <;> simp [Voice.toIdle]

theorem sample_same (v : Voice) (sound : Nat → Byte) : (v.sample sound).voice.home = v.home ∧
    (v.sample sound).voice.snapshot = v.snapshot ∧ (v.sample sound).voice.fetch = v.fetch ∧
    (v.sample sound).voice.buffer.length ≤ v.buffer.length := by
  unfold Voice.sample Voice.sampleStream Voice.streamAdvance
  simp only
  repeat' split
  all_goals simp [Voice.toIdle, Voice.sampleWave, Voice.sampleNoise]

/-! ## The voices' work -/

theorem works_of {s t : State} (h : Work s t) : Works s t := Relation.ReflTransGen.single h

theorem Works.foldl {α : Type} {f : State → α → State} (h : ∀ s a, Works s (f s a)) (l : List α) (s : State) :
    Works s (l.foldl f s) := by
  induction l generalizing s with
  | nil => exact .refl
  | cons a l ih => exact (h s a).trans (ih _)

/-- A voice's record is replaced with its grant ended: what the record fetched no longer matters. -/
theorem works_endGrant_setVoice {n : VoiceNo} {v : Voice} {s : State} (hhome : v.home = s.voices[n].home)
    (hlegal : CuesKept s → VoiceLegal n s.voices[n] → VoiceLegal n v) :
    Works s (endGrant (.voice n) (setVoice n v s)) := by
  refine (works_of (.sound (.endGrant (.voice n)))).tail (.sound (.voice n v hhome hlegal fun g hg hn => ?_))
  simp [endGrant, hn] at hg

theorem works_putVoice {n : VoiceNo} {v : Voice} {s : State}
    (hlegal : CuesKept s → VoiceLegal n s.voices[n] → VoiceLegal n v)
    (hsame : v.home = s.voices[n].home ∧ v.snapshot = s.voices[n].snapshot ∧ v.fetch = s.voices[n].fetch ∧
      v.buffer.length ≤ s.voices[n].buffer.length) : Works s (putVoice n v s) := by
  obtain ⟨hhome, hsnap, hfetch, hbuf⟩ := hsame
  by_cases hidle : v.phase = .idle
  · rw [putVoice_of_idle hidle]
    exact works_endGrant_setVoice hhome hlegal
  · rw [putVoice_of_not_idle hidle]
    exact works_of (.sound (.voice n v hhome hlegal fun g _ _ h => fetches_of_le h hidle hsnap hfetch hbuf))

theorem works_startNote {n : VoiceNo} {i inc vol : Nat} {own : Voice → Voice} {s t : State}
    (h : startNote n i inc vol own s = some t) (hhome : ∀ v, (own v).home = v.home)
    (hown : CuesKept s → VoiceLegal n s.voices[n] → ∀ snap, SnapshotLegal snap →
      VoiceLegal n (own (s.voices[n].noteOn i snap inc vol))) : Works s t := by
  unfold startNote at h
  split at h
  · nomatch h
  next snap hsnap =>
    cases h
    exact works_endGrant_setVoice (hhome _) fun hcues hv => hown hcues hv snap (instrumentOf_legal hsnap)

theorem works_releaseVoice (n : VoiceNo) (s : State) : Works s (releaseVoice n s) :=
  works_putVoice (fun _ => releaseRequest_legal) (releaseRequest_same _)

theorem works_stopVoice (n : VoiceNo) (s : State) : Works s (stopVoice n s) :=
  works_putVoice (fun _ => stopRequest_legal) (stopRequest_same _)

theorem works_envelopeAll (s : State) : Works s (envelopeAll s) :=
  Works.foldl (fun _ _ => works_putVoice (fun _ => envelope_legal) (envelope_same _)) _ s

/-- A fault flag's event, but STALL's, is the cause unit's work. -/
theorem work_setFault {f : FaultFlag} (h : f ≠ .stall) (s : State) : Work s (setFault f s) := by
  rw [setFault_eq]
  refine .bus (.cause _ (fun hstall => ?_) fun hlatch => ?_)
  · rw [← setFault_eq, hasFault_setFault] at hstall
    simpa [h.symm] using hstall
  · rw [← setFault_eq]
    exact of_decide_eq_true ((latchesFit_setFault f s).trans (decide_eq_true hlatch))

theorem works_setFaultIf {f : FaultFlag} (h : f ≠ .stall) (b : Bool) (s : State) : Works s (setFaultIf b f s) := by
  unfold setFaultIf
  split
  · exact works_of (work_setFault h s)
  · exact .refl

theorem dacCode_le (z : Int) : dacCode z ≤ 1023 := by
  unfold dacCode mixClamp
  split
  · omega
  · split <;> omega

theorem works_sampleVoices {s : State} (hpow : powered s = true) : Works s (sampleVoices s) := by
  have hall : Works s (allVoices.foldl advanceVoice s) := Works.foldl (fun u n =>
    (works_putVoice (fun _ => sample_legal) (sample_same _ _)).trans (works_setFaultIf (by decide) _ _)) _ s
  unfold sampleVoices
  simp only
  refine (hall.tail (.sound (.dac _ (dacCode_le _) ?_))).trans (works_setFaultIf (by decide) _ _)
  rw [hall.powered_eq, hpow]

theorem works_holdTick (s : State) : Works s (holdTick s) := by
  unfold holdTick
  simp only
  split
  next h hhold =>
    split
    next hruns =>
      have hsounding : s.voices[(5 : VoiceNo)].phase ≠ .idle := by
        intro hidle
        simp only [Voice.holdRuns, hidle] at hruns
        exact absurd hruns (by decide)
      have hset (o : Option Nat) (hv : VoiceLegal 5 s.voices[(5 : VoiceNo)])
          (ho : ∀ k ∈ o, 1 ≤ k ∧ k ≤ h) : VoiceLegal 5 { s.voices[(5 : VoiceNo)] with hold := o } := by
        obtain ⟨hsnap, hnote, hsel, hinc, hvol, henv, hacc, hfrac, hbuf, hlfsr, hlow, hhigh, hcue, hheld, -⟩ := hv
        have hown := hheld h hhold
        exact ⟨hsnap, hnote, hsel, hinc, hvol, henv, hacc, hfrac, hbuf, hlfsr, hlow, hhigh, hcue,
          fun k hk => ⟨hown.1, (ho k hk).1, (ho k hk).2.trans hown.2.2⟩, fun hidle => absurd hidle hsounding⟩
      split
      · exact works_putVoice (fun _ hv => releaseRequest_legal (hset none hv nofun)) (releaseRequest_same _)
      next hmore =>
        refine works_of (.sound (.voice 5 _ rfl (fun _ hv => hset _ hv fun k hk => ?_) fun _ _ _ => id))
        cases hk
        omega
    · exact .refl
  · exact .refl

end Sys2Proof.Proofs
end

section
/-! SUPPORT. Every command is a run of moves, and so is what the part does by itself; hence a property that every move
keeps is one that every step keeps. -/

namespace Sys2Proof.Proofs

open Sys2Proof.Machine Sys2Proof.Safety Sys2Proof.Laws

/-! ## Replies and the taking of messages -/

theorem length_frame (code : Byte) (p : List Byte) : (frame code p).length = p.length + 3 := by
  simp [frame]

theorem moves_of {s t : State} (h : Move s t) : Moves s t := Relation.ReflTransGen.single h

/-- The reply FIFO has the room that R165 asks for. -/
abbrev Room (s : State) : Prop := s.cmd.reply.length + 35 ≤ 64

theorem reply_le {s : State} (h : BoundsKept s) : s.cmd.reply.length ≤ 64 := by
  obtain ⟨-, -, -, hreply, -⟩ := h
  exact hreply

/-- A reply whose payload has at most 32 bytes, where the queues are in bounds, joins the reply FIFO behind the parts'
work. -/
theorem Works.reply_of_bounds {s t : State} (h : Works s t) (hroom : Room s) (st : ReplyStatus) {p : List Byte}
    (hp : BoundsKept t → p.length ≤ 32) : Moves s (reply st p t) := by
  refine h.moves.tail (.commands _ id fun hbounds => ?_)
  have : t.cmd = s.cmd := h.cmd_eq
  have := hp hbounds
  simp only [List.length_append, length_frame, *]
  omega

theorem Works.reply {s t : State} (h : Works s t) (hroom : Room s) (st : ReplyStatus) {p : List Byte}
    (hp : p.length ≤ 32) : Moves s (reply st p t) := h.reply_of_bounds hroom st fun _ => hp

theorem Works.answer {s t : State} (h : Works s t) (hroom : Room s) (st : ReplyStatus) : Moves s (answer st t) :=
  h.reply hroom st (Nat.zero_le _)

theorem moves_answer {s : State} (hroom : Room s) (st : ReplyStatus) : Moves s (answer st s) :=
  Works.answer .refl hroom st

theorem moves_taken {s : State} (msg : List Byte) : Moves s (taken (s.cmd.fifo.drop msg.length) s) := by
  refine moves_of (.commands _ (fun h => ?_) reply_le)
  simp only [List.length_drop]
  omega

theorem takeMessage_cases {msg : List Byte} {s t : State} (h : takeMessage msg s = some t) :
    t = taken (s.cmd.fifo.drop msg.length) s ∧ answered t = true ∧ Room t := by
  unfold takeMessage at h
  split at h
  next hcan =>
    cases h
    simp only [Bool.and_eq_true, canTake, decide_eq_true_eq] at hcan
    exact ⟨rfl, hcan.1.1, hcan.1.2⟩
  · nomatch h

/-- A command is a run of moves where its effect is one on an answered state with room for a reply. -/
theorem moves_command {i : Instr} {s t : State} {effect : State → State} (h : command i s effect = .next t)
    (heffect : ∀ u, answered u = true → Room u → Moves u (effect u)) : Moves s t := by
  unfold command at h
  split at h
  · cases h
    exact .refl
  next u hu =>
    cases h
    obtain ⟨rfl, hans, hroom⟩ := takeMessage_cases hu
    exact (moves_taken _).trans (heffect _ hans hroom)

/-! ## Accesses -/

theorem moves_drive (a : SlotAddr) (d : Option Byte) (s : State) : Moves s (drive a d s) := moves_of (.slot _)

theorem moves_readAs {a : SlotAddr} {f : State → Byte × State} {s : State}
    (h : answered s = true → Moves s (f s).2) : Moves s (readAs a f s) := by
  unfold readAs
  split
  · exact moves_drive ..
  · split
    · exact (h ‹_›).trans (moves_drive ..)
    · exact moves_drive ..

theorem moves_writeAs {a : SlotAddr} {d : Byte} {f : State → State} {s : State}
    (h : answered s = true → Moves s (f s)) : Moves s (writeAs a d f s) := by
  unfold writeAs
  split
  · exact .refl
  · split
    · exact (h ‹_›).tail (.slot _)
    · exact moves_of (.slot _)

theorem moves_releaseCause (c : Cause) (s : State) : Moves s (releaseCause c s) := by
  have hlatches (l : Latches) (hl : LatchesKept s → LatchesKept { s with cause := { s.cause with latches := l } }) :
      Moves s { s with cause := { s.cause with latches := l } } :=
    moves_of (.work (.bus (.cause _ id hl)))
  cases c with
  | fault => exact hlatches _ fun h => by rw [latchesKept_iff] at h ⊢; exact ⟨nofun, h.2⟩
  | frameLost => exact hlatches _ fun h => by rw [latchesKept_iff] at h ⊢; exact ⟨h.1, nofun, h.2.2⟩
  | rumbleEnd =>
    exact hlatches _ fun h => by rw [latchesKept_iff] at h ⊢; exact ⟨h.1, h.2.1, nofun, h.2.2.2⟩
  | save n => exact moves_of (.work (.save (.seen n)))
  | cue n =>
    refine moves_of (.work (.time (.cue n _ fun h => ?_)))
    obtain ⟨htrig, harm, hsound, hrumble, hcount, -, hmissed⟩ := h
    exact ⟨htrig, harm, hsound, hrumble, hcount, nofun, hmissed⟩
  | marker k =>
    refine hlatches _ fun h => ?_
    rw [latchesKept_iff] at h ⊢
    obtain ⟨hf, hl, hr, h0, h1⟩ := h
    split
    · exact ⟨hf, hl, hr, nofun, h1⟩
    · exact ⟨hf, hl, hr, h0, nofun⟩
  | warn => exact .refl

theorem moves_readCause (s : State) : Moves s (readCause s).2 := by
  unfold readCause
  split
  · exact moves_releaseCause ..
  · exact .refl

theorem moves_popReply (s : State) : Moves s (popReply s).2 := by
  unfold popReply
  split
  next b rest hreply =>
    refine moves_of (.commands _ id fun h => ?_)
    have hle := reply_le h
    rw [hreply] at hle
    exact (Nat.le_succ _).trans hle
  · exact .refl

theorem moves_readStatus (s : State) : Moves s (readStatus s).2 := moves_of (.commands _ id reply_le)

theorem moves_syncCommands (s : State) : Moves s (syncCommands s) :=
  moves_of (.commands _ (fun _ => Nat.zero_le _) reply_le)

theorem moves_pushCommandByte (b : Byte) (s : State) : Moves s (pushCommandByte b s) := by
  unfold pushCommandByte
  split
  next hroom =>
    refine moves_of (.commands _ (fun _ => ?_) reply_le)
    simpa [Config.fifoSize, Nat.succ_le_iff] using hroom
  · refine .tail (moves_of (.commands { s.cmd with overrun := true } id reply_le)) ?_
    exact .work (work_setFault (by decide) _)

theorem moves_apertureRead (n : Nat) (s : State) : Moves s (apertureRead n s).2 := by
  unfold apertureRead
  split
  · exact .refl
  · exact moves_popReply s
  · exact moves_readStatus s
  · exact moves_readCause s
  · exact .refl

theorem moves_apertureWrite (n : Nat) (b : Byte) (s : State) : Moves s (apertureWrite n b s) := by
  unfold apertureWrite
  split
  · exact moves_pushCommandByte b s
  · exact moves_syncCommands s
  · exact .refl

theorem moves_refuseAccess {f : FaultFlag} (h : f ≠ .stall) (a : SlotAddr) (w : Bool) (r : RefuseReason) (s : State) :
    Moves s (refuseAccess f a w r s) :=
  (moves_of (.work (work_setFault h s))).tail (.work (.bus (.cause _ id id)))

theorem moves_refusedWrite (a : SlotAddr) (w : Bool) (r : RefuseReason) (s : State) :
    Moves s (refuseAccess .refusedWrite a w r s) := moves_refuseAccess (by decide) ..

theorem moves_range (a : SlotAddr) (w : Bool) (r : RefuseReason) (s : State) :
    Moves s (refuseAccess .range a w r s) := moves_refuseAccess (by decide) ..

theorem moves_access (x : Option SaveAccess) (s : State) : Moves s { s with saveAccess := x } :=
  moves_of (.work (.bus (.access x)))

theorem moves_mappedRead (a : SlotAddr) (s : State) : Moves s (mappedRead a s).2 := by
  unfold mappedRead
  simp only
  split
  · exact .refl
  · exact moves_of (.work (.sound .interrupt))
  · split
    · simp only [viewRead]
      split
      · exact moves_access ..
      · exact .refl
    · exact moves_range ..
  · split
    · exact moves_access ..
    · exact .refl
  · exact .refl

theorem moves_mappedWrite {s : State} (hpow : powered s = true) (a : SlotAddr) (b : Byte) :
    Moves s (mappedWrite a b s) := by
  unfold mappedWrite
  simp only
  split
  · exact .refl
  · exact .refl
  · split
    · exact moves_range ..
    next hoff =>
      split
      · exact moves_refusedWrite ..
      · split
        · exact moves_of (.work (.save (.land _ _ _ (Nat.lt_of_not_ge hoff) hpow)))
        · exact moves_refusedWrite ..
  · exact moves_refusedWrite ..
  · split
    · exact moves_of (.work (.bus (.sound _ _ (Nat.mod_lt _ (Nat.zero_lt_succ _)))))
    · exact moves_refusedWrite ..

theorem moves_resolveRead (a : SlotAddr) (s : State) : Moves s (resolveRead a s).2 := by
  unfold resolveRead
  split
  · exact moves_apertureRead ..
  · exact moves_mappedRead ..

theorem moves_resolveWrite {s : State} (hans : answered s = true) (a : SlotAddr) (b : Byte) :
    Moves s (resolveWrite a b s) := by
  unfold resolveWrite
  split
  · exact moves_apertureWrite ..
  · exact moves_mappedWrite (powered_of_answered hans) ..

theorem moves_messageRefused {msg : List Byte} {s t : State} (h : execMessageRefused msg s = .next t) : Moves s t := by
  unfold execMessageRefused at h
  split at h
  next st bad u _ _ hu =>
    cases h
    obtain ⟨rfl, -, hroom⟩ := takeMessage_cases hu
    have hanswer {s : State} (hroom : Room s) : Moves s (answer st (setFaultIf bad .badFrame s)) :=
      (works_setFaultIf (by decide) bad s).answer hroom st
    refine (moves_taken msg).trans ?_
    simp only
    split
    · exact (moves_syncCommands _).trans (hanswer (s := syncCommands _) hroom)
    · exact hanswer hroom
  · cases h
    exact .refl

/-! ## Commands on the map, the flags and the enables -/

section
variable {s : State}

theorem moves_mapSet (hroom : Room s) (strip kind page writable : Byte) :
    Moves s (mapSetEffect strip kind page writable s) := by
  unfold mapSetEffect
  split
  next i e hfields =>
    exact (works_of (.bus (.map i e (mapSetFields_eq_some.1 hfields).2.2.2.2))).answer hroom _
  · exact moves_answer hroom _

theorem moves_mapGet (hroom : Room s) (strip : Byte) : Moves s (mapGetEffect strip s) := by
  unfold mapGetEffect
  split
  · exact Works.reply .refl hroom _ (by simp)
  · exact moves_answer hroom _

theorem moves_faultClear (hroom : Room s) (mask : Word16) : Moves s (faultClearEffect mask s) := by
  unfold faultClearEffect
  split
  · have hclear : Work s { s with cause := { s.cause with flags := s.cause.flags &&& ~~~(mask.setWidth 12) } } := by
      refine .bus (.cause _ (fun h => ?_) fun h => h)
      simp only [hasFault, BitVec.getLsbD_and, Bool.and_eq_true] at h
      exact h.1
    exact (works_of hclear).answer hroom _
  · exact moves_answer hroom _

theorem keep_keep (l : Latches) (e : BitVec 7) : (l.keep e).keep e = l.keep e := by
  simp [Latches.keep]

theorem moves_irqMask (hroom : Room s) (mask : Byte) : Moves s (irqMaskEffect mask s) := by
  unfold irqMaskEffect
  split
  · exact Works.answer (works_of (.bus (.cause
      { s.cause with enables := mask.setWidth 7, latches := s.cause.latches.keep (mask.setWidth 7) } id
      fun _ => (keep_keep _ _).symm))) hroom _
  · exact moves_answer hroom _

/-! ## Commands on the directory -/

theorem moves_slotInfo (hroom : Room s) (slot : Byte) : Moves s (slotInfoEffect slot s) := by
  unfold slotInfoEffect
  split
  · exact Works.reply .refl hroom _ (by simp [slotInfoPayload, le2, le3])
  · exact moves_answer hroom _

theorem moves_slotProtect (hroom : Room s) (count side invert : Byte) :
    Moves s (slotProtectEffect count side invert s) := by
  unfold slotProtectEffect
  split
  · exact moves_answer hroom _
  · split
    · exact (works_of (.save (.protect _))).reply hroom _ (by simp)
    · exact moves_answer hroom _

theorem moves_slotOpen (hans : answered s = true) (hroom : Room s) (slot : Byte) : Moves s (slotOpenEffect slot s) := by
  unfold slotOpenEffect
  split
  · exact moves_answer hroom _
  · split
    · exact moves_answer hroom _
    next h => exact (works_of (.save (.acceptOpen _ hans h))).answer hroom _

theorem moves_slotCommit (hans : answered s = true) (hroom : Room s) (slot : Byte) :
    Moves s (slotCommitEffect slot s) := by
  unfold slotCommitEffect
  split
  · exact moves_answer hroom _
  · simp only
    split
    · exact moves_answer hroom _
    next hopen =>
      split
      · exact moves_answer hroom _
      next hfull =>
        exact (works_of (.save (.acceptCommit _ hans (not_not.1 hopen) (by simpa using hfull)))).answer hroom _

theorem moves_slotAbandon (hans : answered s = true) (hroom : Room s) (slot : Byte) :
    Moves s (slotAbandonEffect slot s) := by
  unfold slotAbandonEffect
  split
  · exact moves_answer hroom _
  · split
    · exact moves_answer hroom _
    · exact (works_of (.save (.abandon _ hans (.inl ‹_›)))).answer hroom _
    · exact (works_of (.save (.abandon _ hans (.inr ‹_›)))).answer hroom _
    all_goals exact moves_answer hroom _

theorem moves_slotErase (hans : answered s = true) (hroom : Room s) (slot : Byte) :
    Moves s (slotEraseEffect slot s) := by
  unfold slotEraseEffect
  split
  · exact moves_answer hroom _
  · split
    · exact moves_answer hroom _
    next h => exact (works_of (.save (.acceptErase _ hans h))).answer hroom _

theorem moves_slotVerify (hans : answered s = true) (hroom : Room s) (slot : Byte) :
    Moves s (slotVerifyEffect slot s) := by
  unfold slotVerifyEffect
  split
  · exact moves_answer hroom _
  · split
    · exact moves_answer hroom _
    next h => exact (works_of (.save (.acceptVerify _ hans h))).answer hroom _

end

end Sys2Proof.Proofs
end

section
/-! SUPPORT. The commands on the calendar, the cues, the voices, the tracks and the drive as runs of moves; the fields
that they load lie in their ranges. -/

namespace Sys2Proof.Proofs

open Sys2Proof.Machine Sys2Proof.Safety Sys2Proof.Laws

/-! ## The calendar and the cues -/

theorem setTo_legal {c : Calendar} {day sec : Nat} (h : CalLegal c) (hday : day ≤ 65535) (hsec : sec ≤ 86399) :
    CalLegal (c.setTo day sec) := by
  obtain ⟨-, -, -, -, hlow, hhigh, -, -, hdown, hup⟩ := h
  exact ⟨hday, hsec, Nat.zero_le _, Nat.zero_le _, hlow, hhigh, Nat.min_le_left .., nofun, hdown, hup⟩

theorem nat2_le (a b : Byte) : nat2 a b ≤ 65535 := by
  have := a.isLt
  have := b.isLt
  unfold nat2
  omega

theorem triggerOf_legal {f : CueFields} {t : Trigger} (h : triggerOf f = some t) :
    triggerLegal t = true ∧ t ≠ .off := by
  unfold triggerOf at h
  simp only at h
  have hperiod := nat2_le f.param0 f.param1
  split at h
  · split at h <;> cases h
    simpa [triggerLegal]
  · split at h <;> cases h
    simp only [triggerLegal, Bool.and_eq_true, decide_eq_true_eq]
    exact ⟨by omega, nofun⟩
  · cases h
    exact ⟨rfl, nofun⟩
  · split at h <;> cases h
    simp only [triggerLegal, Bool.and_eq_true, decide_eq_true_eq]
    exact ⟨by omega, nofun⟩
  · nomatch h

theorem soundOf_legal {f : CueFields} {o : Option CueSound} (h : soundOf f = some o) : ∀ a ∈ o, SoundLegal a := by
  have hinc := f.increment.isLt
  have hhold := f.hold.isLt
  unfold soundOf at h
  split at h
  · nomatch h
  · cases h
    nofun
  · split at h
    next hgood =>
      cases h
      rintro a ⟨⟩
      obtain ⟨hi, hv, hh⟩ := hgood
      have hpos : f.hold.toNat ≠ 0 := fun hz => hh (BitVec.eq_of_toNat_eq hz)
      exact ⟨hi, by simp only; omega, hv, by simp only; omega, by simp only; omega⟩
    · nomatch h

theorem rumbleOf_legal {f : CueFields} {o : Option CueRumble} (h : rumbleOf f = some o) :
    ∀ a ∈ o, a.pattern ≤ 15 ∧ a.priority ≤ 3 := by
  unfold rumbleOf at h
  split at h
  · nomatch h
  · cases h
    nofun
  · split at h
    · cases h
      rintro a ⟨⟩
      assumption
    · nomatch h

theorem cueOf_legal {f : CueFields} {n : CueNo} {c : Cue} (h : cueOf f = some (n, c)) : CueLegal c := by
  unfold cueOf at h
  split at h
  next htrig _ hsound hrumble =>
    cases h
    obtain ⟨hlegal, hoff⟩ := triggerOf_legal htrig
    exact ⟨hlegal, fun _ => hoff, soundOf_legal hsound, rumbleOf_legal hrumble, Nat.zero_le _, nofun, nofun⟩
  · nomatch h

section
variable {s : State}

theorem moves_clockSet (hroom : Room s) (year : Word16) (month day hour minute second : Byte) :
    Moves s (clockSetEffect year month day hour minute second s) := by
  unfold clockSetEffect
  split
  next h =>
    obtain ⟨hdate, hh, hm, hs⟩ := h
    refine (works_of (.time (.cal _ fun hcal => setTo_legal hcal ?_ (by omega)))).answer hroom _
    simp only [validDate, Bool.and_eq_true, decide_eq_true_eq] at hdate
    exact hdate.2
  · exact moves_answer hroom _

theorem moves_clockTrim (hroom : Room s) (trim : Byte) : Moves s (clockTrimEffect trim s) := by
  unfold clockTrimEffect
  split
  · exact moves_answer hroom _
  next h =>
    refine (works_of (.time (.cal _ fun hcal => ?_))).answer hroom _
    obtain ⟨hday, hsec, hpre, hext, -, -, hrest⟩ := hcal
    exact ⟨hday, hsec, hpre, hext, by simp only; omega, by simp only; omega, hrest⟩

theorem moves_dayOf (hroom : Room s) (year : Word16) (month day : Byte) : Moves s (dayOfEffect year month day s) := by
  unfold dayOfEffect
  split
  · exact Works.reply .refl hroom _ (by simp [le2])
  · exact moves_answer hroom _

theorem moves_daysSince (hroom : Room s) (slot : Byte) : Moves s (daysSinceEffect slot s) := by
  unfold daysSinceEffect
  split
  · exact moves_answer hroom _
  · split
    · exact moves_answer hroom _
    · simp only
      split <;> exact Works.reply .refl hroom _ (by simp [le2])

theorem moves_cueSet (hroom : Room s) (f : CueFields) : Moves s (cueSetEffect f s) := by
  unfold cueSetEffect
  split
  next h => exact (works_of (.time (.cue _ _ fun _ => cueOf_legal h))).answer hroom _
  · exact moves_answer hroom _

theorem moves_cueClear (hroom : Room s) (cue : Byte) : Moves s (cueClearEffect cue s) := by
  unfold cueClearEffect
  split
  · refine (works_of (.time (.cue _ _ fun h => ?_))).answer hroom _
    obtain ⟨htrig, -, hrest⟩ := h
    exact ⟨htrig, nofun, hrest⟩
  · exact moves_answer hroom _

theorem moves_cueGet (hroom : Room s) (cue : Byte) : Moves s (cueGetEffect cue s) := by
  unfold cueGetEffect
  split
  · refine (works_of (.time (.cue _ _ fun h => ?_))).reply hroom _ ?_
    · obtain ⟨htrig, harm, hsound, hrumble, -⟩ := h
      exact ⟨htrig, harm, hsound, hrumble, Nat.zero_le _, nofun, nofun⟩
    · have htrig (u : Trigger) : (triggerBytes u).length = 5 := by cases u <;> rfl
      simp [cueGetPayload, le2, htrig]
  · exact moves_answer hroom _

/-! ## The voices -/

theorem noteOn_console_legal {n : VoiceNo} {v : Voice} {i inc vol : Nat} {snap : Snapshot} (h : VoiceLegal n v)
    (hsnap : SnapshotLegal snap) (hi : i ≤ 15) (hinc : inc ≤ 65535) (hvol : vol ≤ 15) :
    VoiceLegal n { v.noteOn i snap inc vol with owner := .console } := by
  obtain ⟨h1, h2, h3, h4, h5, h6, h7, h8, h9, h10, h11, h12, -, -, -⟩ := noteOn_legal h hsnap hi hinc hvol
  exact ⟨h1, h2, h3, h4, h5, h6, h7, h8, h9, h10, h11, h12, nofun, nofun,
    fun hidle => absurd hidle (noteOn_phase_ne_idle v i inc vol snap)⟩

theorem noteOn_cue_legal {v : Voice} {a : CueSound} {snap : Snapshot} (h : VoiceLegal 5 v)
    (hsnap : SnapshotLegal snap) (ha : SoundLegal a) :
    VoiceLegal 5 { v.noteOn a.instrument snap a.increment a.volume with owner := .cue, hold := some a.hold } := by
  obtain ⟨hi, hinc, hvol, hlow, hhigh⟩ := ha
  obtain ⟨h1, h2, h3, h4, h5, h6, h7, h8, h9, h10, h11, h12, -, -, -⟩ := noteOn_legal h hsnap hi hinc hvol
  refine ⟨h1, h2, h3, h4, h5, h6, h7, h8, h9, h10, h11, h12, fun _ => rfl, fun k hk => ?_,
    fun hidle => absurd hidle (noteOn_phase_ne_idle v a.instrument a.increment a.volume snap)⟩
  cases hk
  exact ⟨rfl, hlow, hhigh⟩

theorem moves_voicePlay (hroom : Room s) (voice instrument : Byte) (increment : Word16) (volume : Byte) :
    Moves s (voicePlayEffect voice instrument increment volume s) := by
  unfold voicePlayEffect
  split
  · exact moves_answer hroom _
  · split
    · exact moves_answer hroom _
    next hgood =>
      split
      · exact moves_answer hroom _
      · split
        · exact moves_answer hroom _
        next hnote =>
          have hinc := increment.isLt
          refine (works_startNote hnote (fun _ => rfl) fun _ hv snap hsnap => ?_).answer hroom _
          exact noteOn_console_legal hv hsnap (by omega) (by omega) (by omega)

/-- A voice's increment and volume are replaced (R112). -/
theorem legal_of_increment_volume {n : VoiceNo} {v : Voice} {inc vol : Nat} (h : VoiceLegal n v) (hinc : inc ≤ 65535)
    (hvol : vol ≤ 15) : VoiceLegal n { v with increment := inc, volume := vol } := by
  obtain ⟨hsnap, hnote, hsel, -, -, hrest⟩ := h
  exact ⟨hsnap, hnote, hsel, hinc, hvol, hrest⟩

theorem moves_voiceSet (hroom : Room s) (voice : Byte) (increment : Word16) (volume : Byte) :
    Moves s (voiceSetEffect voice increment volume s) := by
  unfold voiceSetEffect
  split
  · exact moves_answer hroom _
  next n _ =>
    split
    · exact moves_answer hroom _
    next hgood =>
      split
      · exact moves_answer hroom _
      · have hinc := increment.isLt
        have hset : Work s (setVoice n { s.voices[n] with increment := increment.toNat, volume := volume.toNat } s) :=
          .sound (.voice _ _ rfl (fun _ hv => legal_of_increment_volume hv (by omega) (by omega)) fun _ _ _ h => h)
        exact (works_of hset).answer hroom _

theorem moves_voiceRelease (hroom : Room s) (voice : Byte) : Moves s (voiceReleaseEffect voice s) := by
  unfold voiceReleaseEffect
  split
  · exact moves_answer hroom _
  · split
    · exact moves_answer hroom _
    · exact (works_releaseVoice ..).answer hroom _

theorem moves_voiceStop (hroom : Room s) (voice : Byte) : Moves s (voiceStopEffect voice s) := by
  unfold voiceStopEffect
  split
  · exact moves_answer hroom _
  · exact (works_stopVoice ..).answer hroom _

theorem moves_master (hroom : Room s) (value : Byte) : Moves s (masterEffect value s) :=
  (works_of (.sound (.master _ (Nat.min_le_right ..)))).answer hroom _

theorem moves_voiceInfo (hroom : Room s) (voice : Byte) : Moves s (voiceInfoEffect voice s) := by
  unfold voiceInfoEffect
  split
  · exact moves_answer hroom _
  · exact Works.reply .refl hroom _ (by simp [voiceInfoPayload, le2, le3])

/-! ## The tracks -/

theorem trackStartFields_started {track : Byte} {address : RomAddr} {mask source : Byte} {period : Word16} {k : TrackNo}
    {r : Track} (h : trackStartFields track address mask source period = some (k, r)) : StartedTrack r := by
  unfold trackStartFields at h
  split at h
  · split at h
    next hgood =>
      cases h
      have := period.isLt
      exact ⟨address, _, _, period.toNat, rfl, hgood.2, by omega⟩
    · nomatch h
  · nomatch h

theorem moves_trackStart (hroom : Room s) (track : Byte) (address : RomAddr) (mask source : Byte) (period : Word16) :
    Moves s (trackStartEffect track address mask source period s) := by
  unfold trackStartEffect
  split
  · exact moves_answer hroom _
  next h =>
    simp only
    split
    · exact moves_answer hroom _
    next hfree =>
      refine (works_of (.sound (.start _ _ (trackStartFields_started h) fun hact => ?_))).answer hroom _
      exact not_not.1 fun hne => hfree ⟨hact, hne⟩

theorem moves_trackStop (hroom : Room s) (track : Byte) : Moves s (trackStopEffect track s) := by
  unfold trackStopEffect
  split
  · exact moves_answer hroom _
  · split
    · exact (works_of (.sound (.stop _))).answer hroom _
    · exact moves_answer hroom _

theorem moves_trackInfo (hroom : Room s) (track : Byte) : Moves s (trackInfoEffect track s) := by
  unfold trackInfoEffect
  split
  · exact moves_answer hroom _
  · exact Works.reply .refl hroom _ (by simp [trackInfoPayload, le2, le3])

theorem works_sampleTrack (s : State) (k : TrackNo) : Works s (sampleTrack s k) := by
  unfold sampleTrack
  split
  next h => exact works_of (.sound (.count k (Bool.and_eq_true_iff.1 h).1))
  · exact .refl

theorem works_frameTrack (s : State) (k : TrackNo) : Works s (frameTrack s k) := by
  unfold frameTrack
  split
  next h => exact works_of (.sound (.count k (Bool.and_eq_true_iff.1 h).1))
  · exact .refl

theorem works_giveFrame (s : State) : Works s (giveFrame s) := Works.foldl works_frameTrack _ s

theorem moves_dueEvent {k : TrackNo} {kind : Event → Bool} {s t : State} (h : dueEvent k kind s = .next t) :
    Moves s t := by
  unfold dueEvent at h
  split at h
  next hdue =>
    cases h
    simp only [headDue, canTick, Bool.and_eq_true] at hdue
    exact moves_of (.work (.sound (.tick k hdue.1.1.1.1.2)))
  · cases h
    exact .refl

/-! ## Frame capture -/

theorem capture_legal {f : FrameCapture} (h : FrameLegal f) (p : Option Nat) (hp : ∀ d ∈ p, 137 ≤ d ∧ d ≤ 1638) :
    FrameLegal { f.capture with period := p } := by
  obtain ⟨-, -, hsynth, -⟩ := h
  refine ⟨hp, Nat.zero_le _, hsynth, nofun, fun _ => rfl, fun _ => ?_⟩
  cases p with
  | none => exact (by decide : 0 < 546)
  | some d =>
    have := hp d rfl
    simp only [FrameCapture.capture, FrameCapture.deadline]
    omega

theorem works_setFrame_giveFrame {s : State} {f : FrameCapture} (h : FrameLegal s.frame → FrameLegal f) :
    Works s (giveFrame (setFrame f s)) :=
  (works_of (.time (.frame f h))).trans (works_giveFrame _)

theorem works_strobe (s : State) : Works s (strobe s) := by
  unfold strobe
  split
  · exact works_setFrame_giveFrame fun h => capture_legal h _ h.1
  · exact works_setFrame_giveFrame fun h => capture_legal h _ h.1
  · simp only
    split
    · exact .refl
    next hlate =>
      refine works_setFrame_giveFrame fun h => capture_legal h _ ?_
      split
      · rintro d ⟨⟩
        omega
      · exact h.1

theorem works_latchFrameLost (s : State) : Works s (latchFrameLost s) := by
  have heq : latchFrameLost s = { s with cause := (latchFrameLost s).cause } := by
    unfold latchFrameLost
    split <;> rfl
  rw [heq]
  refine works_of (.bus (.cause _ (fun h => ?_) fun h => ?_))
  · rw [← heq] at h
    unfold latchFrameLost at h
    split at h <;> exact h
  · rw [← heq]
    exact of_decide_eq_true ((latchesFit_latchFrameLost s).trans (decide_eq_true h))

theorem deadline_le {f : FrameCapture} (h : FrameLegal f) : f.deadline ≤ 3276 := by
  unfold FrameCapture.deadline
  split
  next p hp =>
    have := h.1 p hp
    omega
  · decide

theorem setFrame_setFrame (f g : FrameCapture) (s : State) : setFrame g (setFrame f s) = setFrame g s := rfl

/-- The loss, with the silence count and the counter that have come to it. -/
theorem works_loseFrame {s : State} {f : FrameCapture}
    (h : FrameLegal s.frame → (∀ p ∈ f.period, 137 ≤ p ∧ p ≤ 1638) ∧ f.silence ≤ 3276 ∧ f.synth ≤ 1637) :
    Works s (loseFrame (setFrame f s)) := by
  have hlost : Work s (setFrame { f with state := .lost, synth := if f.mode = .coast then 0 else f.synth } s) := by
    refine .time (.frame _ fun hs => ?_)
    obtain ⟨hperiod, hsilence, hsynth⟩ := h hs
    refine ⟨hperiod, hsilence, ?_, nofun, nofun, nofun⟩
    simp only
    split
    · exact Nat.zero_le _
    · exact hsynth
  have hlatch := (works_of hlost).trans (works_latchFrameLost _)
  by_cases hmode : f.mode = .coast
  · simp only [hmode, if_true] at hlatch
    simpa [loseFrame, setFrame_setFrame, hmode] using hlatch.trans (works_giveFrame _)
  · simp only [hmode, if_false] at hlatch
    simpa [loseFrame, setFrame_setFrame, hmode] using hlatch

theorem works_synthesize {s : State} {f : FrameCapture} (h : FrameLegal s.frame → FrameLegal { f with synth := 0 }) :
    Works s (synthesize (setFrame f s)) := works_setFrame_giveFrame h

theorem legal_of_counted {f : FrameCapture} (h : FrameLegal f) (n : Nat) : FrameLegal (f.counted n) := h

theorem legal_of_synth {f : FrameCapture} (h : FrameLegal f) {n : Nat} (hn : n ≤ 1637) :
    FrameLegal { f with synth := n } := by
  obtain ⟨hperiod, hsilence, -, hrest⟩ := h
  exact ⟨hperiod, hsilence, hn, hrest⟩

theorem synthPeriod_le {f : FrameCapture} (h : FrameLegal f) : f.synthPeriod ≤ 1638 := by
  unfold FrameCapture.synthPeriod
  cases hp : f.period with
  | none => decide
  | some p => exact (h.1 p hp).2

/-- A silence count that goes on, below its deadline. -/
theorem legal_of_silence {f : FrameCapture} (h : FrameLegal f) {n : Nat} (hn : n < f.deadline) :
    FrameLegal { f with silence := n } := by
  have hdeadline := deadline_le h
  obtain ⟨hperiod, -, hsynth, hfirst, hpresent, -⟩ := h
  exact ⟨hperiod, by simp only; omega, hsynth, hfirst, hpresent, fun _ => hn⟩

theorem works_captureCount (s : State) : Works s (captureCount s) := by
  unfold captureCount
  simp only
  split
  · exact works_of (.time (.frame _ fun h => legal_of_counted h 1))
  · split
    next hsilent =>
      split
      · refine works_loseFrame fun h => ⟨h.1, ?_, h.2.2.1⟩
        have hbelow : s.frame.silence < s.frame.deadline := h.2.2.2.2.2 hsilent
        exact hbelow.trans_le (deadline_le h)
      next hmore =>
        exact works_of (.time (.frame _ fun h => legal_of_silence (legal_of_counted h 1) (Nat.lt_of_not_ge hmore)))
    · split
      · split
        · exact works_synthesize fun h => legal_of_synth (legal_of_counted h 1) (Nat.zero_le _)
        next hmore =>
          refine works_of (.time (.frame _ fun h => legal_of_synth (legal_of_counted h 1) ?_))
          have := synthPeriod_le (legal_of_counted h 1)
          omega
      · exact works_of (.time (.frame _ fun h => legal_of_counted h 1))

theorem moves_frameMode (hroom : Room s) (mode : Byte) : Moves s (frameModeEffect mode s) := by
  unfold frameModeEffect
  split
  · exact moves_answer hroom _
  · simp only
    refine (works_of (.time (.frame _ fun h => ?_))).reply hroom _ (by simp [frameModePayload, le2])
    obtain ⟨hperiod, hsilence, hsynth, hrest⟩ := h
    refine ⟨hperiod, hsilence, ?_, hrest⟩
    simp only
    split
    · exact Nat.zero_le _
    · exact hsynth

end

end Sys2Proof.Proofs
end

section
/-! SUPPORT. The commands on the drive, the second tick, the rows of the engine and of the supply watch as runs of moves;
then every command, every crystal edge and every step. -/

namespace Sys2Proof.Proofs

open Sys2Proof.Machine Sys2Proof.Safety Sys2Proof.Laws

/-! ## The rumble drive -/

theorem consoleRequest_fields {pattern priority allowance : Byte} {r : Request}
    (h : consoleRequest pattern priority allowance = some r) : RequestFields r := by
  unfold consoleRequest at h
  split at h
  · split at h
    next hgood =>
      cases h
      have hlt := allowance.isLt
      have hpos : allowance.toNat ≠ 0 := fun hz => hgood.2 (BitVec.eq_of_toNat_eq hz)
      exact ⟨hgood.1, by simp only; omega, by simp only; omega⟩
    · nomatch h
  · nomatch h

theorem stepOf_legal {raw : Byte × Byte} {st : Step} (h : stepOf raw = some st) : stepLegal st = true := by
  have hlt := raw.2.isLt
  unfold stepOf at h
  split at h
  · nomatch h
  next hpos =>
    have hpos : raw.2.toNat ≠ 0 := fun hz => hpos (BitVec.eq_of_toNat_eq hz)
    split at h
    · cases h
      simp only [stepLegal, Bool.and_eq_true, decide_eq_true_eq]
      omega
    · split at h
      · cases h
        simp only [stepLegal, Bool.and_eq_true, decide_eq_true_eq]
        exact ⟨by omega, trivial⟩
      · nomatch h

theorem stepsOf_legal {raws : List (Byte × Byte)} {sts : List Step} (h : stepsOf raws = some sts) :
    sts.all stepLegal = true := by
  induction raws generalizing sts with
  | nil =>
    cases h
    rfl
  | cons raw raws ih =>
    unfold stepsOf at h
    split at h
    next hst hsts =>
      cases h
      rw [List.all_cons, stepOf_legal hst, ih hsts]
      rfl
    · nomatch h

theorem patternFields_legal {pattern repeatMode : Byte} {steps : List (Byte × Byte)} {i : Fin 16} {p : Pattern}
    (h : patternFields pattern repeatMode steps = some (i, p)) : PatternLegal p ∧ p.steps ≠ [] := by
  unfold patternFields at h
  split at h
  next hsteps =>
    split at h
    · nomatch h
    next hgood =>
      cases h
      obtain ⟨hne, hlen⟩ := not_or.1 hgood
      exact ⟨⟨Nat.le_of_not_lt hlen, stepsOf_legal hsteps⟩, hne⟩
  · nomatch h

section
variable {s : State}

theorem moves_rumblePlay (hans : answered s = true) (hroom : Room s) (pattern priority allowance : Byte) :
    Moves s (rumblePlayEffect pattern priority allowance s) := by
  unfold rumblePlayEffect
  split
  · exact moves_answer hroom _
  next r h =>
    exact (works_of (.drive (.decide r hans fun _ => consoleRequest_fields h))).answer hroom _

theorem moves_rumbleStop (hans : answered s = true) (hroom : Room s) (all : Byte) :
    Moves s (rumbleStopEffect all s) := by
  unfold rumbleStopEffect
  split
  · exact moves_answer hroom _
  next everything _ =>
    split
    · exact moves_answer hroom _
    next hactive =>
      have hactive : s.rumble.active.isSome = true := by simpa [Option.isSome_iff_ne_none] using hactive
      have hstop {t : State} (h : answered t = true) (ha : t.rumble.active.isSome = true) :
          Work t (endRequest .stopped t) := .drive (.stop h ha)
      cases everything
      · exact (works_of (hstop hans hactive)).answer hroom _
      · exact Works.answer ((works_of (.drive .clearQueue)).tail
          (hstop (t := { s with rumble := { s.rumble with queue := [] } }) hans hactive)) hroom _

theorem moves_rumbleRenew (hroom : Room s) (allowance : Byte) : Moves s (rumbleRenewEffect allowance s) := by
  unfold rumbleRenewEffect
  split
  · exact moves_answer hroom _
  next hpos =>
    split
    · exact moves_answer hroom _
    next a ha =>
      split
      · exact moves_answer hroom _
      · have hlt := allowance.isLt
        have hpos : allowance.toNat ≠ 0 := fun hz => hpos (BitVec.eq_of_toNat_eq hz)
        exact (works_of (.drive (.renew a _ ha (by omega)))).answer hroom _

theorem moves_patternLoad (hroom : Room s) (pattern repeatMode : Byte) (steps : List (Byte × Byte)) :
    Moves s (patternLoadEffect pattern repeatMode steps s) := by
  unfold patternLoadEffect
  split
  · exact moves_answer hroom _
  next h =>
    split
    · exact moves_answer hroom _
    next hfree =>
      obtain ⟨hlegal, hne⟩ := patternFields_legal h
      exact (works_of (.drive (.pattern _ _ (by simpa using hfree) hlegal hne))).answer hroom _

/-! ## The second tick -/

theorem chosenSound_mem {l : List CueNo} {a : CueSound} (h : chosenSound s l = some a) :
    ∃ n : CueNo, s.cues[n].sound = some a := by
  induction l with
  | nil => nomatch h
  | cons n l ih =>
    unfold chosenSound at h
    split at h
    next b hb =>
      cases h
      exact ⟨n, hb⟩
    · exact ih h

theorem works_cueNote {a : CueSound} {n : CueNo} (h : s.cues[n].sound = some a) : Works s (cueNote a s) := by
  unfold cueNote
  cases hnote : startNote 5 a.instrument a.increment a.volume
    (fun v => { v with owner := .cue, hold := some a.hold }) s with
  | none => exact .refl
  | some t =>
    refine works_startNote hnote (fun _ => rfl) fun hcues hv snap hsnap => ?_
    exact noteOn_cue_legal hv hsnap ((hcues n).2.2.1 a h)

theorem outsideSound_cueNote (a : CueSound) (s : State) : outsideSound (cueNote a s) = outsideSound s := by
  unfold cueNote
  cases hnote : startNote 5 a.instrument a.increment a.volume
    (fun v => { v with owner := .cue, hold := some a.hold }) s with
  | none => rfl
  | some t => exact outsideSound_startNote hnote

theorem works_submitCue {a : CueRumble} {n : CueNo} (hans : answered s = true) (h : s.cues[n].rumble = some a) :
    Works s (submitCue a s) := by
  unfold submitCue
  split
  · refine works_of (.drive (.decide _ hans fun hcues => ?_))
    obtain ⟨-, hpriority⟩ := (hcues n).2.2.2.1 a h
    exact ⟨hpriority, (by decide : 1 ≤ 64), (by decide : 64 ≤ 255)⟩
  · exact .refl

/-- The firing cues' requests are made from the records that stand at the tick. -/
theorem works_submitRumbles {t : State} (l : List CueNo) (hans : answered t = true) (hcues : t.cues = s.cues) :
    Works t (l.foldl (fun u n => match s.cues[n].rumble with
      | some a => submitCue a u
      | none => u) t) := by
  induction l generalizing t with
  | nil => exact .refl
  | cons n l ih =>
    rw [List.foldl_cons]
    split
    next a ha =>
      have hsubmit : Works t (submitCue a t) := works_submitCue (n := n) hans (by rw [hcues]; exact ha)
      have hsame : (submitCue a t).cues = t.cues :=
        congrArg (fun u : State × Bool => u.1.cues) (outsideDrive_submitCue a t)
      exact hsubmit.trans (ih (hsubmit.answered_eq.trans hans) (hsame.trans hcues))
    · exact ih hans hcues

theorem works_deliverActions (l : List CueNo) : Works s (deliverActions l s) := by
  unfold deliverActions
  split
  next hans =>
    simp only
    split
    next a ha =>
      obtain ⟨n, hn⟩ := chosenSound_mem ha
      have hnote := works_cueNote hn
      have hsame : (cueNote a s).cues = s.cues :=
        congrArg (fun u : State × Bool => u.1.cues) (outsideSound_cueNote a s)
      unfold submitRumbles
      rw [hsame]
      exact hnote.trans (works_submitRumbles l (hnote.answered_eq.trans hans) hsame)
    · exact works_submitRumbles l hans rfl
  · exact .refl

theorem works_evaluateCues (m : TickMoment) : Works s (evaluateCues m s) :=
  (works_of (.time (.evaluate m))).trans (works_deliverActions _)

theorem restart_legal {c : Calendar} (h : CalLegal c) : CalLegal c.restart := by
  obtain ⟨hday, hsec, -, -, hrest⟩ := h
  exact ⟨hday, hsec, Nat.zero_le _, Nat.zero_le _, hrest⟩

theorem advance_legal {c : Calendar} (h : CalLegal c) (hhold : c.atHold = false) (hend : c.atEnd = false) :
    CalLegal c.advance := by
  obtain ⟨hday, hsec, hpre, hext, hlow, hhigh, hset, -, hdown, hup⟩ := h
  unfold Calendar.advance
  split
  next hmore => exact ⟨hday, Nat.succ_le_of_lt hmore, hpre, hext, hlow, hhigh, hset, by simp [hend], hdown, hup⟩
  next hlast =>
    have hne : c.day ≠ 65535 := by
      intro hd
      have hs : c.sec = 86399 := by omega
      simp [Calendar.atHold, hd, hs] at hhold
    exact ⟨by simp only; omega, Nat.zero_le _, hpre, hext, hlow, hhigh, hset, by simp [hend], hdown, hup⟩

theorem works_secondTick (s : State) : Works s (secondTick s) := by
  unfold secondTick
  simp only
  split
  next hhold =>
    refine works_of (.time (.cal _ fun h => ?_))
    obtain ⟨hday, hsec, hpre, hext, hlow, hhigh, hset, -, hstamps⟩ := restart_legal h
    simp only [Calendar.atHold, Bool.and_eq_true, beq_iff_eq] at hhold
    exact ⟨hday, hsec, hpre, hext, hlow, hhigh, hset, fun _ => hhold, hstamps⟩
  · split
    · exact works_of (.time (.cal _ restart_legal))
    next hhold hend =>
      refine (works_of (.time (.cal _ fun h => ?_))).trans (works_evaluateCues _)
      exact advance_legal (restart_legal h) (by simpa using hhold) (by simpa using hend)

/-! ## Ticks -/

theorem works_rumbleTick (hpow : powered s = true) : Works s (rumbleTick s) :=
  (works_of (.drive (.tick hpow))).trans (works_holdTick _)

theorem powered_of_ticking (h : ticking s = true) : powered s = true := (Bool.and_eq_true_iff.1 h).1

/-- A row that is the rumble tick at which something ends. -/
theorem moves_rumbleTick_if {t : State} {b : Bool}
    (h : (if ticking s && b then .next (rumbleTick s) else .next s : Host.Outcome State Fault Refusal) = .next t) :
    Moves s t := by
  split at h
  next hb =>
    cases h
    exact (works_rumbleTick (powered_of_ticking (Bool.and_eq_true_iff.1 hb).1)).moves
  · cases h
    exact .refl

/-! ## The rows of the save engine -/

theorem moves_engineStart {t : State} (h : execEngineStart s = .next t) : Moves s t := by
  unfold execEngineStart at h
  split at h
  next hidle =>
    split at h
    next hq =>
      cases h
      exact moves_of (.work (.save (.start _ _ hidle hq)))
    · cases h
      exact .refl
  · cases h
    exact .refl

theorem moves_engineByteAccess {t : State} (h : execEngineByteAccess s = .next t) : Moves s t := by
  unfold execEngineByteAccess at h
  split at h
  next f hf =>
    split at h
    next hgo =>
      cases h
      simp only [Bool.and_eq_true, decide_eq_true_eq] at hgo
      exact moves_of (.work (.save (.access f hf hgo.1 hgo.2)))
    · cases h
      exact .refl
  · cases h
    exact .refl

theorem moves_openEnd {t : State} (h : execOpenEnd s = .next t) : Moves s t := by
  unfold execOpenEnd at h
  split at h
  next f hf =>
    split at h
    next hgo =>
      cases h
      simp only [Bool.and_eq_true, beq_iff_eq] at hgo
      exact moves_of (.work (.save (.openEnd f hf hgo.1.1 hgo.1.2 hgo.2)))
    · cases h
      exact .refl
  · cases h
    exact .refl

theorem moves_eraseFlip {t : State} (h : execEraseFlip s = .next t) : Moves s t := by
  unfold execEraseFlip at h
  split at h
  next f hf =>
    split at h
    next hgo =>
      cases h
      simp only [Bool.and_eq_true] at hgo
      exact moves_of (.work (.save (.eraseEnd f hf hgo.1 hgo.2)))
    · cases h
      exact .refl
  · cases h
    exact .refl

theorem moves_verifyEnd {t : State} (h : execVerifyEnd s = .next t) : Moves s t := by
  unfold execVerifyEnd at h
  split at h
  next f hf =>
    split at h
    next hgo =>
      cases h
      simp only [Bool.and_eq_true, beq_iff_eq, Bool.not_eq_true'] at hgo
      exact moves_of (.work (.save (.verifyEnd f hf hgo.1.1.1 hgo.1.1.2 hgo.1.2 hgo.2)))
    · cases h
      exact .refl
  · cases h
    exact .refl

theorem moves_sweepStep {t : State} (h : execSweepStep s = .next t) : Moves s t := by
  unfold execSweepStep at h
  split at h
  · split at h
    next hdue =>
      simp only at h
      split at h
      next hscan =>
        cases h
        exact moves_of (.work (.save (.scan _ rfl hdue hscan)))
      · cases h
        exact moves_of (.work (.save (.pass hdue)))
    · cases h
      exact .refl
  · cases h
    exact .refl

theorem moves_sweepScanEnd {t : State} (h : execSweepScanEnd s = .next t) : Moves s t := by
  unfold execSweepScanEnd at h
  split at h
  next f hf =>
    split at h
    next hgo =>
      cases h
      simp only [Bool.and_eq_true] at hgo
      exact moves_of (.work (.save (.sweepEnd f hf hgo.1.1.1 (by simpa using hgo.1.1.2) hgo.1.2 hgo.2)))
    · cases h
      exact .refl
  · cases h
    exact .refl

/-! ## The ROM port -/

theorem moves_romArbitration {t : State} (h : execRomArbitration s = .next t) : Moves s t := by
  unfold execRomArbitration at h
  split at h
  next hidle =>
    split at h
    next hnext =>
      cases h
      simp only [portIdle, Bool.and_eq_true, Option.isNone_iff_eq_none] at hidle
      exact moves_of (.work (.sound (.arbitrate _ hidle.2 hnext)))
    · cases h
      exact .refl
  · cases h
    exact .refl

theorem moves_romByteRead {t : State} (h : execRomByteRead s = .next t) : Moves s t := by
  unfold execRomByteRead at h
  split at h
  · split at h
    next g hg =>
      split at h
      next n hn =>
        cases h
        exact moves_of (.work (.sound (.deliverVoice g n hg hn)))
      next k hk =>
        cases h
        exact moves_of (.work (.sound (.deliverTrack g k hg hk)))
    · cases h
      exact .refl
  · cases h
    exact .refl

/-! ## The rows of frame capture -/

theorem moves_frameLost {t : State} (h : execFrameLost s = .next t) : Moves s t := by
  unfold execFrameLost at h
  split at h
  · cases h
    refine Works.moves (works_loseFrame (f := { s.frame.counted (s.frame.deadline - s.frame.silence) with
      silence := s.frame.deadline }) fun hf => ⟨hf.1, deadline_le hf, hf.2.2.1⟩)
  · cases h
    exact .refl

theorem moves_syntheticFrame {t : State} (h : execSyntheticFrame s = .next t) : Moves s t := by
  unfold execSyntheticFrame at h
  split at h
  · cases h
    exact (works_synthesize fun hf => legal_of_synth (legal_of_counted hf _) (Nat.zero_le _)).moves
  · cases h
    exact .refl

/-! ## The rows of the supply watch -/

theorem moves_softReset (hans : answered s = true) : Moves s (softResetEffect s) := by
  refine .tail (moves_of (.softReset hans)) (.commands _ id fun _ => ?_)
  simp [length_frame, CommandUnit.initial]

theorem moves_resetLine {t : State} (h : execResetLine s = .next t) : Moves s t := by
  unfold execResetLine at h
  simp only at h
  split at h
  next hans =>
    cases h
    exact moves_of (.resetLine (powered_of_answered hans))
  next hans =>
    cases h
    exact moves_of (.assertReset (by simpa using hans))

theorem moves_crstRelease {t : State} {straps : Straps} (h : execCrstRelease straps s = .next t) : Moves s t := by
  unfold execCrstRelease at h
  simp only at h
  split at h
  next hheld =>
    cases h
    obtain ⟨hpow, hcrst⟩ := Bool.and_eq_true_iff.1 hheld
    exact moves_of (.release straps hpow hcrst)
  next hheld =>
    cases h
    exact moves_of (.dropReset (by simpa [Bool.and_eq_true_iff, ← Bool.not_eq_true, imp_iff_not_or] using hheld))

theorem moves_vconRise {t : State} (h : execVconRise s = .next t) : Moves s t := by
  unfold execVconRise at h
  split at h
  next hbat =>
    cases h
    split
    next hvalid => exact moves_of (.enterStarting hbat hvalid)
    next hinvalid => exact (moves_of (.attach (by simpa using hinvalid))).tail (.enterStarting rfl rfl)
  · cases h
    exact .refl

theorem powerUp_supply (straps : Straps) (s : State) : (powerUp straps s).supply = s.supply.running := by
  simp [powerUp, flagSupply, enginePowerUp, rebuildPool, mapSlots, loadProfile, powerUpBlocks, resetSound]

theorem moves_consolePowerUp {t : State} {straps : Straps} (h : execConsolePowerUp straps s = .next t) :
    Moves s t := by
  unfold execConsolePowerUp at h
  split at h
  next hstart =>
    have hup : Moves s (powerUp straps s) := moves_of (.powerUp straps hstart)
    cases h
    split
    next hcrst =>
      have hsame : changeSupply (fun u => { u with crst := true }) (powerUp straps s) = powerUp straps s := by
        have : (powerUp straps s).supply.crst = true := by rw [powerUp_supply]; exact hcrst
        generalize powerUp straps s = u at this
        simp [changeSupply, ← this]
      have hreset := Move.resetLine (s := powerUp straps s) (by simp [powered, powerUp_supply, Supply.running])
      rw [hsame] at hreset
      exact hup.tail hreset
    · exact hup
  · cases h
    exact .refl

theorem endKick_unheld (s : State) : unheld (endKick s).supply = unheld s.supply :=
  congrArg State.supply (outsideGrant_endKick s)

theorem moves_collapse (s : State) : Moves s (collapse s) := by
  unfold collapse
  split
  · exact .refl
  next h => exact moves_of (.abortStart h)
  next h =>
    have hwarn : (enterWarn s).supply.monitor = .warn :=
      congrArg (fun u => u.monitor) (endKick_unheld (beginSpell (setMonitor .warn s)))
    exact (moves_of (.enterWarn h)).tail (.fail hwarn)
  next h => exact moves_of (.fail h)

theorem collapse_battery (s : State) : (collapse s).supply.monitor = .battery := by
  unfold collapse
  split
  · assumption
  all_goals rfl

theorem moves_changeSupply_watch (low sense : Bool) (filter : Nat) (s : State) :
    Moves s (changeSupply (fun u => { u with vbatLow := low, batlowFilter := filter, batlowSense := sense }) s) :=
  moves_of (.watch low sense filter)

theorem doubt_legal {c : Calendar} (h : CalLegal c) : CalLegal { c with doubt := true } := h

theorem moves_batlowSenseSet {t : State} (h : execBatlowSenseSet s = .next t) : Moves s t := by
  unfold execBatlowSenseSet at h
  split at h
  · cases h
    refine .trans (moves_changeSupply_watch s.supply.vbatLow true 2 s) ?_
    unfold senseEffect
    split
    · exact moves_of (.work (.time (.cal _ doubt_legal)))
    · exact .refl
    · exact moves_of (.work (work_setFault (by decide) _))
    · exact moves_of (.work (work_setFault (by decide) _))
  · cases h
    exact .refl

end

/-! ## Every command -/

/-- An ascending list of numbers below n has at most n members. -/
theorem length_le_of_pairwise {l : List Nat} {n : Nat} (h : l.Pairwise (fun a b => a < b)) (hn : ∀ b ∈ l, b < n) :
    l.length ≤ n := by
  have hsub : l ⊆ List.range n := fun b hb => List.mem_range.2 (hn b hb)
  have hnodup : l.Nodup := h.imp fun hlt => Nat.ne_of_lt hlt
  simpa using (hnodup.subperm hsub).length_le

theorem length_pool_le {s : State} (h : BoundsKept s) : s.dir.pool.length ≤ 16 := by
  obtain ⟨⟨-, hblocks⟩, ⟨hsorted, hbelow⟩, -⟩ := h
  have := length_le_of_pairwise hsorted hbelow
  omega

theorem length_rumbleInfoPayload (s : State) :
    (rumbleInfoPayload s).length = 17 + 3 * s.rumble.queue.length := by
  have hactive : (activePayload s).length = 9 := by
    unfold activePayload
    split <;> rfl
  have hqueue (l : List Request) : (l.flatMap queuedPayload).length = 3 * l.length := by
    induction l with
    | nil => rfl
    | cons r l ih =>
      simp only [List.flatMap_cons, List.length_append, ih, List.length_cons]
      simp [queuedPayload]
      omega
  simp [rumbleInfoPayload, hactive, hqueue, le2]
  omega

theorem moves_ticking {s t : State} {f : State → State} (hf : powered s = true → Moves s (f s))
    (h : (if ticking s then .next (f s) else .next s : Host.Outcome State Fault Refusal) = .next t) : Moves s t := by
  split at h
  next htick =>
    cases h
    exact hf (powered_of_ticking htick)
  · cases h
    exact .refl

/-- Every command is a run of moves. -/
theorem exec_moves {c : Instr} {s t : State} (h : exec c s = .next t) : Moves s t := by
  cases c with
  | consoleRead a =>
    cases h
    exact moves_readAs fun _ => moves_resolveRead ..
  | consoleWrite a b =>
    cases h
    exact moves_writeAs fun hans => moves_resolveWrite hans ..
  | cmdWrite b =>
    cases h
    exact moves_writeAs fun _ => moves_pushCommandByte ..
  | replyRead =>
    cases h
    exact moves_readAs fun _ => moves_popReply s
  | statusRead =>
    cases h
    exact moves_readAs fun _ => moves_readStatus s
  | sync b =>
    cases h
    exact moves_writeAs fun _ => moves_syncCommands s
  | causeRead =>
    cases h
    exact moves_readAs fun _ => moves_readCause s
  | apertureIgnoredWrite off b =>
    simp only [exec, execApertureIgnoredWrite] at h
    split at h <;> cases h
    · exact moves_writeAs fun _ => .refl
    · exact .refl
  | messageRefused msg => exact moves_messageRefused h
  | mapSet => exact moves_command h fun _ _ hroom => moves_mapSet hroom ..
  | mapGet => exact moves_command h fun _ _ hroom => moves_mapGet hroom ..
  | profile => exact moves_command h fun _ _ hroom => Works.reply .refl hroom _ (by simp [profilePayload])
  | faults =>
    refine moves_command h fun u _ hroom => Works.reply .refl hroom _ ?_
    unfold faultsPayload
    split <;> simp [le2]
  | faultClear => exact moves_command h fun _ _ hroom => moves_faultClear hroom ..
  | irqMask => exact moves_command h fun _ _ hroom => moves_irqMask hroom ..
  | softReset => exact moves_command h fun _ hans _ => moves_softReset hans
  | slotInfo => exact moves_command h fun _ _ hroom => moves_slotInfo hroom ..
  | slotOpen => exact moves_command h fun _ hans hroom => moves_slotOpen hans hroom ..
  | slotCommit => exact moves_command h fun _ hans hroom => moves_slotCommit hans hroom ..
  | slotAbandon => exact moves_command h fun _ hans hroom => moves_slotAbandon hans hroom ..
  | slotErase => exact moves_command h fun _ hans hroom => moves_slotErase hans hroom ..
  | slotVerify => exact moves_command h fun _ hans hroom => moves_slotVerify hans hroom ..
  | slotProtect => exact moves_command h fun _ _ hroom => moves_slotProtect hroom ..
  | poolInfo =>
    refine moves_command h fun u _ hroom => Works.reply_of_bounds .refl hroom _ fun hbounds => ?_
    have := length_pool_le hbounds
    simp only [poolInfoPayload, List.length_append, List.length_cons, List.length_nil, List.length_map]
    omega
  | engineStart => exact moves_engineStart h
  | engineByteAccess => exact moves_engineByteAccess h
  | openEnd => exact moves_openEnd h
  | eraseFlip => exact moves_eraseFlip h
  | verifyEnd => exact moves_verifyEnd h
  | sweepStep => exact moves_sweepStep h
  | sweepScanEnd => exact moves_sweepScanEnd h
  | clockGet => exact moves_command h fun _ _ hroom => Works.reply .refl hroom _ (by simp [clockGetPayload, le2, le3])
  | clockSet => exact moves_command h fun _ _ hroom => moves_clockSet hroom ..
  | clockTrim => exact moves_command h fun _ _ hroom => moves_clockTrim hroom ..
  | dateOf => exact moves_command h fun _ _ hroom => Works.reply .refl hroom _ (by simp [datePayload, le2])
  | dayOf => exact moves_command h fun _ _ hroom => moves_dayOf hroom ..
  | daysSince => exact moves_command h fun _ _ hroom => moves_daysSince hroom ..
  | absence =>
    exact moves_command h fun _ _ hroom => Works.reply .refl hroom _ (by simp [absencePayload, stampBytes, le2, le3])
  | secondTick =>
    simp only [exec, execSecondTick] at h
    split at h <;> cases h
    · exact (works_secondTick s).moves
    · exact .refl
  | oscillatorStop =>
    have hstop : Work s { s with crystal := { s.crystal with running := false } } := .time (.crystal _ id)
    simp only [exec, execOscillatorStop] at h
    split at h <;> cases h
    · exact Works.moves ((works_of hstop).tail (.time (.cal _ doubt_legal)))
    · exact (works_of hstop).moves
  | cueSet => exact moves_command h fun _ _ hroom => moves_cueSet hroom ..
  | cueClear => exact moves_command h fun _ _ hroom => moves_cueClear hroom ..
  | cueGet => exact moves_command h fun _ _ hroom => moves_cueGet hroom ..
  | voicePlay => exact moves_command h fun _ _ hroom => moves_voicePlay hroom ..
  | voiceSet => exact moves_command h fun _ _ hroom => moves_voiceSet hroom ..
  | voiceRelease => exact moves_command h fun _ _ hroom => moves_voiceRelease hroom ..
  | voiceStop => exact moves_command h fun _ _ hroom => moves_voiceStop hroom ..
  | master => exact moves_command h fun _ _ hroom => moves_master hroom ..
  | voiceInfo => exact moves_command h fun _ _ hroom => moves_voiceInfo hroom ..
  | sampleClock =>
    exact moves_ticking (f := fun u => allTracks.foldl sampleTrack (sampleVoices u))
      (fun hpow => Works.moves ((works_sampleVoices hpow).trans (Works.foldl works_sampleTrack allTracks _))) h
  | envelopeTick => exact moves_ticking (fun _ => (works_envelopeAll s).moves) h
  | cueHoldExpiry => exact moves_rumbleTick_if h
  | romArbitration => exact moves_romArbitration h
  | romByteRead => exact moves_romByteRead h
  | trackStart => exact moves_command h fun _ _ hroom => moves_trackStart hroom ..
  | trackStop => exact moves_command h fun _ _ hroom => moves_trackStop hroom ..
  | trackInfo => exact moves_command h fun _ _ hroom => moves_trackInfo hroom ..
  | trackTick k =>
    simp only [exec, execTrackTick] at h
    split at h
    next hcan =>
      cases h
      simp only [canTick, Bool.and_eq_true] at hcan
      exact moves_of (.work (.sound (.tick k hcan.1.2)))
    · cases h
      exact .refl
  | noteEvent k | offEvent k | instrEvent k | volEvent k | pitchEvent k | tempoEvent k | loopEvent k | backEvent k
  | markerEvent k | endEvent k | unknownEvent k => exact moves_dueEvent h
  | frmStrobe =>
    simp only [exec, execFrmStrobe] at h
    split at h <;> cases h
    · exact (works_strobe s).moves
    · exact .refl
  | frameLost => exact moves_frameLost h
  | syntheticFrame => exact moves_syntheticFrame h
  | frameMode => exact moves_command h fun _ _ hroom => moves_frameMode hroom ..
  | rumblePlay => exact moves_command h fun _ hans hroom => moves_rumblePlay hans hroom ..
  | rumbleStop => exact moves_command h fun _ hans hroom => moves_rumbleStop hans hroom ..
  | rumbleRenew => exact moves_command h fun _ _ hroom => moves_rumbleRenew hroom ..
  | patternLoad =>
    simp only [exec, execPatternLoad] at h
    split at h
    · exact moves_command h fun _ _ hroom => moves_patternLoad hroom ..
    · cases h
      exact .refl
  | rumbleInfo =>
    refine moves_command h fun u _ hroom => Works.reply_of_bounds .refl hroom _ fun hbounds => ?_
    obtain ⟨-, -, -, -, -, -, -, hqueue⟩ := hbounds
    rw [length_rumbleInfoPayload]
    omega
  | rumbleTick => exact moves_ticking (fun hpow => (works_rumbleTick hpow).moves) h
  | allowanceExpiry | stepExpiry | kickEnd => exact moves_rumbleTick_if h
  | stallInput b =>
    cases h
    exact moves_of (.work (.drive (.stallInput b)))
  | stallLatch =>
    simp only [exec, execStallLatch] at h
    split at h
    next hruns =>
      cases h
      exact moves_of (.work (.drive (.latchStall (Bool.and_eq_true_iff.1 hruns).1)))
    · cases h
      exact .refl
  | batteryAttach =>
    simp only [exec, execBatteryAttach] at h
    split at h
    · cases h
      exact .refl
    next hinvalid =>
      cases h
      exact moves_of (.attach (by simpa using hinvalid))
  | batteryDomainInvalid =>
    cases h
    exact (moves_collapse s).tail (.loseDomain (collapse_battery s))
  | vconRise => exact moves_vconRise h
  | startingAbort =>
    simp only [exec, execStartingAbort] at h
    split at h
    next hstart =>
      cases h
      exact moves_of (.abortStart hstart)
    · cases h
      exact .refl
  | consolePowerUp => exact moves_consolePowerUp h
  | warnEntry =>
    simp only [exec, execWarnEntry] at h
    split at h
    next hrun =>
      cases h
      exact moves_of (.enterWarn hrun)
    · cases h
      exact .refl
  | warnExit =>
    simp only [exec, execWarnExit] at h
    split at h
    next hwarn =>
      cases h
      exact moves_of (.exitWarn hwarn)
    · cases h
      exact .refl
  | fail =>
    cases h
    exact moves_collapse s
  | resetLine => exact moves_resetLine h
  | crstRelease => exact moves_crstRelease h
  | batlowSenseSet => exact moves_batlowSenseSet h
  | batlowSenseClear =>
    cases h
    exact moves_changeSupply_watch ..
  | vbatLow =>
    cases h
    exact moves_changeSupply_watch true s.supply.batlowSense s.supply.batlowFilter s
  | crystalEdgesReturn =>
    cases h
    exact moves_of (.work (.time (.crystal _ id)))
  | motorPwmSlot => exact moves_ticking (fun hpow => moves_of (.work (.drive (.pwm hpow)))) h

/-! ## Every step -/

theorem act_works {k : Tick} {s : State} (hpow : k ≠ .second → powered s = true) : Works s (k.act s) := by
  cases k with
  | second => exact works_secondTick s
  | voices => exact works_sampleVoices (hpow nofun)
  | track n => exact works_sampleTrack s n
  | pwm => exact works_of (.drive (.pwm (hpow nofun)))
  | capture => exact works_captureCount s
  | envelope => exact works_envelopeAll s
  | rumble => exact works_rumbleTick (hpow nofun)

theorem acts_works (l : List Tick) {s : State} (hpow : ∀ k ∈ l, k ≠ .second → powered s = true) :
    Works s (l.foldl (fun t k => k.act t) s) := by
  induction l generalizing s with
  | nil => exact .refl
  | cons k l ih =>
    have hact : Works s (k.act s) := act_works (hpow k List.mem_cons_self)
    refine hact.trans (ih fun j hj hne => ?_)
    exact hact.powered_eq.trans (hpow j (List.mem_cons_of_mem _ hj) hne)

theorem countEdge_legal {s : State} (h : CalLegal s.cal) (hgo : s.cal.endsSecond = false) : CalLegal s.cal.countEdge := by
  obtain ⟨hday, hsec, hpre, hext, hlow, hhigh, hrest⟩ := h
  unfold Calendar.countEdge
  split
  next hfull =>
    have hext : s.cal.extension < 64 := by
      unfold Calendar.endsSecond at hgo
      split at hgo
      · simp at hgo
        omega
      · split at hgo <;> simp at hgo <;> omega
    exact ⟨hday, hsec, hpre, hext, hlow, hhigh, hrest⟩
  · exact ⟨hday, hsec, by simp only; omega, hext, hlow, hhigh, hrest⟩

theorem works_calendarEdge (s : State) : Works s (calendarEdge s) := by
  unfold calendarEdge
  split
  next hgo =>
    simp only [Bool.and_eq_true, Bool.not_eq_true'] at hgo
    exact works_of (.time (.cal _ fun h => countEdge_legal h hgo.2))
  · exact .refl

theorem works_dividerEdge (s : State) : Works s (dividerEdge s) := by
  unfold dividerEdge
  split
  · exact works_of (.time (.crystal _ fun _ => Nat.mod_lt _ (by decide)))
  · exact .refl

/-- A crystal edge is the parts' work, after the free value's index is counted. -/
theorem works_crystalEdge (s : State) : Works { s with freeIndex := s.freeIndex + 1 } (crystalEdge s) := by
  have hedge := (works_calendarEdge { s with freeIndex := s.freeIndex + 1 }).trans (works_dividerEdge _)
  refine hedge.trans (acts_works _ fun k hk hne => ?_)
  refine (Works.powered_eq hedge).trans ?_
  have hk := (rearrange_perm _ _).mem_iff.1 hk
  simp only [edgeTicks, List.mem_append] at hk
  rcases hk with hk | hk
  · split at hk
    · exact absurd (List.mem_singleton.1 hk) hne
    · nomatch hk
  · split at hk
    · assumption
    · nomatch hk

/-- What a step is: the queue of commands and the index of the free value aside, a run of moves. -/
theorem step_moves {s t : State} (h : step s = .next t) :
    ∃ p i, Moves { s with pending := p, freeIndex := i } t := by
  unfold step at h
  split at h
  next c rest _ => exact ⟨rest, s.freeIndex, exec_moves h⟩
  · unfold idle at h
    split at h
    · exact ⟨s.pending, s.freeIndex, exec_moves h⟩
    · cases h
      split
      · exact ⟨s.pending, s.freeIndex + 1, (works_crystalEdge s).moves⟩
      · exact ⟨s.pending, s.freeIndex, .refl⟩

/-- A property of the state, whatever commands wait, that every move keeps is one that every step keeps. -/
theorem step_keeps {P : State → Prop} (haside : ∀ s p i, P s → P { s with pending := p, freeIndex := i })
    (hmove : ∀ s t, Move s t → P s → P t) {s t : State} (hs : P s) (h : step s = .next t) : P t := by
  obtain ⟨p, i, hrun⟩ := step_moves h
  clear h
  induction hrun with
  | refl => exact haside s p i hs
  | tail _ hlast ih => exact hmove _ _ hlast ih

end Sys2Proof.Proofs
end

section
/-! SUPPORT. The surge grant's rule (R59, R146, R161): who holds the grant and who waits for it come in three modes, and
every operation on the grant and the kick leads from one of them to one of them. -/

namespace Sys2Proof.Proofs

open Sys2Proof.Machine Sys2Proof.Safety Sys2Proof.Laws

/-! ## The modes of the grant -/

/-- No kick of the active request is in progress or waits. -/
def Still (s : State) : Prop := ∀ a ∈ s.rumble.active, a.kick = .none

/-- Who holds the surge grant, and who waits for it. -/
inductive GrantMode (s : State) : Prop
  | free (hholder : s.supply.holder = .none) (hengine : s.supply.engineReq = false)
      (hkicker : s.supply.kickerReq = false) (hwaits : engineWaits s = false) (hdraws : engineDraws s = false)
      (hstill : Still s)
  | engine (hholder : s.supply.holder = .engine) (hengine : s.supply.engineReq = false) (hdraws : engineDraws s = true)
      (hpow : powered s = true)
      (hkick : s.supply.kickerReq = false ∧ Still s ∨
        s.supply.kickerReq = true ∧ kickWaits s = true ∧ s.supply.monitor = .run)
  | kicker (hholder : s.supply.holder = .kicker) (hkicks : kicks s = true) (hrun : s.supply.monitor = .run)
      (hkicker : s.supply.kickerReq = false) (hdraws : engineDraws s = false)
      (hengine : s.supply.engineReq = engineWaits s)

theorem still_iff {s : State} : Still s ↔ kickFits s = true ∧ kicks s = false ∧ kickWaits s = false := by
  unfold Still kickFits kicks kickWaits
  cases s.rumble.active with
  | none => simp
  | some a => cases hk : a.kick <;> simp [hk]

theorem kickWaits_still {s : State} (h : kickWaits s = true) : kicks s = false ∧ kickFits s = true := by
  unfold kickWaits at h
  unfold kickFits kicks
  cases ha : s.rumble.active with
  | none => simp [ha] at h
  | some a => simp_all

theorem kicks_fits {s : State} (h : kicks s = true) : kickWaits s = false ∧ kickFits s = true := by
  unfold kicks at h
  unfold kickWaits kickFits
  cases ha : s.rumble.active with
  | none => simp [ha] at h
  | some a => cases hk : a.kick <;> simp_all

theorem engineWaits_draws {s : State} (h : engineDraws s = true) : engineWaits s = false := by
  unfold engineDraws at h
  unfold engineWaits
  cases hf : s.engine.flight with
  | none => simp [hf] at h
  | some f => cases hk : f.stage <;> simp_all

/-- The grant's rule is that it stands in one of its modes. -/
theorem grantKept_iff {s : State} : GrantKept s ↔ stageFits s = true ∧ DomainFits s ∧ GrantMode s := by
  constructor
  · rintro ⟨hstage, hfits, hdomain, hkicker, hengine, hereq, hkreq, hpow, hrun, hkrun, hebehind, hkbehind⟩
    refine ⟨hstage, hdomain, ?_⟩
    cases hh : s.supply.holder with
    | none =>
      have hk : s.supply.kickerReq = false := by simpa [hh] using hkbehind
      have he : s.supply.engineReq = false := by simpa [hh] using hebehind
      refine .free hh he hk (by simpa [he] using hereq) (by simpa [hh] using hengine) (still_iff.2 ⟨hfits, ?_, ?_⟩)
      · simpa [hh] using hkicker
      · simpa [hk] using hkreq
    | engine =>
      have he : s.supply.engineReq = false := by simpa [hh] using hebehind
      refine .engine hh he (hengine.1 hh) (hpow (by simp [hh])) ?_
      cases hk : s.supply.kickerReq with
      | false => exact .inl ⟨rfl, still_iff.2 ⟨hfits, by simpa [hh] using hkicker, by simpa [hk] using hkreq⟩⟩
      | true => exact .inr ⟨rfl, hkreq.1 hk, hkrun hk⟩
    | kicker =>
      have hk : s.supply.kickerReq = false := by simpa [hh] using hkbehind
      exact .kicker hh (hkicker.1 hh) (hrun hh) hk (by simpa [hh] using hengine) (Bool.eq_iff_iff.2 hereq)
  · rintro ⟨hstage, hdomain, hmode⟩
    unfold GrantKept
    cases hmode with
    | free hholder hengine hkicker hwaits hdraws hstill =>
      obtain ⟨hfits, hkicks, hkw⟩ := still_iff.1 hstill
      simp [*]
      exact hdomain
    | engine hholder hengine hdraws hpow hkick =>
      rcases hkick with ⟨hkreq, hstill⟩ | ⟨hkreq, hkw, hrun⟩
      · obtain ⟨hfits, hkicks, hkw⟩ := still_iff.1 hstill
        simp [engineWaits_draws hdraws, *]
        exact hdomain
      · obtain ⟨hkicks, hfits⟩ := kickWaits_still hkw
        simp [engineWaits_draws hdraws, *]
        exact hdomain
    | kicker hholder hkicks hrun hkicker hdraws hengine =>
      obtain ⟨hkw, hfits⟩ := kicks_fits hkicks
      simp [hstage, hfits, hholder, hkicks, hrun, hkicker, hdraws, hengine, hkw, powered]
      exact hdomain

/-! ## What the grant's rule rests on -/

/-- The operation in flight, for the grant: its kind and stage. -/
def opOf (s : State) : Option (OpKind × Stage) := s.engine.flight.map fun f => (f.kind, f.stage)

/-- The kick of the active request. -/
def kickOf (s : State) : Option Kick := s.rumble.active.map (·.kick)

theorem stageFits_congr {s t : State} (h : opOf t = opOf s) : stageFits t = stageFits s := by
  unfold opOf at h
  unfold stageFits
  cases hs : s.engine.flight <;> cases ht : t.engine.flight <;> simp_all

theorem engineWaits_congr {s t : State} (h : opOf t = opOf s) : engineWaits t = engineWaits s := by
  unfold opOf at h
  unfold engineWaits
  cases hs : s.engine.flight <;> cases ht : t.engine.flight <;> simp_all

theorem engineDraws_congr {s t : State} (h : opOf t = opOf s) : engineDraws t = engineDraws s := by
  unfold opOf at h
  unfold engineDraws
  cases hs : s.engine.flight <;> cases ht : t.engine.flight <;> simp_all

theorem kicks_congr {s t : State} (h : kickOf t = kickOf s) : kicks t = kicks s := by
  unfold kickOf at h
  unfold kicks
  cases hs : s.rumble.active <;> cases ht : t.rumble.active <;> simp_all

theorem kickFits_congr {s t : State} (h : kickOf t = kickOf s) : kickFits t = kickFits s := by
  unfold kickOf at h
  unfold kickFits
  cases hs : s.rumble.active <;> cases ht : t.rumble.active <;> simp_all

theorem kickWaits_congr {s t : State} (h : kickOf t = kickOf s) : kickWaits t = kickWaits s := by
  unfold kickOf at h
  unfold kickWaits
  cases hs : s.rumble.active <;> cases ht : t.rumble.active <;> simp_all

theorem grantKept_congr {s t : State} (hop : opOf t = opOf s) (hkick : kickOf t = kickOf s)
    (hsupply : t.supply = s.supply) (h : GrantKept s) : GrantKept t := by
  unfold GrantKept at *
  rw [stageFits_congr hop, engineWaits_congr hop, engineDraws_congr hop, kicks_congr hkick, kickFits_congr hkick,
    kickWaits_congr hkick]
  simp only [DomainFits, powered, hsupply] at *
  exact h

/-! ## Giving and releasing the grant -/

/-- The grant is free, and it is to be decided whom it is given: nothing is at work under it, and a kick that waits has
its request standing. -/
structure Undecided (s : State) : Prop where
  stage : stageFits s = true
  domain : DomainFits s
  holder : s.supply.holder = .none
  draws : engineDraws s = false
  kick : s.supply.kickerReq = false ∧ Still s ∨
    s.supply.kickerReq = true ∧ kickWaits s = true ∧ s.supply.monitor = .run

theorem kickOf_setKick (k : Kick) (s : State) : kickOf (setKick k s) = (kickOf s).map fun _ => k := by
  simp [kickOf, Function.comp_def]

theorem kicks_of_kickOf {s : State} {n : Nat} (h : kickOf s = some (.kicking n)) (hlow : 1 ≤ n) (hhigh : n ≤ 3) :
    kicks s = true := by
  unfold kickOf at h
  unfold kicks
  cases ha : s.rumble.active with
  | none => simp [ha] at h
  | some a => simp_all

theorem still_of_kickOf {s : State} (h : ∀ k ∈ kickOf s, k = .none) : Still s := by
  intro a ha
  have ha : s.rumble.active = some a := ha
  exact h _ (by simp [kickOf, ha])

theorem kickOf_of_kickWaits {s : State} (h : kickWaits s = true) : kickOf s = some .waiting := by
  unfold kickWaits at h
  unfold kickOf
  cases ha : s.rumble.active with
  | none => simp [ha] at h
  | some a => simp_all

/-- With no operation waiting for it, the free grant goes to a waiting kick or stays free. -/
theorem offerKicker_kept {s : State} (h : Undecided s) (hengine : s.supply.engineReq = false)
    (hwaits : engineWaits s = false) : GrantKept (offerKicker s) := by
  obtain ⟨hstage, hdomain, hholder, hdraws, hkick⟩ := h
  rw [grantKept_iff]
  unfold offerKicker
  rcases hkick with ⟨hreq, hstill⟩ | ⟨hreq, hkw, hrun⟩
  · rw [hreq]
    exact ⟨hstage, hdomain, .free hholder hengine hreq hwaits hdraws hstill⟩
  · rw [hreq, hrun]
    refine ⟨hstage, hdomain, .kicker rfl ?_ hrun rfl hdraws (hengine.trans hwaits.symm)⟩
    refine kicks_of_kickOf (n := 3) ?_ (by decide) (by decide)
    exact (kickOf_setKick _ _).trans (congrArg (Option.map _) (kickOf_of_kickWaits hkw))

theorem engineWaits_cases {s : State} (h : engineWaits s = true) :
    ∃ f, s.engine.flight = some f ∧ (f.kind = .commit ∨ f.kind = .erase) ∧ f.stage = .grantWait := by
  unfold engineWaits at h
  split at h
  next f hf =>
    simp only [Bool.and_eq_true, Bool.or_eq_true, beq_iff_eq] at h
    exact ⟨f, hf, h⟩
  · nomatch h

/-- What a commit flip leaves of the grant: everything. -/
theorem commitFlip_grant (n : SlotNo) (s : State) :
    (commitFlip n s).engine = s.engine ∧ (commitFlip n s).supply = s.supply ∧ (commitFlip n s).rumble = s.rumble := by
  simp [commitFlip]

theorem eraseFlip_grant (n : SlotNo) (s : State) :
    (eraseFlip n s).engine = s.engine ∧ (eraseFlip n s).supply = s.supply ∧ (eraseFlip n s).rumble = s.rumble := by
  simp [eraseFlip]

/-- The free grant is given to the operation that waits for it. -/
theorem giveEngine_kept {s : State} (h : Undecided s) (hwaits : engineWaits s = true) (hpow : powered s = true) :
    GrantKept (giveEngine s) := by
  obtain ⟨hstage, hdomain, hholder, hdraws, hkick⟩ := h
  obtain ⟨f, hf, hkind | hkind, hst⟩ := engineWaits_cases hwaits
  · obtain ⟨he, hs, hr⟩ := commitFlip_grant f.slot
      (setFlight none { s with supply := { s.supply with engineReq := false } })
    simp only [giveEngine, hf, hkind]
    refine offerKicker_kept ⟨?_, ?_, rfl, ?_, ?_⟩ ?_ ?_
    · simp [stageFits, he]
    · intro hv
      simp only [setHolder_supply, hs] at hv ⊢
      exact hdomain hv
    · simp [engineDraws, he]
    · simpa [Still, kickWaits, hs, hr] using hkick
    · simp [hs]
    · simp [engineWaits, he]
  · simp only [giveEngine, hf, hkind]
    rw [grantKept_iff]
    refine ⟨?_, hdomain, .engine rfl rfl ?_ hpow hkick⟩
    · simp [stageFits]
    · simp [engineDraws]

/-- The holder's release leads back to a mode of the grant. -/
theorem releaseGrant_kept {s : State} (h : Undecided (setHolder .none s))
    (hreq : s.supply.engineReq = engineWaits s) (hpow : s.supply.engineReq = true → powered s = true) :
    GrantKept (releaseGrant s) := by
  unfold releaseGrant
  simp only
  split
  next hr => exact giveEngine_kept h (hreq.symm.trans hr) (hpow hr)
  next hr =>
    have hr : s.supply.engineReq = false := by simpa using hr
    exact offerKicker_kept h hr (hreq.symm.trans hr)

/-! ## Kicks -/

/-- A kick's end brings the rule of the grant about, also where the monitor state has just changed under it between RUN
and WARN. -/
theorem endKick_kept_of_monitor {s : State} {m : Monitor} (h : GrantKept s) (hpow : powered (setMonitor m s) = powered s)
    (hdomain : DomainFits (setMonitor m s)) (hrun : Still s → GrantKept (setMonitor m s)) :
    GrantKept (endKick (setMonitor m s)) := by
  obtain ⟨hstage, -, hmode⟩ := grantKept_iff.1 h
  unfold endKick
  split
  next a ha =>
    have ha : s.rumble.active = some a := ha
    split
    next hkick =>
      refine hrun fun b hb => ?_
      cases ha.symm.trans hb
      exact hkick
    next hkick =>
      refine grantKept_iff.2 ⟨hstage, hdomain, ?_⟩
      have hstill : Still (setKick .none { s with supply := { s.supply with kickerReq := false } }) :=
        still_of_kickOf (by simp [kickOf_setKick])
      cases hmode with
      | free hholder hengine _ hwaits hdraws hs => exact .free hholder hengine rfl hwaits hdraws hstill
      | engine hholder hengine hdraws hp _ => exact .engine hholder hengine hdraws (hpow.trans hp) (.inl ⟨rfl, hstill⟩)
      | kicker _ hkicks => simp [kicks, ha, hkick] at hkicks
    next n hkick =>
      have hstill : Still (setKick .none s) := still_of_kickOf (by simp [kickOf_setKick])
      cases hmode with
      | free _ _ _ _ _ hs => exact absurd ((hs a ha).symm.trans hkick) nofun
      | engine _ _ _ _ hk =>
        rcases hk with ⟨-, hs⟩ | ⟨-, hkw, -⟩
        · exact absurd ((hs a ha).symm.trans hkick) nofun
        · simp [kickWaits, ha, hkick] at hkw
      | kicker hholder hkicks hr hkicker hdraws hengine =>
        rw [if_pos (by exact hholder)]
        refine releaseGrant_kept ⟨hstage, hdomain, rfl, hdraws, .inl ⟨hkicker, hstill⟩⟩ hengine fun _ => ?_
        exact hpow.trans (by simp [powered, hr])
  next ha => exact hrun fun b hb => nomatch (show s.rumble.active = none from ha).symm.trans hb

/-- A kick's end keeps the rule of the grant. -/
theorem endKick_kept {s : State} (h : GrantKept s) : GrantKept (endKick s) :=
  endKick_kept_of_monitor (m := s.supply.monitor) h rfl (grantKept_iff.1 h).2.1 fun _ => h

theorem offerKicker_of_no_request {s : State} (h : s.supply.kickerReq = false) : offerKicker s = s := by
  simp [offerKicker, h]

/-- Without a kicker's request the release of the grant leaves the drive alone. -/
theorem releaseGrant_rumble {s : State} (h : s.supply.kickerReq = false) : (releaseGrant s).rumble = s.rumble := by
  unfold releaseGrant
  simp only
  split
  · unfold giveEngine
    simp only
    split
    next f _ =>
      split
      · obtain ⟨-, hs, hr⟩ := commitFlip_grant f.slot
          (setFlight none { setHolder .none s with
            supply := { (setHolder .none s).supply with engineReq := false } })
        rw [offerKicker_of_no_request (by rw [setHolder_supply, hs]; exact h), setHolder_rumble, hr]
        rfl
      all_goals rfl
    · rfl
  · rw [offerKicker_of_no_request (by exact h)]
    rfl

/-- After a kick's end no kick is in progress or waits. -/
theorem endKick_still {s : State} (h : GrantKept s) : Still (endKick s) := by
  unfold endKick
  split
  next a ha =>
    split
    next hkick =>
      intro b hb
      cases ha.symm.trans hb
      exact hkick
    · exact still_of_kickOf (by simp [kickOf_setKick])
    next n hkick =>
      have hholder : s.supply.holder = .kicker := by
        obtain ⟨-, hfits, -, hiff, -⟩ := h
        rw [hiff]
        simpa [kicks, kickFits, ha, hkick] using hfits
      have hreq : s.supply.kickerReq = false := by
        obtain ⟨-, -, -, -, -, -, -, -, -, -, -, hbehind⟩ := h
        simpa [hholder] using hbehind
      rw [if_pos hholder]
      unfold Still
      rw [releaseGrant_rumble (by exact hreq)]
      exact still_of_kickOf (by simp [kickOf_setKick])
  next ha => exact fun a hb => nomatch ha.symm.trans hb

end Sys2Proof.Proofs
end

section
/-! SUPPORT. The wide moves as equations: which fields a reset, the release of /CRST, CONSOLE POWER-UP and FAIL give a
value, and that they keep the rest. -/

namespace Sys2Proof.Proofs

open Sys2Proof.Machine Sys2Proof.Safety Sys2Proof.Laws

theorem returnReverted_eq (old s : State) :
    returnReverted old s = { s with dir := { s.dir with pool := (returnReverted old s).dir.pool } } := by
  have hfold (l : List SlotNo) (f : State → SlotNo → State)
      (hf : ∀ u n, f u n = { u with dir := { u.dir with pool := (f u n).dir.pool } }) (u : State) :
      l.foldl f u = { u with dir := { u.dir with pool := (l.foldl f u).dir.pool } } := by
    induction l generalizing u with
    | nil => rfl
    | cons n l ih =>
      rw [List.foldl_cons]
      exact (ih _).trans (by rw [hf u n])
  refine hfold _ _ (fun u n => ?_) s
  split
  · exact returnBlock_eq ..
  · rfl

/-- A reset gives the save engine its values, keeps the protect setting, and opens the window. -/
theorem engineReset_eq (s : State) :
    engineReset s =
      { s with
        engine := { queue := [], flight := s.engine.flight.filter survivesReset, sweep := 8 },
        dir := { slots := tabulate fun n => resetRecord s n s.dir.slots[n],
                 pool := (returnReverted s (mapSlots (resetRecord s) s)).dir.pool,
                 protect := s.dir.protect, windowOpen := true } } := by
  unfold engineReset
  simp only
  rw [returnReverted_eq]
  rfl

theorem setFaultIf_eq (b : Bool) (f : FaultFlag) (s : State) :
    setFaultIf b f s = { s with cause := (setFaultIf b f s).cause } := by
  unfold setFaultIf
  split
  · exact setFault_eq ..
  · rfl

theorem flagSupply_eq (s : State) : flagSupply s = { s with cause := (flagSupply s).cause } :=
  (setFaultIf_eq s.supply.batlowSense .batlow _).trans
    (congrArg (fun u : State => { u with cause := (flagSupply s).cause }) (setFaultIf_eq s.profile.fallback .strap s))

/-- The release of /CRST gives the profile, the map, the pool and the flags of the straps. -/
theorem releaseEffect_eq (straps : Straps) (s : State) :
    releaseEffect straps s =
      { s with
        profile := sampledProfile straps s.profile.lastReset,
        map := loadedMap (sampledProfile straps s.profile.lastReset).pageCount,
        dir := (fitPool (loadProfile (sampledProfile straps s.profile.lastReset) s)).dir,
        cause := (releaseEffect straps s).cause } :=
  flagSupply_eq _

/-- CONSOLE POWER-UP gives every field its value but those that the battery keeps, the ROM and the inputs. -/
theorem powerUp_eq (straps : Straps) (s : State) :
    powerUp straps s =
      { s with
        slot := { last := none }, profile := sampledProfile straps (powerUpKind s),
        map := loadedMap (sampledProfile straps (powerUpKind s)).pageCount, port := .idle, sound := [],
        saveAccess := none, tracks := initialTracks, frame := .initial 0,
        crystal := { s.crystal with divider := 0 }, rumble := .initial s.rumble.stallInput (some false),
        cmd := .initial, voices := initialVoices, mixer := { master := 16, dac := some 512 },
        supply := s.supply.running, cal := s.cal.poweredUp s.supply.batlowSense,
        engine := { queue := [], flight := none, sweep := 0 },
        dir := (enginePowerUp (loadProfile (sampledProfile straps (powerUpKind s)) s)).dir,
        cause := (powerUp straps s).cause } :=
  flagSupply_eq _

theorem completeFlip_eq (s : State) :
    completeFlip s = { s with dir := (completeFlip s).dir, engine := (completeFlip s).engine } := by
  unfold completeFlip eraseFlip
  split
  · split
    · rw [returnBlock_eq]
      rfl
    · rfl
  · rfl

/-- FAIL leaves the battery domain, the ROM and the inputs, and gives every other field the value of the unpowered
logic. -/
theorem failFromWarn_eq (s : State) :
    failFromWarn s =
      { State.reset with
        rom := s.rom, sram := s.sram, dir := (engineFail s).dir, cal := { s.cal with down := some ⟨s.cal.day, s.cal.sec⟩ },
        crystal := { s.crystal with divider := 0 }, cues := s.cues, rumble := .initial s.rumble.stallInput none,
        supply := s.supply.failed, freeIndex := s.freeIndex, pending := s.pending } := by
  have hflip := congrArg (fun u : State => ({ u with dir := (engineFail s).dir, engine := .off } : State))
    (completeFlip_eq s)
  have hfail : engineFail s = { s with dir := (engineFail s).dir, engine := .off } := hflip
  unfold failFromWarn
  rw [hfail]
  rfl

/-- The state s with the four records that the grant and the kick touch as t has them. -/
def grantParts (t s : State) : State :=
  { s with dir := t.dir, engine := t.engine, supply := t.supply, rumble := t.rumble }

theorem endKick_eq (s : State) : endKick s = grantParts (endKick s) s := by
  have hkick := congrArg (grantParts (endKick s)) (outsideGrant_endKick s)
  exact hkick

theorem endKick_restarted (s : State) : (endKick s).rumble.restarted = s.rumble.restarted :=
  (congrArg (fun u : State => u.rumble.restarted) (outsideGrant_endKick s) :
    (outsideGrant (endKick s)).rumble.restarted = (outsideGrant s).rumble.restarted)

/-- A reset gives the blocks of sound, sequencer, frame capture and port their values. -/
theorem resetBlocks_eq (s : State) :
    resetBlocks s = grantParts (resetBlocks s) (resetSequencer (resetSound s)) := by
  have hreset := congrArg (fun u => grantParts (resetBlocks s) (resetSequencer (resetSound u))) (engineReset_eq s)
  have hkick := congrArg (grantParts (resetBlocks s)) (endKick_eq (resetSequencer (resetSound (engineReset s))))
  exact hkick.trans hreset

theorem resetBlocks_rumble (s : State) : (resetBlocks s).rumble = s.rumble.restarted := by
  have hkick := endKick_restarted (resetSequencer (resetSound (engineReset s)))
  have hreset := congrArg (fun u : State => u.rumble.restarted) (engineReset_eq s)
  exact hkick.trans hreset

end Sys2Proof.Proofs
end

section
/-! SUPPORT. Every move keeps the surge grant's rule: the drive's requests and ticks, the save engine's starts and ends,
the resets and the changes of power. -/

namespace Sys2Proof.Proofs

open Sys2Proof.Machine Sys2Proof.Safety Sys2Proof.Laws

/-! ## The kick rule and the requests -/

theorem kickBegins_iff {stopped : Bool} {s : State} {a : Active} :
    kickBegins stopped s a = true ↔ a.kick = .none ∧ s.supply.monitor = .run ∧ s.profile.motor = true ∧
      hasFault .stall s = false ∧ (activeLevel s a).driven = true ∧ stopped = true ∧ s.rumble.hot = false := by
  simp [kickBegins, and_assoc]

/-- The kicker's request in RUN, its kick waiting: given at once when the grant is free, otherwise standing. -/
theorem kickerRequest_kept {s : State} (h : GrantKept s) (hstill : Still s) (hactive : s.rumble.active.isSome = true)
    (hrun : s.supply.monitor = .run) : GrantKept (kickerRequest (setKick .waiting s)) := by
  obtain ⟨a, ha⟩ := Option.isSome_iff_exists.1 hactive
  have hkickOf (k : Kick) (u : State) (hu : u.rumble.active = (setKick k s).rumble.active) : kickOf u = some k := by
    simp [kickOf, hu, ha]
  obtain ⟨hstage, hdomain, hmode⟩ := grantKept_iff.1 h
  unfold kickerRequest
  rw [grantKept_iff]
  split
  next hfree =>
    refine ⟨hstage, hdomain, ?_⟩
    have hgiven : kickOf (giveKicker (setKick .waiting s)) = some (.kicking 3) := by simp [kickOf, giveKicker, ha]
    cases hmode with
    | free _ hengine _ hwaits hdraws _ =>
      exact .kicker rfl (kicks_of_kickOf hgiven (by decide) (by decide)) hrun rfl hdraws (hengine.trans hwaits.symm)
    | engine hholder => exact absurd (hfree.symm.trans hholder) nofun
    | kicker hholder => exact absurd (hfree.symm.trans hholder) nofun
  next hheld =>
    refine ⟨hstage, hdomain, ?_⟩
    cases hmode with
    | free hholder => exact absurd hholder hheld
    | engine hholder hengine hdraws hpow _ =>
      exact .engine hholder hengine hdraws hpow (.inr ⟨rfl, by simp [kickWaits, ha], hrun⟩)
    | kicker _ hkicks =>
      obtain ⟨-, hnone, -⟩ := still_iff.1 hstill
      exact absurd (hkicks.symm.trans hnone) nofun

theorem kickRuleIf_kept {stopped : Bool} {s : State} (h : GrantKept s) : GrantKept (kickRuleIf stopped s) := by
  unfold kickRuleIf
  split
  next a ha =>
    split
    next hbegins =>
      obtain ⟨hnone, hrun, -⟩ := kickBegins_iff.1 hbegins
      refine kickerRequest_kept h (fun b hb => ?_) (by simp [ha]) hrun
      cases ha.symm.trans hb
      exact hnone
    · exact h
  · exact h

/-- Where no kick is in progress or waits, the active request can be replaced by another without a kick. -/
theorem setActive_kept {s : State} {o : Option Active} (h : GrantKept s) (hstill : Still s)
    (ho : ∀ a ∈ o, a.kick = .none) : GrantKept (setActive o s) := by
  obtain ⟨hstage, hdomain, hmode⟩ := grantKept_iff.1 h
  refine grantKept_iff.2 ⟨hstage, hdomain, ?_⟩
  obtain ⟨-, hnone, hnowait⟩ := still_iff.1 hstill
  have ho : Still (setActive o s) := ho
  cases hmode with
  | free hholder hengine hkicker hwaits hdraws _ => exact .free hholder hengine hkicker hwaits hdraws ho
  | engine hholder hengine hdraws hpow hkick =>
    rcases hkick with ⟨hreq, -⟩ | ⟨-, hkw, -⟩
    · exact .engine hholder hengine hdraws hpow (.inl ⟨hreq, ho⟩)
    · exact absurd (hkw.symm.trans hnowait) nofun
  | kicker _ hkicks => exact absurd (hkicks.symm.trans hnone) nofun

theorem startRequest_kept {r : Request} {s : State} (h : GrantKept s) (hstill : Still s) :
    GrantKept (startRequest r s) := by
  refine kickRuleIf_kept (setActive_kept h hstill ?_)
  rintro a ⟨⟩
  rfl

theorem still_of_no_active {s : State} (h : s.rumble.active = none) : Still s := fun _ ha => nomatch h.symm.trans ha

theorem startHead_kept {s : State} (h : GrantKept s) (hnone : s.rumble.active = none) : GrantKept (startHead s) := by
  unfold startHead
  split
  · exact startRequest_kept h (still_of_no_active hnone)
  · exact h

theorem closeRequest_active (e : EndReason) (s : State) : (closeRequest e s).rumble.active = none := by
  simp only [closeRequest]
  split <;> simp

theorem closeRequest_kept {e : EndReason} {s : State} (h : GrantKept s) : GrantKept (closeRequest e s) := by
  have hkept : GrantKept { s with rumble := { s.rumble with lastEnd := e } } := h
  have hended := setActive_kept (o := none) (endKick_kept hkept) (endKick_still hkept) nofun
  simp only [closeRequest]
  split
  · exact hended
  · exact grantKept_congr (by simp [opOf]) (by simp [kickOf]) (by simp) hended

theorem endRequest_kept {e : EndReason} {s : State} (h : GrantKept s) : GrantKept (endRequest e s) :=
  startHead_kept (closeRequest_kept h) (closeRequest_active e s)

theorem decideRequest_kept {r : Request} {s : State} (h : GrantKept s) : GrantKept (decideRequest r s).2 := by
  unfold decideRequest
  split
  · exact h
  · unfold takeRequest
    split
    next hnone => exact startRequest_kept h (still_of_no_active hnone)
    · split
      · exact startRequest_kept (closeRequest_kept h) (still_of_no_active (closeRequest_active ..))
      · exact h

/-! ## The rumble tick -/

theorem warmTick_kept {s : State} (h : GrantKept s) : GrantKept (warmTick s) := by
  simp only [warmTick]
  split
  · exact endKick_kept (grantKept_congr rfl rfl rfl h)
  · exact h

theorem kickTick_kept {s : State} (h : GrantKept s) : GrantKept (kickTick s) := by
  unfold kickTick
  split
  next a ha =>
    split
    next n hkick =>
      split
      · exact endKick_kept h
      next hmore =>
        obtain ⟨hstage, hdomain, hmode⟩ := grantKept_iff.1 h
        refine grantKept_iff.2 ⟨hstage, hdomain, ?_⟩
        cases hmode with
        | free _ _ _ _ _ hs => exact absurd ((hs a ha).symm.trans hkick) nofun
        | engine _ _ _ _ hk =>
          rcases hk with ⟨-, hs⟩ | ⟨-, hkw, -⟩
          · exact absurd ((hs a ha).symm.trans hkick) nofun
          · simp [kickWaits, ha, hkick] at hkw
        | kicker hholder hkicks hrun hkicker hdraws hengine =>
          simp [kicks, ha, hkick] at hkicks
          exact .kicker hholder (kicks_of_kickOf (n := n - 1) (by simp [kickOf, ha]) (by omega) (by omega)) hrun hkicker
            hdraws hengine
    · exact h
    · exact h
  · exact h

/-- The active request's counts change, and not its kick. -/
theorem setActive_kept_of_kick {s : State} {a b : Active} (h : GrantKept s) (ha : s.rumble.active = some a)
    (hkick : b.kick = a.kick) : GrantKept (setActive (some b) s) :=
  grantKept_congr (s := s) rfl (by simp [kickOf, ha, hkick]) rfl h

theorem enterStep_kept {i : Nat} {s : State} (h : GrantKept s) : GrantKept (enterStep i s) := by
  unfold enterStep
  split
  next a ha =>
    simp only
    split
    · exact setActive_kept_of_kick h ha rfl
    · exact endKick_kept (setActive_kept_of_kick h ha rfl)
  · exact h

theorem stepTick_kept {b : Bool} {s : State} (h : GrantKept s) : GrantKept (stepTick b s) := by
  unfold stepTick
  split
  next a ha =>
    split
    · exact h
    · split
      · unfold advanceStep
        simp only [ha]
        split
        · exact enterStep_kept h
        · split
          · exact endRequest_kept h
          · exact enterStep_kept h
      · exact setActive_kept_of_kick h ha rfl
  · exact h

theorem countAllowance_kept {s : State} (h : GrantKept s) : GrantKept (countAllowance s) := by
  unfold countAllowance
  split
  next a ha =>
    split
    · exact setActive_kept_of_kick h ha rfl
    · exact h
  · exact h

theorem driveTick_kept {s : State} (h : GrantKept s) : GrantKept (driveTick s) := by
  refine kickRuleIf_kept ?_
  simp only [countTick]
  split
  · exact endRequest_kept (warmTick_kept h)
  · exact stepTick_kept (kickTick_kept (countAllowance_kept (warmTick_kept h)))

theorem latchStall_kept {s : State} (h : GrantKept s) : GrantKept (latchStall s) :=
  closeRequest_kept (grantKept_congr (by simp [opOf]) (by simp [kickOf]) (by simp) h)

/-- The drive's work keeps the rule of the grant. -/
theorem DriveWork.grantKept {s t : State} (h : DriveWork s t) (hs : GrantKept s) : GrantKept t := by
  cases h with
  | decide => exact decideRequest_kept hs
  | clearQueue => exact hs
  | stop => exact endRequest_kept hs
  | renew a n ha => exact setActive_kept_of_kick hs ha rfl
  | pattern => exact hs
  | tick => exact driveTick_kept hs
  | stallInput => exact hs
  | latchStall => exact latchStall_kept hs
  | pwm => exact hs

/-! ## The save engine -/

/-- With no operation at work under it, the grant's rule asks of a new operation in flight that its stage is one of its
kind and that it does not begin under the grant. -/
theorem setFlight_kept {s : State} {o : Option Flight} (h : GrantKept s) (hwaits : engineWaits s = false)
    (hdraws : engineDraws s = false) (hstage' : stageFits (setFlight o s) = true)
    (hwaits' : engineWaits (setFlight o s) = false) (hdraws' : engineDraws (setFlight o s) = false) :
    GrantKept (setFlight o s) := by
  obtain ⟨-, hdomain, hmode⟩ := grantKept_iff.1 h
  refine grantKept_iff.2 ⟨hstage', hdomain, ?_⟩
  cases hmode with
  | free hholder hengine hkicker _ _ hstill => exact .free hholder hengine hkicker hwaits' hdraws' hstill
  | engine _ _ hd => exact absurd (hd.symm.trans hdraws) nofun
  | kicker hholder hkicks hrun hkicker _ hengine =>
    exact .kicker hholder hkicks hrun hkicker hdraws' ((hengine.trans hwaits).trans hwaits'.symm)

/-- An idle engine's COMMIT or ERASE requests the grant: given at once when free, otherwise standing. -/
theorem engineRequest_kept {s : State} {f : Flight} (h : GrantKept s) (hnone : s.engine.flight = none)
    (hpow : powered s = true) (hkind : f.kind = .commit ∨ f.kind = .erase) (hst : f.stage = .grantWait) :
    GrantKept (engineRequest (setFlight (some f) s)) := by
  have hstage : stageFits (setFlight (some f) s) = true := by rcases hkind with hk | hk <;> simp [stageFits, hk, hst]
  have hwaits : engineWaits (setFlight (some f) s) = true := by
    rcases hkind with hk | hk <;> simp [engineWaits, hk, hst]
  have hdraws : engineDraws (setFlight (some f) s) = false := by simp [engineDraws, hst]
  have hidle : engineDraws s = false := by simp [engineDraws, hnone]
  obtain ⟨-, hdomain, hmode⟩ := grantKept_iff.1 h
  unfold engineRequest
  split
  next hfree =>
    refine giveEngine_kept ⟨hstage, hdomain, hfree, hdraws, ?_⟩ hwaits hpow
    cases hmode with
    | free _ _ hkicker _ _ hstill => exact .inl ⟨hkicker, hstill⟩
    | engine _ _ hd => exact absurd (hd.symm.trans hidle) nofun
    | kicker hholder => exact absurd (hfree.symm.trans hholder) nofun
  next hheld =>
    refine grantKept_iff.2 ⟨hstage, hdomain, ?_⟩
    cases hmode with
    | free hholder => exact absurd hholder hheld
    | engine _ _ hd => exact absurd (hd.symm.trans hidle) nofun
    | kicker hholder hkicks hrun hkicker _ _ => exact .kicker hholder hkicks hrun hkicker hdraws hwaits.symm

theorem startEntry_kept {e : QueueEntry} {s : State} (h : GrantKept s) (hnone : s.engine.flight = none)
    (hpow : powered s = true) : GrantKept (startEntry e s) := by
  have hwaits : engineWaits s = false := by simp [engineWaits, hnone]
  have hdraws : engineDraws s = false := by simp [engineDraws, hnone]
  obtain ⟨kind, slot⟩ := e
  unfold startEntry
  simp only
  cases kind
  case commit => exact engineRequest_kept h hnone hpow (.inl rfl) rfl
  case erase => exact engineRequest_kept h hnone hpow (.inr rfl) rfl
  case verify => exact setFlight_kept h hwaits hdraws rfl rfl rfl
  -- an OPEN, whose constructor's name is a keyword
  simp only [firstStage]
  split <;> exact setFlight_kept h hwaits hdraws rfl rfl rfl

theorem eraseEnd_kept {f : Flight} {s : State} (h : GrantKept s) (hf : s.engine.flight = some f)
    (hkind : f.kind = .erase) (hst : f.stage = .fill ∨ f.stage = .flip) : GrantKept (eraseEnd f s) := by
  have hdraws : engineDraws s = true := by rcases hst with hst | hst <;> simp [engineDraws, hf, hkind, hst]
  obtain ⟨-, hsupply, hrumble⟩ := eraseFlip_grant f.slot s
  obtain ⟨-, hdomain, hmode⟩ := grantKept_iff.1 h
  cases hmode with
  | free _ _ _ _ hd => exact absurd (hdraws.symm.trans hd) nofun
  | kicker _ _ _ _ hd => exact absurd (hdraws.symm.trans hd) nofun
  | engine hholder hengine _ _ hkick =>
    refine releaseGrant_kept ⟨rfl, ?_, rfl, rfl, ?_⟩ ?_ ?_
    · intro hv
      simp only [setHolder_supply, setFlight_supply, hsupply] at hv ⊢
      exact hdomain hv
    · simpa [Still, kickWaits, hsupply, hrumble] using hkick
    · simp [engineWaits, hsupply, hengine]
    · simp [hsupply, hengine]

theorem flight_none_of_idle {s : State} (h : engineIdle s = true) : s.engine.flight = none ∧ powered s = true := by
  simp only [engineIdle, Bool.and_eq_true, Option.isNone_iff_eq_none] at h
  exact ⟨h.2, powered_of_answered h.1⟩

/-- An operation that has no stage under the grant ends. -/
theorem setFlight_none_kept {s t : State} {f : Flight} (h : GrantKept s) (hf : s.engine.flight = some f)
    (hkind : f.kind = .open ∨ f.kind = .verify) (hengine : t.engine = s.engine) (hsupply : t.supply = s.supply)
    (hrumble : t.rumble = s.rumble) : GrantKept (setFlight none t) := by
  refine setFlight_kept (grantKept_congr (by simp [opOf, hengine]) (by simp [kickOf, hrumble]) hsupply h) ?_ ?_ rfl rfl rfl
  · rcases hkind with hk | hk <;> simp [engineWaits, hengine, hf, hk]
  · rcases hkind with hk | hk <;> simp [engineDraws, hengine, hf, hk]

theorem markDamage_same (d : Bool) (n : SlotNo) (s : State) :
    (markDamage d n s).engine = s.engine ∧ (markDamage d n s).supply = s.supply ∧
      (markDamage d n s).rumble = s.rumble := by
  unfold markDamage
  split <;> simp

/-- What an access leaves of the supply watch and the drive: everything. -/
theorem engineRead_side (o : Option Nat) (p : Nat) (s : State) :
    (engineRead o p s).supply = s.supply ∧ (engineRead o p s).rumble = s.rumble := by
  unfold engineRead
  split <;> simp [portRead]

theorem engineWrite_side (o : Option Nat) (p : Nat) (b : Byte) (s : State) :
    (engineWrite o p b s).supply = s.supply ∧ (engineWrite o p b s).rumble = s.rumble := by
  unfold engineWrite
  split <;> simp [portWrite]

/-- The operation in flight moves on within its stage. -/
theorem moved_kept {f g : Flight} {s t : State} (h : GrantKept s) (hf : s.engine.flight = some f)
    (hop : (g.kind, g.stage) = (f.kind, f.stage)) (hside : t.supply = s.supply ∧ t.rumble = s.rumble) :
    GrantKept (setFlight (some g) t) :=
  grantKept_congr (by simp [opOf, hf, hop]) (by simp [kickOf, hside.2]) hside.1 h

/-- An ERASE that has filled its block goes on to its FLIP under the grant. -/
theorem toFlip_kept {f g : Flight} {s t : State} (h : GrantKept s) (hf : s.engine.flight = some f)
    (hfill : f.kind = .erase ∧ f.stage = .fill) (hflip : g.kind = .erase ∧ g.stage = .flip)
    (hside : t.supply = s.supply ∧ t.rumble = s.rumble) : GrantKept (setFlight (some g) t) := by
  have hdraws : engineDraws s = true := by simp [engineDraws, hf, hfill]
  obtain ⟨hkind, hst⟩ := hflip
  obtain ⟨-, hdomain, hmode⟩ := grantKept_iff.1 (grantKept_congr (t := setFlight (some f) t) (by simp [opOf, hf])
    (by simp [kickOf, hside.2]) hside.1 h)
  refine grantKept_iff.2 ⟨by simp [stageFits, hkind, hst], hdomain, ?_⟩
  cases hmode with
  | free _ _ _ _ hd => simp [engineDraws, hfill] at hd
  | kicker _ _ _ _ hd => simp [engineDraws, hfill] at hd
  | engine hholder hengine _ hpow hkick =>
    exact .engine hholder hengine (by simp [engineDraws, hkind, hst]) hpow hkick

/-- An access moves an operation on within its stage, or an ERASE from its FILL to its FLIP. -/
theorem accessByte_kept {f : Flight} {s : State} (h : GrantKept s) (hf : s.engine.flight = some f) :
    GrantKept (accessByte f s) := by
  have hopen (b : Byte) (t : State) (ht : t.supply = s.supply ∧ t.rumble = s.rumble) : GrantKept (openByte f b t) := by
    obtain ⟨hsupply, hrumble⟩ := engineWrite_side t.dir.slots[f.slot].working f.position b t
    exact moved_kept h hf rfl ⟨hsupply.trans ht.1, hrumble.trans ht.2⟩
  unfold accessByte
  split
  · exact hopen _ _ (engineRead_side ..)
  · exact hopen _ _ ⟨rfl, rfl⟩
  next hkind hst =>
    unfold eraseByte
    split
    · exact toFlip_kept h hf ⟨hkind, hst⟩ ⟨hkind, rfl⟩ ⟨rfl, rfl⟩
    · by_cases hlast : f.position + 1 = Config.blockSize
      · exact toFlip_kept h hf ⟨hkind, hst⟩ ⟨hkind, if_pos hlast⟩ ⟨rfl, rfl⟩
      · exact moved_kept h hf (by simp [hlast, hst]) ⟨rfl, rfl⟩
  · exact moved_kept h hf rfl (engineRead_side ..)
  · exact h

/-- SLOT ABANDON takes no operation that waits for the grant or holds it. -/
theorem cancelOpen_kept {n : SlotNo} {s : State} (h : GrantKept s) : GrantKept (cancelOpen n s) := by
  cases hf : s.engine.flight with
  | none => exact grantKept_congr (s := s) (by simp [opOf, cancelOpen, hf]) rfl rfl h
  | some f =>
    by_cases hopens : opensSlot n f = true
    · have hkind : f.kind = .open := by
        simp only [opensSlot, Bool.and_eq_true, beq_iff_eq] at hopens
        exact hopens.1
      refine grantKept_congr (s := setFlight none s) (by simp [opOf, cancelOpen, hf, hopens]) rfl rfl ?_
      exact setFlight_none_kept h hf (.inl hkind) rfl rfl rfl
    · exact grantKept_congr (s := s) (by simp [opOf, cancelOpen, hf, hopens]) rfl rfl h

theorem landWrite_same (n : SlotNo) (p : Nat) (b : Byte) (s : State) :
    (landWrite n p b s).engine = s.engine ∧ (landWrite n p b s).supply = s.supply ∧
      (landWrite n p b s).rumble = s.rumble := by
  unfold landWrite
  split <;> simp [portRead, portWrite]

theorem dropWork_same (n : SlotNo) (s : State) :
    (dropWork n s).engine = s.engine ∧ (dropWork n s).supply = s.supply ∧ (dropWork n s).rumble = s.rumble := by
  simp [dropWork]

/-- The save engine's work keeps the rule of the grant. -/
theorem SaveWork.grantKept {s t : State} (h : SaveWork s t) (hs : GrantKept s) : GrantKept t := by
  have hdamaged (f : Flight) (u : State) (d : Bool) (n : SlotNo) (hf : s.engine.flight = some f)
      (hkind : f.kind = .open ∨ f.kind = .verify) (hu : u.engine = (markDamage d n s).engine ∧
        u.supply = (markDamage d n s).supply ∧ u.rumble = (markDamage d n s).rumble) :
      GrantKept (setFlight none u) := by
    obtain ⟨he, hsup, hr⟩ := markDamage_same d n s
    exact setFlight_none_kept hs hf hkind (hu.1.trans he) (hu.2.1.trans hsup) (hu.2.2.trans hr)
  cases h with
  | seen => exact hs
  | land n p b =>
    obtain ⟨he, hsup, hr⟩ := landWrite_same n p b s
    exact grantKept_congr (by simp [opOf, he]) (by simp [kickOf, hr]) hsup hs
  | protect => exact hs
  | acceptOpen => exact hs
  | acceptCommit => exact hs
  | abandon n =>
    obtain ⟨he, hsup, hr⟩ := dropWork_same n (cancelOpen n s)
    have hdropped : GrantKept (dropWork n (cancelOpen n s)) :=
      grantKept_congr (by simp [opOf, he]) (by simp [kickOf, hr]) hsup (cancelOpen_kept hs)
    exact hdropped
  | acceptErase => exact hs
  | acceptVerify => exact hs
  | start e rest hidle hq =>
    obtain ⟨hnone, hpow⟩ := flight_none_of_idle hidle
    exact startEntry_kept hs hnone hpow
  | access f hf => exact accessByte_kept hs hf
  | openEnd f hf _ hkind => exact hdamaged f _ _ f.slot hf (.inl hkind) ⟨rfl, rfl, rfl⟩
  | eraseEnd f hf _ hready =>
    simp only [eraseReady, Bool.and_eq_true, Bool.or_eq_true, beq_iff_eq] at hready
    obtain ⟨hkind, hst⟩ := hready
    exact eraseEnd_kept hs hf hkind (hst.elim .inr fun h => .inl h.1)
  | verifyEnd f hf _ hkind => exact hdamaged f _ _ f.slot hf (.inr hkind) ⟨rfl, rfl, rfl⟩
  | scan n hn hdue hscan =>
    simp only [sweepDue, Bool.and_eq_true] at hdue
    obtain ⟨hnone, -⟩ := flight_none_of_idle hdue.1.1
    exact setFlight_kept hs (by simp [engineWaits, hnone]) (by simp [engineDraws, hnone]) rfl rfl rfl
  | pass => exact hs
  | sweepEnd f hf _ hkind =>
    have hended : GrantKept (setFlight none (markDamage (checkDiffers f s) f.slot s)) :=
      hdamaged f _ _ f.slot hf (.inr hkind) ⟨rfl, rfl, rfl⟩
    exact hended

/-! ## Resets and changes of power -/

/-- With no operation in flight and no active request, the rule is that the grant is free and nobody waits. -/
theorem grantKept_of_quiet {s : State} (hflight : s.engine.flight = none) (hactive : s.rumble.active = none)
    (hdomain : DomainFits s) (hholder : s.supply.holder = .none) (hengine : s.supply.engineReq = false)
    (hkicker : s.supply.kickerReq = false) : GrantKept s :=
  grantKept_iff.2 ⟨by simp [stageFits, hflight], hdomain, .free hholder hengine hkicker (by simp [engineWaits, hflight])
    (by simp [engineDraws, hflight]) (still_of_no_active hactive)⟩

/-- A reset lets an operation that waits for the grant or holds it go on (R63). -/
theorem engineReset_kept {s : State} (h : GrantKept s) : GrantKept (engineReset s) := by
  rw [engineReset_eq]
  cases hf : s.engine.flight with
  | none => exact grantKept_congr (s := s) (by simp [opOf, hf]) rfl rfl h
  | some f =>
    by_cases hgoes : survivesReset f = true
    · exact grantKept_congr (s := s) (by simp [opOf, hf, hgoes]) rfl rfl h
    · have hkind : f.kind = .open ∨ f.kind = .verify := by
        cases hk : f.kind <;> simp_all [survivesReset]
      refine grantKept_congr (s := setFlight none s) (by simp [opOf, hgoes]) rfl rfl ?_
      exact setFlight_none_kept h hf hkind rfl rfl rfl

theorem resetBlocks_kept {s : State} (h : GrantKept s) : GrantKept (resetBlocks s) := by
  have hblocks : GrantKept (resetSequencer (resetSound (engineReset s))) := engineReset_kept h
  exact setActive_kept (o := none) (endKick_kept hblocks) (endKick_still hblocks) nofun

/-- FAIL leaves no operation, no request and no grant. -/
theorem failFromWarn_kept {s : State} : GrantKept (failFromWarn s) :=
  grantKept_of_quiet rfl rfl (fun _ => rfl) rfl rfl rfl

/-- A change of the supply watch other than of the grant, in BATTERY and STARTING. -/
theorem changeSupply_kept {s t : State} (h : GrantKept s) (hpow : powered s = false) (hengine : t.engine = s.engine)
    (hrumble : t.rumble = s.rumble)
    (hgrant : t.supply.holder = s.supply.holder ∧ t.supply.engineReq = s.supply.engineReq ∧
      t.supply.kickerReq = s.supply.kickerReq) (hdomain : DomainFits t) : GrantKept t := by
  obtain ⟨hstage, -, hmode⟩ := grantKept_iff.1 h
  obtain ⟨hh, he, hk⟩ := hgrant
  have hop : opOf t = opOf s := by rw [opOf, hengine, opOf]
  refine grantKept_iff.2 ⟨(stageFits_congr hop).trans hstage, hdomain, ?_⟩
  cases hmode with
  | free hholder hereq hkreq hwaits hdraws hstill =>
    exact .free (hh.trans hholder) (he.trans hereq) (hk.trans hkreq) ((engineWaits_congr hop).trans hwaits)
      ((engineDraws_congr hop).trans hdraws) (by rw [Still, hrumble]; exact hstill)
  | engine _ _ _ hp => exact absurd (hp.symm.trans hpow) nofun
  | kicker _ _ hrun => simp [powered, hrun] at hpow

theorem domain_of_powered {s : State} (h : DomainFits s) (hpow : s.supply.monitor ≠ .battery) :
    s.supply.domainValid = true := by
  cases hv : s.supply.domainValid with
  | false => exact absurd (h hv) hpow
  | true => rfl

theorem enterWarn_kept {s : State} (h : GrantKept s) (hrun : s.supply.monitor = .run) : GrantKept (enterWarn s) := by
  have hvalid := domain_of_powered (grantKept_iff.1 h).2.1 (by simp [hrun])
  have hbegun : GrantKept (beginSpell s) := h
  have hdomain : DomainFits (setMonitor .warn (beginSpell s)) := fun hv => absurd (hvalid.symm.trans hv) nofun
  refine endKick_kept_of_monitor hbegun (by simp [powered, setMonitor, changeSupply, beginSpell, hrun]) hdomain ?_
  intro hstill
  obtain ⟨hstage, -, hmode⟩ := grantKept_iff.1 hbegun
  obtain ⟨-, hnone, hnowait⟩ := still_iff.1 hstill
  refine grantKept_iff.2 ⟨hstage, hdomain, ?_⟩
  cases hmode with
  | free hholder hengine hkicker hwaits hdraws _ => exact .free hholder hengine hkicker hwaits hdraws hstill
  | engine hholder hengine hdraws _ hkick =>
    rcases hkick with ⟨hreq, -⟩ | ⟨-, hkw, -⟩
    · exact .engine hholder hengine hdraws rfl (.inl ⟨hreq, hstill⟩)
    · exact absurd (hkw.symm.trans hnowait) nofun
  | kicker _ hkicks => exact absurd (hkicks.symm.trans hnone) nofun

theorem exitWarn_kept {s : State} (h : GrantKept s) (hwarn : s.supply.monitor = .warn) :
    GrantKept (setMonitor .run s) := by
  obtain ⟨hstage, hdomain, hmode⟩ := grantKept_iff.1 h
  have hvalid := domain_of_powered hdomain (by simp [hwarn])
  refine grantKept_iff.2 ⟨hstage, fun hv => absurd (hvalid.symm.trans hv) nofun, ?_⟩
  cases hmode with
  | free hholder hengine hkicker hwaits hdraws hstill => exact .free hholder hengine hkicker hwaits hdraws hstill
  | engine hholder hengine hdraws _ hkick =>
    exact .engine hholder hengine hdraws rfl (hkick.imp_right fun ⟨hreq, hkw, _⟩ => ⟨hreq, hkw, rfl⟩)
  | kicker _ _ hrun => exact absurd (hwarn.symm.trans hrun) nofun

theorem powerUp_kept {straps : Straps} {s : State} (h : GrantKept s) (hstarting : s.supply.monitor = .starting) :
    GrantKept (powerUp straps s) := by
  have hvalid := domain_of_powered (grantKept_iff.1 h).2.1 (by simp [hstarting])
  rw [powerUp_eq]
  exact grantKept_of_quiet rfl rfl (fun hv => absurd (hvalid.symm.trans hv) nofun) rfl rfl rfl

/-- Every move keeps the rule of the grant. -/
theorem Move.grantKept {s t : State} (h : Move s t) (hs : GrantKept s) : GrantKept t := by
  cases h with
  | work h =>
    cases h with
    | bus h => exact h.keeps (fun _ => Iff.rfl) hs
    | sound h => exact h.keeps (fun _ => Iff.rfl) hs
    | save h => exact h.grantKept hs
    | drive h => exact h.grantKept hs
    | time h => exact h.keeps (fun _ => Iff.rfl) hs
  | slot => exact hs
  | commands => exact hs
  | softReset => exact resetBlocks_kept hs
  | resetLine =>
    have hcrst : GrantKept (changeSupply (fun u => { u with crst := true }) s) := hs
    exact resetBlocks_kept hcrst
  | assertReset => exact hs
  | release straps =>
    rw [releaseEffect_eq]
    exact hs
  | dropReset => exact hs
  | attach hvalid =>
    have hbattery := (grantKept_iff.1 hs).2.1 hvalid
    exact changeSupply_kept hs (by simp [powered, hbattery]) rfl rfl ⟨rfl, rfl, rfl⟩ fun _ => rfl
  | enterStarting hbattery hvalid =>
    exact changeSupply_kept hs (by simp [powered, hbattery]) rfl rfl ⟨rfl, rfl, rfl⟩ fun hv =>
      absurd (hvalid.symm.trans hv) nofun
  | abortStart hstarting =>
    exact changeSupply_kept hs (by simp [powered, hstarting]) rfl rfl ⟨rfl, rfl, rfl⟩ fun _ => rfl
  | powerUp straps hstarting => exact powerUp_kept hs hstarting
  | enterWarn hrun => exact enterWarn_kept hs hrun
  | exitWarn hwarn => exact exitWarn_kept hs hwarn
  | fail => exact failFromWarn_kept
  | loseDomain hbattery =>
    exact changeSupply_kept hs (by simp [powered, hbattery]) rfl rfl ⟨rfl, rfl, rfl⟩ fun _ => rfl
  | watch => exact hs

/-- Settles O6: every move, by the mode of the grant in which it begins. -/
theorem grantRuleIsKept : Obligations.GrantRuleIsKept := fun _ _ hs hstep =>
  step_keeps (P := GrantKept) (fun _ _ _ h => h) (fun _ _ h hs => h.grantKept hs) hs hstep

end Sys2Proof.Proofs
end

section
/-! SUPPORT. Every move keeps the memories canonical, the map legal, the time record, frame capture and the edge latches
in range. -/

namespace Sys2Proof.Proofs

open Sys2Proof.Machine Sys2Proof.Safety Sys2Proof.Laws

/-! ## Profile and map -/

/-- The profile's ROM size code and block count are ones that R168 can give. -/
def SizesLegal (p : Profile) : Prop := p.romCode ≤ 6 ∧ (p.blocks = 8 ∨ p.blocks = 16)

theorem sampledProfile_sizes (straps : Straps) (k : ResetKind) : SizesLegal (sampledProfile straps k) := by
  unfold SizesLegal sampledProfile
  split
  next hvalid =>
    have hcode : strapRomCode straps ≠ 7 := by
      simp only [validStraps, Bool.and_eq_true, bne_iff_ne] at hvalid
      exact hvalid.2
    have hbits : strapRomCode straps ≤ 7 := by
      simp only [strapRomCode, bitsOf]
      split <;> split <;> split <;> omega
    refine ⟨by simp only; omega, ?_⟩
    simp only
    split
    · exact .inr rfl
    · exact .inl rfl
  · simp [Profile.fallbackOf]

theorem getElem_loadedMap (p : Nat) (i : Fin 16) : (loadedMap p)[i] = .loaded p i := by
  fin_cases i <;> rfl

theorem loaded_legal {p : Nat} (hp : 0 < p) (i : Nat) : EntryLegal p (.loaded p i) :=
  ⟨fun _ => Nat.mod_lt _ hp, nofun, fun h => absurd rfl h, nofun⟩

theorem pageCount_pos (p : Profile) : 0 < p.pageCount := by
  simp [Profile.pageCount]

/-- A map as a reset loads it is legal. -/
theorem mapKept_of_loaded {s : State} (hsizes : SizesLegal s.profile) (hmap : s.map = loadedMap s.profile.pageCount) :
    MapKept s := by
  refine ⟨hsizes, fun i => ?_⟩
  rw [hmap, getElem_loadedMap]
  exact loaded_legal (pageCount_pos _) _

/-- Every move keeps the map legal. -/
theorem Move.mapKept {s t : State} (h : Move s t) (hs : MapKept s) : MapKept t := by
  cases h with
  | work h =>
    cases h with
    | bus h =>
      cases h with
      | map i e he =>
        obtain ⟨hsizes, hentries⟩ := hs
        refine ⟨hsizes, fun j => ?_⟩
        by_cases hij : j = i
        · subst hij
          simpa using he
        · have hne : i.val ≠ j.val := fun h => hij (Fin.ext h.symm)
          simpa [Vector.getElem_set_ne, hne] using hentries j
      | cause | sound | access => exact hs
    | sound h => exact h.keeps (fun _ => Iff.rfl) hs
    | save h => exact h.keeps (fun _ => Iff.rfl) hs
    | drive h => exact h.keeps (fun _ => Iff.rfl) hs
    | time h => exact h.keeps (fun _ => Iff.rfl) hs
  | softReset =>
    rw [resetBlocks_eq]
    exact mapKept_of_loaded hs.1 rfl
  | resetLine =>
    rw [resetLineEffect, resetBlocks_eq]
    exact hs
  | release straps =>
    rw [releaseEffect_eq]
    exact mapKept_of_loaded (sampledProfile_sizes ..) rfl
  | powerUp straps =>
    rw [powerUp_eq]
    exact mapKept_of_loaded (sampledProfile_sizes ..) rfl
  | enterWarn =>
    rw [Machine.enterWarn, endKick_eq]
    exact hs
  | fail =>
    rw [failFromWarn_eq]
    exact mapKept_of_loaded (by simp [State.reset, Profile.fallbackOf, SizesLegal]) rfl
  | slot | commands | assertReset | dropReset | attach | enterStarting | abortStart | exitWarn | loseDomain | watch =>
    exact hs

/-! ## Memories -/

/-- The SRAM stays, or takes a byte at one position of a block of the profile. -/
def SramWritten (s t : State) : Prop :=
  t.sram = s.sram ∨
    ∃ b p x, b < s.profile.blocks ∧ p < 4096 ∧ t.sram = writeMem sramUnlisted s.sram (sramAddr b p) x

theorem engineRead_sram (o : Option Nat) (p : Nat) (s : State) : (engineRead o p s).sram = s.sram := by
  unfold engineRead
  split <;> rfl

theorem engineRead_profile (o : Option Nat) (p : Nat) (s : State) : (engineRead o p s).profile = s.profile := by
  unfold engineRead
  split <;> rfl

theorem lt_blocks_of_filter {s : State} {o : Option Nat} {b : Nat} (h : o.filter (insideProfile s) = some b) :
    b < s.profile.blocks := by
  have hin := Option.filter_eq_some_iff.1 h
  simpa [insideProfile] using hin.2

theorem engineWrite_written {o : Option Nat} {p : Nat} (x : Byte) (s : State) (hp : p < 4096) :
    SramWritten s (engineWrite o p x s) := by
  unfold engineWrite
  split
  next b hb => exact .inr ⟨b, p, x, lt_blocks_of_filter hb, hp, rfl⟩
  · exact .inl rfl

theorem accessByte_written {f : Flight} (s : State) (hp : f.position < 4096) : SramWritten s (accessByte f s) := by
  unfold accessByte
  split
  · have hwrite := engineWrite_written (o := (engineRead s.dir.slots[f.slot].current f.position s).dir.slots[f.slot].working)
      (engineByte s.dir.slots[f.slot].current f.position s) (engineRead s.dir.slots[f.slot].current f.position s) hp
    unfold SramWritten at hwrite
    rw [engineRead_sram, engineRead_profile] at hwrite
    exact hwrite
  · exact engineWrite_written (o := s.dir.slots[f.slot].working) 0xFF s hp
  · unfold eraseByte
    split
    · exact .inl rfl
    next b hb => exact .inr ⟨b, _, _, lt_blocks_of_filter hb, hp, rfl⟩
  · exact .inl (engineRead_sram ..)
  · exact .inl rfl

theorem markDamage_sram (d : Bool) (n : SlotNo) (s : State) : (markDamage d n s).sram = s.sram := by
  unfold markDamage
  split <;> simp

theorem sram_of_outsideGrant {s t : State} (h : outsideGrant t = outsideGrant s) : t.sram = s.sram :=
  (congrArg (fun u : State => u.sram) h : (outsideGrant t).sram = (outsideGrant s).sram)

/-- The save engine's work writes the SRAM at one position of a block of the profile, or not at all. -/
theorem SaveWork.sram_written {s t : State} (h : SaveWork s t) : SramWritten s t := by
  cases h with
  | land n p x hp =>
    unfold landWrite
    split
    next b hb =>
      unfold landingBlock at hb
      split at hb
      · exact .inr ⟨b, p, x, lt_blocks_of_filter hb, hp, rfl⟩
      · nomatch hb
    · exact .inl rfl
  | access f _ _ hp => exact accessByte_written s hp
  | abandon n =>
    exact .inl (sram_of_outsideGrant (s := cancelOpen n s) (outsideGrant_returnBlock ..))
  | start e rest =>
    refine .inl ?_
    unfold startEntry
    simp only
    split
    · exact sram_of_outsideGrant ((outsideGrant_engineRequest _).trans rfl)
    · rfl
  | openEnd f => exact .inl (markDamage_sram ..)
  | eraseEnd f => exact .inl (sram_of_outsideGrant (by simp [Machine.eraseEnd]))
  | verifyEnd f => exact .inl (markDamage_sram ..)
  | sweepEnd f => exact .inl (markDamage_sram ..)
  | seen | protect | acceptOpen | acceptCommit | acceptErase | acceptVerify | scan | pass => exact .inl rfl

/-- The profile's sizes stay, and so do the memories but the SRAM, which keeps its form. -/
theorem memoryKept_of_sram {s t : State} (hs : MemoryKept s) (hprofile : t.profile = s.profile) (hrom : t.rom = s.rom)
    (hsound : t.sound = s.sound) (hsram : SramWritten s t) : MemoryKept t := by
  obtain ⟨hsizes, hwfrom, hwfsram, hwfsound⟩ := hs
  refine ⟨(hprofile ▸ hsizes : SizesLegal t.profile), hrom ▸ hwfrom, ?_, hsound ▸ hwfsound⟩
  rcases hsram with hsame | ⟨b, p, x, hb, hp, hwrite⟩
  · exact hsame ▸ hwfsram
  · rw [hwrite]
    refine writeMem_wf hwfsram ?_ x
    have hblocks : s.profile.blocks ≤ 16 := by rcases hsizes.2 with h | h <;> omega
    unfold sramAddr Config.blockSize
    omega

/-- Every move keeps the memories canonical. -/
theorem Move.memoryKept {s t : State} (h : Move s t) (hs : MemoryKept s) : MemoryKept t := by
  have hempty (u : Byte) (size : Nat) : Memory.wf u size [] := ⟨.nil, nofun⟩
  obtain ⟨hsizes, hwfrom, hwfsram, hwfsound⟩ := id hs
  cases h with
  | work h =>
    cases h with
    | bus h =>
      cases h with
      | sound a b ha => exact ⟨hsizes, hwfrom, hwfsram, writeMem_wf hwfsound ha b⟩
      | cause | map | access => exact hs
    | sound h => exact h.keeps (fun _ => Iff.rfl) hs
    | save h =>
      have hout := h.outside
      exact memoryKept_of_sram hs (congrArg (fun u => u.1.profile) hout) (congrArg (fun u => u.1.rom) hout)
        (congrArg (fun u => u.1.sound) hout) h.sram_written
    | drive h => exact h.keeps (fun _ => Iff.rfl) hs
    | time h => exact h.keeps (fun _ => Iff.rfl) hs
  | softReset =>
    rw [resetBlocks_eq]
    exact hs
  | resetLine =>
    rw [resetLineEffect, resetBlocks_eq]
    exact hs
  | release straps =>
    rw [releaseEffect_eq]
    exact ⟨sampledProfile_sizes .., hwfrom, hwfsram, hwfsound⟩
  | powerUp straps =>
    rw [powerUp_eq]
    exact ⟨sampledProfile_sizes .., hwfrom, hwfsram, hempty ..⟩
  | enterWarn =>
    rw [Machine.enterWarn, endKick_eq]
    exact hs
  | fail =>
    rw [failFromWarn_eq]
    exact ⟨⟨Nat.zero_le _, .inl rfl⟩, hwfrom, hwfsram, hempty ..⟩
  | loseDomain => exact ⟨hsizes, hwfrom, hempty .., hwfsound⟩
  | slot | commands | assertReset | dropReset | attach | enterStarting | abortStart | exitWarn | watch => exact hs

/-- Settles O4: a move writes the memories one legal byte at a time, and the map one legal entry at a time. -/
theorem memoriesAndMapKeepTheirForm : Obligations.MemoriesAndMapKeepTheirForm := fun _ _ hstep =>
  ⟨fun hs => step_keeps (P := MemoryKept) (fun _ _ _ h => h) (fun _ _ h hs => h.memoryKept hs) hs hstep,
   fun hs => step_keeps (P := MapKept) (fun _ _ _ h => h) (fun _ _ h hs => h.mapKept hs) hs hstep⟩

end Sys2Proof.Proofs
end

section
/-! SUPPORT. Every move keeps the time record, the divider, frame capture and the edge latches. -/

namespace Sys2Proof.Proofs

open Sys2Proof.Machine Sys2Proof.Safety Sys2Proof.Laws

/-! ## Time record and divider -/

theorem calendarKept_iff {s : State} : CalendarKept s ↔ CalLegal s.cal ∧ s.crystal.divider < 512 := by
  simp only [CalendarKept, CalLegal, and_assoc]

theorem attached_cal_legal : CalLegal .attached := by
  simp [CalLegal, Calendar.attached]

theorem poweredUp_legal {c : Calendar} (h : CalLegal c) (sense : Bool) : CalLegal (c.poweredUp sense) := by
  obtain ⟨hday, hsec, hp, hx, hlow, hhigh, hcount, hend, hdown, -⟩ := h
  refine ⟨hday, hsec, hp, hx, hlow, hhigh, hcount, hend, hdown, ?_⟩
  rintro st ⟨⟩
  exact ⟨hday, hsec⟩

theorem poweredDown_legal {c : Calendar} (h : CalLegal c) : CalLegal { c with down := some ⟨c.day, c.sec⟩ } := by
  obtain ⟨hday, hsec, hp, hx, hlow, hhigh, hcount, hend, -, hup⟩ := h
  refine ⟨hday, hsec, hp, hx, hlow, hhigh, hcount, hend, ?_, hup⟩
  rintro st ⟨⟩
  exact ⟨hday, hsec⟩

theorem TimeWork.calendarKept {s t : State} (h : TimeWork s t) (hs : CalendarKept s) : CalendarKept t := by
  rw [calendarKept_iff] at hs ⊢
  obtain ⟨hcal, hdivider⟩ := hs
  cases h with
  | cal c h => exact ⟨h hcal, hdivider⟩
  | crystal c h => exact ⟨hcal, h hdivider⟩
  | cue | evaluate | frame => exact ⟨hcal, hdivider⟩

/-- Every move keeps the time record and the divider in their ranges. -/
theorem Move.calendarKept {s t : State} (h : Move s t) (hs : CalendarKept s) : CalendarKept t := by
  obtain ⟨hcal, hdivider⟩ := calendarKept_iff.1 hs
  cases h with
  | work h =>
    cases h with
    | bus h => exact h.keeps (fun _ => Iff.rfl) hs
    | sound h => exact h.keeps (fun _ => Iff.rfl) hs
    | save h => exact h.keeps (fun _ => Iff.rfl) hs
    | drive h => exact h.keeps (fun _ => Iff.rfl) hs
    | time h => exact h.calendarKept hs
  | softReset =>
    rw [resetBlocks_eq]
    exact hs
  | resetLine =>
    rw [resetLineEffect, resetBlocks_eq]
    exact hs
  | release straps =>
    rw [releaseEffect_eq]
    exact hs
  | powerUp straps =>
    rw [powerUp_eq]
    exact calendarKept_iff.2 ⟨poweredUp_legal hcal _, Nat.zero_lt_succ _⟩
  | enterWarn =>
    rw [Machine.enterWarn, endKick_eq]
    exact hs
  | fail =>
    rw [failFromWarn_eq]
    exact calendarKept_iff.2 ⟨poweredDown_legal hcal, Nat.zero_lt_succ _⟩
  | attach => exact calendarKept_iff.2 ⟨attached_cal_legal, hdivider⟩
  | loseDomain => exact calendarKept_iff.2 ⟨attached_cal_legal, hdivider⟩
  | slot | commands | assertReset | dropReset | enterStarting | abortStart | exitWarn | watch => exact hs

/-! ## Frame capture -/

theorem initial_frame_legal (c : BitVec 16) : FrameLegal (.initial c) := by
  simp [FrameLegal, FrameCapture.initial, FrameCapture.deadline]

theorem TimeWork.frameKept {s t : State} (h : TimeWork s t) (hs : FrameKept s) : FrameKept t := by
  cases h with
  | frame f h => exact h hs
  | cal | crystal | cue | evaluate => exact hs

/-- Every move keeps frame capture in its ranges. -/
theorem Move.frameKept {s t : State} (h : Move s t) (hs : FrameKept s) : FrameKept t := by
  cases h with
  | work h =>
    cases h with
    | bus h => exact h.keeps (fun _ => Iff.rfl) hs
    | sound h => exact h.keeps (fun _ => Iff.rfl) hs
    | save h => exact h.keeps (fun _ => Iff.rfl) hs
    | drive h => exact h.keeps (fun _ => Iff.rfl) hs
    | time h => exact h.frameKept hs
  | softReset =>
    rw [resetBlocks_eq]
    exact initial_frame_legal _
  | resetLine =>
    rw [resetLineEffect, resetBlocks_eq]
    exact initial_frame_legal _
  | release straps =>
    rw [releaseEffect_eq]
    exact hs
  | powerUp straps =>
    rw [powerUp_eq]
    exact initial_frame_legal _
  | enterWarn =>
    rw [Machine.enterWarn, endKick_eq]
    exact hs
  | fail =>
    rw [failFromWarn_eq]
    exact initial_frame_legal _
  | slot | commands | assertReset | dropReset | attach | enterStarting | abortStart | exitWarn | loseDomain | watch =>
    exact hs

/-! ## Edge latches -/

theorem latchesKept_iff_fit {s : State} : LatchesKept s ↔ latchesFit s = true := by
  simp [latchesFit]

theorem latchesFit_setFaultIf (b : Bool) (f : FaultFlag) (s : State) : latchesFit (setFaultIf b f s) = latchesFit s := by
  unfold setFaultIf
  split
  · exact latchesFit_setFault f s
  · rfl

theorem latchesFit_flagSupply (s : State) : latchesFit (flagSupply s) = latchesFit s :=
  (latchesFit_setFaultIf ..).trans (latchesFit_setFaultIf ..)

theorem Work.latchesKept {s t : State} (h : Work s t) (hs : LatchesKept s) : LatchesKept t := by
  rw [latchesKept_iff_fit] at *
  cases h with
  | bus h =>
    cases h with
    | cause u _ hlatch => exact latchesKept_iff_fit.1 (hlatch (latchesKept_iff_fit.2 hs))
    | map | sound | access => exact hs
  | sound h => exact (congrArg Prod.snd h.outside).trans hs
  | save h => exact (congrArg Prod.snd h.outside).trans hs
  | drive h => exact (congrArg Prod.snd h.outside).trans hs
  | time h => exact h.keeps (P := fun u => latchesFit u = true) (fun _ => Iff.rfl) hs

/-- Every move keeps the edge latches under their enables. -/
theorem Move.latchesKept {s t : State} (h : Move s t) (hs : LatchesKept s) : LatchesKept t := by
  cases h with
  | work h => exact h.latchesKept hs
  | softReset => exact (rfl : Latches.clear = Latches.clear.keep 0)
  | resetLine => exact (rfl : Latches.clear = Latches.clear.keep 0)
  | release straps =>
    rw [latchesKept_iff_fit, releaseEffect, latchesFit_flagSupply]
    exact latchesKept_iff_fit.1 hs
  | powerUp straps =>
    rw [latchesKept_iff_fit, Machine.powerUp, latchesFit_flagSupply]
    rfl
  | enterWarn =>
    rw [Machine.enterWarn, endKick_eq]
    exact hs
  | fail => exact (rfl : Latches.clear = Latches.clear.keep 0)
  | slot | commands | assertReset | dropReset | attach | enterStarting | abortStart | exitWarn | loseDomain | watch =>
    exact hs

/-- Settles O7: three properties, each kept by every move. -/
theorem timeFramesAndLatchesKept : Obligations.TimeFramesAndLatchesKept := fun _ _ hstep =>
  ⟨fun hs => step_keeps (P := CalendarKept) (fun _ _ _ h => h) (fun _ _ h hs => h.calendarKept hs) hs hstep,
   fun hs => step_keeps (P := FrameKept) (fun _ _ _ h => h) (fun _ _ h hs => h.frameKept hs) hs hstep,
   fun hs => step_keeps (P := LatchesKept) (fun _ _ _ h => h) (fun _ _ h hs => h.latchesKept hs) hs hstep⟩

end Sys2Proof.Proofs
end

section
/-! SUPPORT. What the surge grant and the rumble drive do to the save engine, said once: a COMMIT's flip, or an ERASE
sent to its FILL; all else they do is to the drive, the cause unit and the grant itself. -/

namespace Sys2Proof.Proofs

open Sys2Proof.Machine Sys2Proof.Safety Sys2Proof.Laws

/-- One step of what the grant and the drive do. -/
inductive DriveStep (s : State) : State → Prop
  | supply (u : Supply) (h : unheld u = unheld s.supply) : DriveStep s { s with supply := u }
  | flip (f : Flight) (hf : s.engine.flight = some f) (hkind : f.kind = .commit) :
      DriveStep s (commitFlip f.slot (setFlight none s))
  | fill (f : Flight) (hf : s.engine.flight = some f) (hkind : f.kind = .erase) :
      DriveStep s (setFlight (some { f with stage := .fill }) s)
  | rumble (r : Rumble) (hqueue : s.rumble.queue.length ≤ 4 → r.queue.length ≤ 4) : DriveStep s { s with rumble := r }
  | cause (c : CauseUnit) : DriveStep s { s with cause := c }

/-- A run of such steps. -/
abbrev DriveSteps : State → State → Prop := Relation.ReflTransGen DriveStep

section
variable {s t : State}

theorem DriveStep.steps (h : DriveStep s t) : DriveSteps s t := .single h

/-! ## The grant and the kick -/

theorem steps_grant (h : SurgeHolder) (e k : Bool) (s : State) :
    DriveSteps s { s with supply := { s.supply with holder := h, engineReq := e, kickerReq := k } } :=
  (DriveStep.supply { s.supply with holder := h, engineReq := e, kickerReq := k } rfl).steps

theorem steps_setHolder (h : SurgeHolder) (s : State) : DriveSteps s (setHolder h s) :=
  steps_grant h s.supply.engineReq s.supply.kickerReq s

theorem steps_rumble (r : Rumble) (s : State) (h : r.queue = s.rumble.queue) : DriveSteps s { s with rumble := r } :=
  (DriveStep.rumble r fun hs => h ▸ hs).steps

theorem steps_setKick (k : Kick) (s : State) : DriveSteps s (setKick k s) := steps_rumble _ s rfl

theorem steps_setActive (o : Option Active) (s : State) : DriveSteps s (setActive o s) := steps_rumble _ s rfl

theorem steps_giveKicker (s : State) : DriveSteps s (giveKicker s) :=
  (steps_grant .kicker s.supply.engineReq false s).trans (steps_setKick ..)

theorem steps_offerKicker (s : State) : DriveSteps s (offerKicker s) := by
  unfold offerKicker
  split
  · exact steps_giveKicker s
  · exact .refl

theorem steps_giveEngine (s : State) : DriveSteps s (giveEngine s) := by
  have hreq : DriveSteps s { s with supply := { s.supply with engineReq := false } } :=
    steps_grant s.supply.holder false s.supply.kickerReq s
  unfold giveEngine
  simp only
  split
  next f hf =>
    split
    next hkind =>
      exact ((hreq.tail (.flip f hf hkind)).trans (steps_setHolder ..)).trans (steps_offerKicker _)
    next hkind => exact (hreq.tail (.fill f hf hkind)).trans (steps_setHolder ..)
    · exact hreq
    · exact hreq
  · exact hreq

theorem steps_releaseGrant (s : State) : DriveSteps s (releaseGrant s) := by
  unfold releaseGrant
  simp only
  split
  · exact (steps_setHolder ..).trans (steps_giveEngine _)
  · exact (steps_setHolder ..).trans (steps_offerKicker _)

theorem steps_engineRequest (s : State) : DriveSteps s (engineRequest s) := by
  unfold engineRequest
  split
  · exact steps_giveEngine s
  · exact steps_grant s.supply.holder true s.supply.kickerReq s

theorem steps_kickerRequest (s : State) : DriveSteps s (kickerRequest s) := by
  unfold kickerRequest
  split
  · exact steps_giveKicker s
  · exact steps_grant s.supply.holder s.supply.engineReq true s

theorem steps_endKick (s : State) : DriveSteps s (endKick s) := by
  unfold endKick
  split
  · split
    · exact .refl
    · exact (steps_grant s.supply.holder s.supply.engineReq false s).trans (steps_setKick ..)
    · split
      · exact (steps_setKick ..).trans (steps_releaseGrant _)
      · exact steps_setKick ..
  · exact .refl

/-! ## Requests -/

theorem steps_kickRuleIf (b : Bool) (s : State) : DriveSteps s (kickRuleIf b s) := by
  unfold kickRuleIf
  split
  · split
    · exact (steps_setKick ..).trans (steps_kickerRequest _)
    · exact .refl
  · exact .refl

theorem steps_startRequest (r : Request) (s : State) : DriveSteps s (startRequest r s) := by
  unfold startRequest kickRule
  exact (steps_setActive ..).trans (steps_kickRuleIf ..)

theorem steps_startHead (s : State) : DriveSteps s (startHead s) := by
  unfold startHead
  split
  next r rest hq =>
    refine .trans (DriveStep.rumble { s.rumble with queue := rest } fun h => ?_).steps (steps_startRequest ..)
    rw [hq] at h
    exact (Nat.le_succ _).trans h
  · exact .refl

theorem steps_latchRumbleEnd (s : State) : DriveSteps s (latchRumbleEnd s) := by
  unfold latchRumbleEnd
  split
  · exact (DriveStep.cause _).steps
  · exact .refl

theorem steps_closeRequest (e : EndReason) (s : State) : DriveSteps s (closeRequest e s) := by
  have hclosed : DriveSteps s (setActive none (endKick { s with rumble := { s.rumble with lastEnd := e } })) :=
    ((steps_rumble _ s (by rfl)).trans (steps_endKick _)).trans (steps_setActive ..)
  unfold closeRequest
  simp only
  split
  · exact hclosed
  · exact hclosed.trans (steps_latchRumbleEnd _)

theorem steps_endRequest (e : EndReason) (s : State) : DriveSteps s (endRequest e s) :=
  (steps_closeRequest ..).trans (steps_startHead _)

theorem length_insertRequest (r : Request) (l : List Request) : (insertRequest r l).length = l.length + 1 := by
  induction l with
  | nil => rfl
  | cons q l ih =>
    unfold insertRequest
    split
    · rfl
    · simp [ih]

/-- A request that is not refused and does not preempt finds room in the queue. -/
theorem room_of_not_refused {r : Request} {s : State} {a : Active} (h : requestRefusal r s = none)
    (ha : s.rumble.active = some a) (hlow : ¬a.request.priority < r.priority) : s.rumble.queue.length < 4 := by
  unfold requestRefusal at h
  split at h
  · nomatch h
  · split at h
    · nomatch h
    · split at h
      · nomatch h
      · rw [ha] at h
        simp only at h
        split at h
        · nomatch h
        next hroom =>
          simp only [not_and, Config.rumbleQueueSize] at hroom
          have := hroom (by omega)
          omega

theorem steps_decideRequest (r : Request) (s : State) : DriveSteps s (decideRequest r s).2 := by
  unfold decideRequest
  split
  · exact .refl
  next hgo =>
    unfold takeRequest
    split
    · exact steps_startRequest ..
    next a ha =>
      split
      · exact (steps_closeRequest ..).trans (steps_startRequest ..)
      next hlow =>
        refine (DriveStep.rumble _ fun _ => ?_).steps
        have hroom := room_of_not_refused hgo ha hlow
        simp only [length_insertRequest]
        omega

/-! ## The rumble tick -/

theorem steps_warmTick (s : State) : DriveSteps s (warmTick s) := by
  unfold warmTick
  simp only
  split
  · exact (steps_rumble _ s (by rfl)).trans (steps_endKick _)
  · exact steps_rumble _ s rfl

theorem steps_kickTick (s : State) : DriveSteps s (kickTick s) := by
  unfold kickTick
  split
  · split
    · split
      · exact steps_endKick s
      · exact steps_setKick ..
    · exact .refl
    · exact .refl
  · exact .refl

theorem steps_enterStep (i : Nat) (s : State) : DriveSteps s (enterStep i s) := by
  unfold enterStep
  split
  · simp only
    split
    · exact steps_setActive ..
    · exact (steps_setActive ..).trans (steps_endKick _)
  · exact .refl

theorem steps_stepTick (b : Bool) (s : State) : DriveSteps s (stepTick b s) := by
  unfold stepTick
  split
  · split
    · exact .refl
    · split
      · unfold advanceStep
        split
        · simp only
          split
          · exact steps_enterStep ..
          · split
            · exact steps_endRequest ..
            · exact steps_enterStep ..
        · exact .refl
      · exact steps_setActive ..
  · exact .refl

theorem steps_countAllowance (s : State) : DriveSteps s (countAllowance s) := by
  unfold countAllowance
  split
  · split
    · exact steps_setActive ..
    · exact .refl
  · exact .refl

theorem steps_driveTick (s : State) : DriveSteps s (driveTick s) := by
  have hcount : DriveSteps s (countTick s) := by
    unfold countTick
    simp only
    split
    · exact (steps_warmTick s).trans (steps_endRequest ..)
    · exact (((steps_warmTick s).trans (steps_countAllowance _)).trans (steps_kickTick _)).trans (steps_stepTick ..)
  exact hcount.trans (steps_kickRuleIf ..)

theorem steps_latchStall (s : State) : DriveSteps s (latchStall s) := by
  have hflag : DriveSteps s (setFault .stall s) := by
    rw [setFault_eq]
    exact (DriveStep.cause _).steps
  have hempty (u : State) : DriveSteps u { u with rumble := { u.rumble with queue := [], stallTimer := 0 } } :=
    (DriveStep.rumble { u.rumble with queue := [], stallTimer := 0 } fun _ => Nat.zero_le 4).steps
  exact (hflag.trans (hempty _)).trans (steps_closeRequest .stall _)

/-- The drive's work is a run of these steps. -/
theorem DriveWork.steps (h : DriveWork s t) : DriveSteps s t := by
  cases h with
  | decide => exact steps_decideRequest ..
  | clearQueue => exact (DriveStep.rumble { s.rumble with queue := [] } fun _ => Nat.zero_le 4).steps
  | stop => exact steps_endRequest ..
  | renew => exact steps_setActive ..
  | pattern => exact steps_rumble _ s rfl
  | tick => exact steps_driveTick s
  | stallInput => exact steps_rumble _ s rfl
  | latchStall => exact steps_latchStall s
  | pwm => exact steps_rumble _ s rfl

/-- What every step keeps, a run keeps. -/
theorem DriveSteps.keeps {P : State → Prop} (h : DriveSteps s t) (hstep : ∀ u v, DriveStep u v → P u → P v)
    (hs : P s) : P t := by
  induction h with
  | refl => exact hs
  | tail _ h ih => exact hstep _ _ h ih

end

/-! ## Sizes -/

/-- The pool's rule in terms of the pool and the block count. -/
def PoolFits (n : Nat) (l : List Nat) : Prop := l.Pairwise (fun a b => a < b) ∧ ∀ b ∈ l, b < n

/-- The save engine's queue and sweep stay inside their sizes. -/
def EngineFits (e : Engine) : Prop :=
  e.queue.length ≤ 4 ∧ e.sweep ≤ 8 ∧ ∀ f ∈ e.flight, f.bySweep = true → f.kind = .verify ∧ e.sweep < 8

theorem boundsKept_iff {s : State} :
    BoundsKept s ↔ SizesLegal s.profile ∧ PoolFits s.profile.blocks s.dir.pool ∧ s.cmd.fifo.length ≤ 64 ∧
      s.cmd.reply.length ≤ 64 ∧ EngineFits s.engine ∧ s.rumble.queue.length ≤ 4 := by
  simp only [BoundsKept, SizesLegal, PoolLegal, PoolFits, EngineFits, and_assoc]

theorem poolFits_tail {n : Nat} {l : List Nat} (h : PoolFits n l) : PoolFits n l.tail :=
  ⟨h.1.sublist (List.tail_sublist l), fun b hb => h.2 b (List.mem_of_mem_tail hb)⟩

theorem poolFits_filter {n : Nat} (p : Nat → Bool) : PoolFits n ((List.range n).filter p) :=
  ⟨List.pairwise_lt_range.filter p, fun _ hb => List.mem_range.1 (List.mem_filter.1 hb).1⟩

theorem poolFits_returnBlock {n : Nat} {o : Option Nat} {s : State} (hn : s.profile.blocks = n)
    (h : PoolFits n s.dir.pool) : PoolFits n (returnBlock o s).dir.pool := by
  subst hn
  unfold returnBlock
  split
  · split
    next hb =>
      refine ⟨insertSorted_pairwise h.1, fun c hc => ?_⟩
      rcases mem_insertSorted.1 hc with rfl | hc
      · exact hb
      · exact h.2 c hc
    · exact h
  · exact h

theorem poolFits_returnReverted {n : Nat} {old s : State} (hn : s.profile.blocks = n) (h : PoolFits n s.dir.pool) :
    PoolFits n (returnReverted old s).dir.pool := by
  unfold returnReverted
  generalize allSlots = l
  induction l generalizing s with
  | nil => exact h
  | cons m l ih =>
    rw [List.foldl_cons]
    split
    · exact ih (by simpa using hn) (poolFits_returnBlock hn h)
    · exact ih hn h

theorem DriveStep.boundsKept {s t : State} (h : DriveStep s t) (hs : BoundsKept s) : BoundsKept t := by
  rw [boundsKept_iff] at hs ⊢
  obtain ⟨hsizes, hpool, hfifo, hreply, ⟨hq, hsweep, hflight⟩, hrumble⟩ := hs
  cases h with
  | supply | cause => exact ⟨hsizes, hpool, hfifo, hreply, ⟨hq, hsweep, hflight⟩, hrumble⟩
  | flip f =>
    rw [commitFlip, returnBlock_eq]
    exact ⟨hsizes, poolFits_returnBlock rfl hpool, hfifo, hreply, ⟨hq, hsweep, nofun⟩, hrumble⟩
  | fill f hf =>
    refine ⟨hsizes, hpool, hfifo, hreply, ⟨hq, hsweep, ?_⟩, hrumble⟩
    rintro g ⟨⟩
    exact hflight f hf
  | rumble r hr => exact ⟨hsizes, hpool, hfifo, hreply, ⟨hq, hsweep, hflight⟩, hr hrumble⟩

/-! ## The save engine's work -/

theorem openRefusal_eq_none {n : SlotNo} {s : State} (h : openRefusal n s = none) :
    (s.dir.slots[n].state = .empty ∨ s.dir.slots[n].state = .valid) ∧ outOfProfile s s.dir.slots[n] = false ∧
      s.dir.slots[n].verifyPending = false ∧ queueFull s = false ∧ s.dir.pool ≠ [] := by
  simp only [openRefusal] at h
  repeat' split at h
  all_goals simp_all
  tauto

theorem eraseRefusal_eq_none {n : SlotNo} {s : State} (h : eraseRefusal n s = none) :
    s.dir.slots[n].state = .valid ∧ s.dir.slots[n].verifyPending = false ∧ queueFull s = false := by
  simp only [eraseRefusal] at h
  repeat' split at h
  all_goals simp_all

theorem verifyRefusal_eq_none {n : SlotNo} {s : State} (h : verifyRefusal n s = none) :
    s.dir.slots[n].state = .valid ∧ s.dir.slots[n].verifyPending = false ∧ queueFull s = false := by
  simp only [verifyRefusal] at h
  repeat' split at h
  all_goals simp_all

/-- An entry starts as the operation in flight; what follows is the grant's. -/
theorem steps_startEntry (e : QueueEntry) (s : State) :
    DriveSteps (setFlight (some ⟨e.kind, e.slot, firstStage e.kind s.dir.slots[e.slot], 0, ⟨0, 0⟩, false⟩) s)
      (startEntry e s) := by
  unfold startEntry
  simp only
  split
  · exact steps_engineRequest _
  · exact .refl

/-- An ERASE flips and ends; what follows is the grant's. -/
theorem steps_eraseEnd (f : Flight) (s : State) :
    DriveSteps (setFlight none (eraseFlip f.slot s)) (eraseEnd f s) :=
  steps_releaseGrant _

theorem engineRead_eq (o : Option Nat) (p : Nat) (s : State) :
    engineRead o p s = { s with saveAccess := (engineRead o p s).saveAccess } := by
  unfold engineRead
  split <;> rfl

theorem engineWrite_eq (o : Option Nat) (p : Nat) (x : Byte) (s : State) :
    engineWrite o p x s =
      { s with sram := (engineWrite o p x s).sram, saveAccess := (engineWrite o p x s).saveAccess } := by
  unfold engineWrite
  split <;> rfl

/-- The byte that an OPEN writes at its position. -/
def openData (f : Flight) (s : State) : Byte :=
  if f.stage = .copy then engineByte s.dir.slots[f.slot].current f.position s else 0xFF

/-- What an access of an OPEN leaves. -/
theorem accessByte_open {f : Flight} {s : State} (hkind : f.kind = .open) (hst : f.stage = .copy ∨ f.stage = .fill) :
    accessByte f s =
      { s with
        sram := (engineWrite s.dir.slots[f.slot].working f.position (openData f s) s).sram,
        saveAccess := (accessByte f s).saveAccess,
        dir := (setSlot f.slot { s.dir.slots[f.slot] with workCheck := some (f.check.add f.position (openData f s)) } s).dir,
        engine := { s.engine with
          flight := some { f with position := f.position + 1, check := f.check.add f.position (openData f s) } } } := by
  have hread : ∀ a : Option SaveAccess, ∀ x : Byte,
      (engineWrite s.dir.slots[f.slot].working f.position x { s with saveAccess := a }).sram =
        (engineWrite s.dir.slots[f.slot].working f.position x s).sram := by
    intro a x
    unfold engineWrite
    simp only [show insideProfile { s with saveAccess := a } = insideProfile s from rfl]
    split <;> rfl
  rcases hst with hst | hst
  · have hdata : openData f s = engineByte s.dir.slots[f.slot].current f.position s := if_pos hst
    simp only [accessByte, hkind, hst, hdata, openByte]
    rw [engineWrite_eq, engineRead_eq]
    simp only [hread]
    rfl
  · have hdata : openData f s = 0xFF := if_neg (by simp [hst])
    simp only [accessByte, hkind, hst, hdata, openByte]
    rw [engineWrite_eq]
    rfl

/-- An OPEN has no access in another stage. -/
theorem accessByte_idle {f : Flight} {s : State} (hkind : f.kind = .open) (hst : ¬(f.stage = .copy ∨ f.stage = .fill)) :
    accessByte f s = s := by
  cases hstage : f.stage <;> simp_all [accessByte]

theorem add_legal (c : Check) (p : Nat) (b : Byte) : CheckLegal (c.add p b) := by
  unfold CheckLegal Check.add
  have h1 : 0 < 251 := by decide
  exact ⟨Nat.le_of_lt_succ (Nat.mod_lt _ h1), Nat.le_of_lt_succ (Nat.mod_lt _ h1)⟩

/-- The operation in flight after an access that is no OPEN's: of the same kind and slot, in a stage of its kind, at
most one position further. -/
structure Moved (f g : Flight) : Prop where
  kind : g.kind = f.kind
  slot : g.slot = f.slot
  sweep : g.bySweep = f.bySweep
  stage : g.stage = f.stage ∨ f.kind = .erase ∧ g.stage = .flip
  position : g.position ≤ f.position + 1
  check : CheckLegal f.check → CheckLegal g.check

/-- What an access that is no OPEN's leaves: the directory. -/
theorem accessByte_other {f : Flight} {s : State} (hf : s.engine.flight = some f) (hkind : f.kind ≠ .open) :
    ∃ g, accessByte f s =
        { s with sram := (accessByte f s).sram, saveAccess := (accessByte f s).saveAccess,
                 engine := { s.engine with flight := some g } } ∧ Moved f g := by
  unfold accessByte
  split
  next h _ => exact absurd h hkind
  next h _ => exact absurd h hkind
  next herase hfill =>
    unfold eraseByte
    split
    · exact ⟨_, rfl, rfl, rfl, rfl, .inr ⟨herase, rfl⟩, Nat.le_succ _, fun h => h⟩
    · refine ⟨_, rfl, rfl, rfl, rfl, ?_, Nat.le_refl _, fun h => h⟩
      simp only
      split
      · exact .inr ⟨herase, rfl⟩
      · exact .inl hfill.symm
  · unfold scanByte
    simp only
    rw [engineRead_eq]
    exact ⟨_, rfl, rfl, rfl, rfl, .inl rfl, Nat.le_refl _, fun _ => add_legal ..⟩
  · refine ⟨f, ?_, rfl, rfl, rfl, .inl rfl, Nat.le_succ _, fun h => h⟩
    rw [← hf]

theorem EngineFits.withFlight {e : Engine} {o : Option Flight} (h : EngineFits e)
    (hsweep : ∀ g ∈ o, g.bySweep = true → g.kind = .verify ∧ e.sweep < 8) : EngineFits { e with flight := o } :=
  ⟨h.1, h.2.1, hsweep⟩

theorem EngineFits.enqueued {s : State} (h : EngineFits s.engine) (hroom : queueFull s = false) (e : QueueEntry) :
    EngineFits { s.engine with queue := s.engine.queue ++ [e] } := by
  refine ⟨?_, h.2⟩
  have hroom : s.engine.queue.length < 4 := Nat.lt_of_not_le (of_decide_eq_false hroom)
  simpa using hroom

theorem sweepDue_iff {s : State} :
    sweepDue s = true ↔ engineIdle s = true ∧ s.engine.queue = [] ∧ s.engine.sweep < 8 := by
  simp [sweepDue, and_assoc]

theorem markDamage_pool (d : Bool) (n : SlotNo) (s : State) : (markDamage d n s).dir.pool = s.dir.pool := by
  unfold markDamage
  split
  · rw [setFault_eq]
    rfl
  · rfl

theorem openEnd_engine (f : Flight) (s : State) : (openEnd f s).engine = { s.engine with flight := none } := by
  simp [openEnd, setFlight, (markDamage_same _ f.slot s).1]

theorem verifyEnd_engine (f : Flight) (s : State) : (verifyEnd f s).engine = { s.engine with flight := none } := by
  simp [verifyEnd, setFlight, (markDamage_same _ f.slot s).1]

theorem sweepEnd_engine (f : Flight) (s : State) :
    (sweepEnd f s).engine = { s.engine with flight := none, sweep := s.engine.sweep + 1 } := by
  simp [sweepEnd, advanceSweep, setFlight, (markDamage_same _ f.slot s).1]

/-- The save engine's work keeps the pool, the queue and the sweep inside their sizes. -/
theorem SaveWork.boundsKept {s t : State} (h : SaveWork s t) (hs : BoundsKept s) : BoundsKept t := by
  obtain ⟨hsizes, hpool, hfifo, hreply, hengine, hrumble⟩ := boundsKept_iff.1 hs
  have hout := h.outside
  have hkept (hpool' : PoolFits s.profile.blocks t.dir.pool) (hengine' : EngineFits t.engine) : BoundsKept t := by
    have hprofile : t.profile = s.profile := congrArg (fun u => u.1.profile) hout
    have hcmd : t.cmd = s.cmd := congrArg (fun u => u.1.cmd) hout
    have hqueue : t.rumble.queue = s.rumble.queue := congrArg (fun u => u.1.rumble.queue) hout
    rw [boundsKept_iff, hprofile, hcmd, hqueue]
    exact ⟨hsizes, hpool', hfifo, hreply, hengine', hrumble⟩
  cases h with
  | seen | protect => exact hkept hpool hengine
  | land n p x =>
    have hsame : (landWrite n p x s).dir.pool = s.dir.pool ∧ (landWrite n p x s).engine = s.engine := by
      unfold landWrite
      split <;> exact ⟨rfl, rfl⟩
    exact hkept (hsame.1 ▸ hpool) (hsame.2 ▸ hengine)
  | acceptOpen n _ hgo =>
    obtain ⟨-, -, -, hroom, -⟩ := openRefusal_eq_none hgo
    exact hkept (poolFits_tail hpool) (hengine.enqueued hroom _)
  | acceptCommit n _ _ hroom => exact hkept hpool (hengine.enqueued hroom _)
  | abandon n =>
    obtain ⟨hq, hsweep, hflight⟩ := hengine
    refine hkept ?_ ?_
    · exact poolFits_returnBlock (n := s.profile.blocks) rfl hpool
    · rw [show (closeWindow (dropWork n (cancelOpen n s))).engine = (cancelOpen n s).engine by simp [dropWork]]
      exact ⟨(List.length_filter_le ..).trans hq, hsweep, fun f hf => hflight f (Option.filter_eq_some_iff.1 hf).1⟩
  | acceptErase n _ hgo =>
    obtain ⟨-, -, hroom⟩ := eraseRefusal_eq_none hgo
    exact hkept hpool (hengine.enqueued hroom _)
  | acceptVerify n _ hgo =>
    obtain ⟨-, -, hroom⟩ := verifyRefusal_eq_none hgo
    exact hkept hpool (hengine.enqueued hroom _)
  | start e rest _ hq =>
    refine (steps_startEntry e _).keeps (fun _ _ h => h.boundsKept) (boundsKept_iff.2 ?_)
    obtain ⟨hlength, hsweep, -⟩ := hengine
    rw [hq] at hlength
    exact ⟨hsizes, hpool, hfifo, hreply, ⟨(Nat.le_succ _).trans hlength, hsweep, by rintro g ⟨⟩; exact nofun⟩, hrumble⟩
  | access f hf =>
    have hflight := hengine.2.2 f hf
    by_cases hkind : f.kind = .open
    · by_cases hst : f.stage = .copy ∨ f.stage = .fill
      · rw [accessByte_open hkind hst] at hkept ⊢
        refine hkept hpool (hengine.withFlight ?_)
        rintro g ⟨⟩
        exact hflight
      · rw [accessByte_idle hkind hst]
        exact hs
    · obtain ⟨g, heq, hmoved⟩ := accessByte_other hf hkind
      rw [heq] at hkept ⊢
      refine hkept hpool (hengine.withFlight ?_)
      rintro _ ⟨⟩
      rw [hmoved.kind, hmoved.sweep]
      exact hflight
  | openEnd f =>
    refine hkept ?_ ?_
    · exact (markDamage_pool _ f.slot s).symm ▸ hpool
    · exact openEnd_engine f s ▸ hengine.withFlight nofun
  | eraseEnd f =>
    refine (steps_eraseEnd f s).keeps (fun _ _ h => h.boundsKept) (boundsKept_iff.2 ?_)
    rw [eraseFlip, returnBlock_eq]
    exact ⟨hsizes, poolFits_returnBlock (n := s.profile.blocks) rfl hpool, hfifo, hreply, hengine.withFlight nofun, hrumble⟩
  | verifyEnd f =>
    refine hkept ?_ ?_
    · exact (markDamage_pool _ f.slot s).symm ▸ hpool
    · exact verifyEnd_engine f s ▸ hengine.withFlight nofun
  | scan n _ hdue =>
    obtain ⟨-, -, hsweep⟩ := sweepDue_iff.1 hdue
    refine hkept hpool (hengine.withFlight ?_)
    rintro g ⟨⟩
    exact fun _ => ⟨rfl, hsweep⟩
  | pass hdue =>
    obtain ⟨hidle, -, hsweep⟩ := sweepDue_iff.1 hdue
    obtain ⟨hnone, -⟩ := flight_none_of_idle hidle
    exact hkept hpool ⟨hengine.1, hsweep, fun f hf => nomatch hnone.symm.trans hf⟩
  | sweepEnd f hf _ _ hsweep =>
    obtain ⟨hq, -, hflight⟩ := hengine
    refine hkept ?_ ?_
    · exact (markDamage_pool _ f.slot s).symm ▸ hpool
    · have hlow := (hflight f hf hsweep).2
      rw [sweepEnd_engine]
      exact ⟨hq, hlow, nofun⟩

theorem resetBlocks_bounds {s : State} (hs : BoundsKept s) : BoundsKept (resetBlocks s) := by
  obtain ⟨hsizes, hpool, hfifo, hreply, ⟨-, -, hflight⟩, hrumble⟩ := boundsKept_iff.1 hs
  have hflown : BoundsKept (resetSequencer (resetSound (engineReset s))) := by
    rw [engineReset_eq]
    refine boundsKept_iff.2 ⟨hsizes, poolFits_returnReverted rfl hpool, hfifo, hreply, ?_, hrumble⟩
    refine ⟨Nat.zero_le _, Nat.le_refl _, fun f hf hsweep => ?_⟩
    obtain ⟨hf, hgoes⟩ := Option.filter_eq_some_iff.1 hf
    simp [survivesReset, (hflight f hf hsweep).1] at hgoes
  have hkick := (steps_endKick _).keeps (fun _ _ h => h.boundsKept) hflown
  exact (DriveStep.rumble (endKick _).rumble.restarted fun _ => Nat.zero_le 4).boundsKept hkick

/-- Every move keeps FIFOs, queues, pool and sweep inside their sizes. -/
theorem Move.boundsKept {s t : State} (h : Move s t) (hs : BoundsKept s) : BoundsKept t := by
  obtain ⟨hsizes, hpool, hfifo, hreply, hengine, hrumble⟩ := boundsKept_iff.1 hs
  have hoff : EngineFits .off := ⟨Nat.zero_le _, Nat.le_refl _, nofun⟩
  have hnone : (0 : Nat) ≤ 64 := Nat.zero_le _
  cases h with
  | work h =>
    cases h with
    | bus h => exact h.keeps (fun _ => Iff.rfl) hs
    | sound h => exact h.keeps (fun _ => Iff.rfl) hs
    | save h => exact h.boundsKept hs
    | drive h => exact h.steps.keeps (fun _ _ h => h.boundsKept) hs
    | time h => exact h.keeps (fun _ => Iff.rfl) hs
  | commands u hf hr => exact boundsKept_iff.2 ⟨hsizes, hpool, hf hfifo, hr hs, hengine, hrumble⟩
  | softReset =>
    obtain ⟨-, hpool, -, -, hengine, hrumble⟩ := boundsKept_iff.1 (resetBlocks_bounds hs)
    rw [show (resetBlocks s).profile = s.profile by rw [resetBlocks_eq]; rfl] at hpool
    exact boundsKept_iff.2 ⟨hsizes, hpool, hnone, hnone, hengine, hrumble⟩
  | resetLine =>
    obtain ⟨hsizes, hpool, -, -, hengine, hrumble⟩ :=
      boundsKept_iff.1 (resetBlocks_bounds (s := changeSupply (fun u => { u with crst := true }) s) hs)
    exact boundsKept_iff.2 ⟨hsizes, hpool, hnone, hnone, hengine, hrumble⟩
  | release straps =>
    rw [releaseEffect_eq]
    exact boundsKept_iff.2 ⟨sampledProfile_sizes .., poolFits_filter _, hfifo, hreply, hengine, hrumble⟩
  | powerUp straps =>
    rw [powerUp_eq]
    exact boundsKept_iff.2 ⟨sampledProfile_sizes .., poolFits_filter _, hnone, hnone,
      ⟨Nat.zero_le _, Nat.zero_le _, nofun⟩, Nat.zero_le _⟩
  | enterWarn => exact (steps_endKick _).keeps (fun _ _ h => h.boundsKept) hs
  | fail =>
    rw [failFromWarn_eq]
    exact boundsKept_iff.2 ⟨⟨Nat.zero_le _, .inl rfl⟩, ⟨.nil, nofun⟩, hnone, hnone, hoff, Nat.zero_le _⟩
  | slot | assertReset | dropReset | attach | enterStarting | abortStart | exitWarn | loseDomain | watch => exact hs

/-- Settles O5: a move lengthens a queue only where it has room, and the pool only by a block of the profile. -/
theorem queuesStayInBounds : Obligations.QueuesStayInBounds := fun _ _ hs hstep =>
  step_keeps (P := BoundsKept) (fun _ _ _ h => h) (fun _ _ h hs => h.boundsKept hs) hs hstep

end Sys2Proof.Proofs
end

section
/-! SUPPORT. The directory's property does not say that an unpowered slot has no verify-pending mark, and CONSOLE
POWER-UP keeps the mark with no VERIFY standing: a state with such a mark in STARTING refutes that steps keep it. -/

namespace Sys2Proof.Proofs

open Sys2Proof.Machine Sys2Proof.Safety Sys2Proof.Laws

/-- Slot 0 is empty and has its verify-pending mark set. -/
def markedSlot : SlotRecord := { SlotRecord.attached with verifyPending := true }

/-- In STARTING, with a verify-pending mark left in slot 0, and the power-up due. -/
def markedStarting : State :=
  { State.reset with
    dir := { State.reset.dir with slots := State.reset.dir.slots.set 0 markedSlot },
    supply := { State.reset.supply with monitor := .starting },
    pending := [.consolePowerUp 0] }

/-- What the power-up makes of it. -/
def markedRunning : State := powerUp 0 { markedStarting with pending := [] }

theorem step_markedStarting : step markedStarting = .next markedRunning := rfl

theorem markedStarting_slot (n : SlotNo) :
    markedStarting.dir.slots[n] = markedSlot ∨ markedStarting.dir.slots[n] = .attached := by
  fin_cases n
  · exact .inl rfl
  all_goals exact .inr rfl

/-- Nothing but the mark distinguishes a slot of this state from one of BATTERY ATTACH. -/
theorem markedStarting_fields (n : SlotNo) :
    markedStarting.dir.slots[n].state = .empty ∧ markedStarting.dir.slots[n].working = none ∧
      SlotLegal markedStarting.dir.slots[n] := by
  rcases markedStarting_slot n with h | h <;> rw [h] <;> refine ⟨rfl, rfl, ?_⟩ <;>
    simp [SlotLegal, markedSlot, SlotRecord.attached, SlotRecord.unsaved]

theorem markedStarting_directory : DirectoryKept markedStarting := by
  have hslot := markedStarting_fields
  refine ⟨⟨by decide, .inl rfl⟩, rfl, fun n => (hslot n).2.2, by decide, by decide, ?_, nofun⟩
  intro n h
  rcases h with h | h <;> exact nomatch (hslot n).1.symm.trans h

theorem markedStarting_saves : SavesKept markedStarting := by
  have hslot := markedStarting_fields
  refine ⟨⟨⟨by decide, .inl rfl⟩, ⟨.nil, nofun⟩, ⟨.nil, nofun⟩, ⟨.nil, nofun⟩⟩, markedStarting_directory, ?_, ?_, nofun⟩
  · intro n h
    exact nomatch (hslot n).1.symm.trans h
  · intro n h
    rcases h with h | h <;> exact nomatch (hslot n).1.symm.trans h

/-- After the power-up the mark stands with no VERIFY behind it. -/
theorem not_engineKept_markedRunning : ¬ EngineKept markedRunning := by
  rintro ⟨-, -, -, hcover, -⟩
  obtain ⟨-, -, -, hverify⟩ := hcover rfl 0
  have hnone : standingOps markedRunning = [] := rfl
  exact absurd (hnone ▸ hverify rfl) nofun

/-- Refutes O11: CONSOLE POWER-UP from STARTING with a verify-pending mark in a slot gives RUN with the mark and no
VERIFY standing for the slot. -/
theorem not_saveBlocksAreAccounted : ¬ Obligations.SaveBlocksAreAccounted := fun h =>
  have hkept : DirectoryKept markedRunning := h _ _ markedStarting_directory step_markedStarting
  not_engineKept_markedRunning hkept.2.2.2.2.1

/-- Refutes O12: the directory's property is part of this one, and the same power-up breaks it. -/
theorem not_workingChecksStayTrue : ¬ Obligations.WorkingChecksStayTrue := fun h =>
  have hkept : SavesKept markedRunning := h _ _ markedStarting_saves step_markedStarting
  not_engineKept_markedRunning hkept.2.1.2.2.2.2.1

end Sys2Proof.Proofs
end

section
/-! SUPPORT. What the sequencer's operations do to voices, tracks and port, said once: a stop, a start, a voice event, a
jump, the loading of the head. -/

namespace Sys2Proof.Proofs

open Sys2Proof.Machine Sys2Proof.Safety Sys2Proof.Laws

/-! ## Voices changed one after the other -/

/-- A fold that changes the listed voices, each by a function of its own record. -/
theorem getElem_foldl_voices {f : State → VoiceNo → State} {g : VoiceNo → Voice → Voice}
    (hsame : ∀ s n, (f s n).voices[n] = g n s.voices[n]) (hother : ∀ s n m, n ≠ m → (f s n).voices[m] = s.voices[m])
    {l : List VoiceNo} (hl : l.Nodup) (s : State) (m : VoiceNo) :
    (l.foldl f s).voices[m] = if m ∈ l then g m s.voices[m] else s.voices[m] := by
  induction l generalizing s with
  | nil => simp
  | cons n l ih =>
    obtain ⟨hn, hl⟩ := List.nodup_cons.1 hl
    rw [List.foldl_cons, ih hl]
    by_cases hmn : m = n
    · subst hmn
      simp [hn, hsame]
    · simp [hmn, hother s n m (Ne.symm hmn)]

theorem getElem_foldl_allVoices {f : State → VoiceNo → State} {g : VoiceNo → Voice → Voice}
    (hsame : ∀ s n, (f s n).voices[n] = g n s.voices[n]) (hother : ∀ s n m, n ≠ m → (f s n).voices[m] = s.voices[m])
    (s : State) (m : VoiceNo) : (allVoices.foldl f s).voices[m] = g m s.voices[m] := by
  rw [getElem_foldl_voices hsame hother nodup_allVoices, if_pos (mem_allVoices m)]

/-- A relation that each step of a fold has with the state before it, and that is a preorder. -/
theorem foldl_related {α : Type} {R : State → State → Prop} (hrefl : ∀ s, R s s)
    (htrans : ∀ s t u, R s t → R t u → R s u) {f : State → α → State} (hf : ∀ s a, R s (f s a)) (l : List α)
    (s : State) : R s (l.foldl f s) := by
  induction l generalizing s with
  | nil => exact hrefl s
  | cons a l ih => exact htrans _ _ _ (hf s a) (ih _)

/-- Of the port at most the grant has changed, and that only by ending. -/
structure PortLess (s t : State) : Prop where
  partials : t.port.partials = s.port.partials
  grant : ∀ g ∈ t.port.grant, g ∈ s.port.grant

theorem PortLess.refl (s : State) : PortLess s s := ⟨rfl, fun _ h => h⟩

theorem PortLess.trans {s t u : State} (h : PortLess s t) (h' : PortLess t u) : PortLess s u :=
  ⟨h'.partials.trans h.partials, fun g hg => h.grant g (h'.grant g hg)⟩

theorem endGrant_portLess (h : Holder) (s : State) : PortLess s (endGrant h s) :=
  ⟨rfl, fun _ hg => (Option.filter_eq_some_iff.1 hg).1⟩

theorem putVoice_portLess (n : VoiceNo) (v : Voice) (s : State) : PortLess s (putVoice n v s) := by
  refine ⟨?_, fun g hg => mem_grant_of_mem_putVoice_grant hg⟩
  unfold putVoice
  split <;> rfl

/-! ## The stop of a track -/

theorem dismissVoice_eq (k : TrackNo) (s : State) (n : VoiceNo) :
    dismissVoice k s n = { s with voices := (dismissVoice k s n).voices, port := (dismissVoice k s n).port } := by
  have hrelease : releaseVoice n s = { s with voices := (releaseVoice n s).voices, port := (releaseVoice n s).port } := by
    unfold releaseVoice
    rw [putVoice_eq]
  unfold dismissVoice
  simp only
  split
  · split
    · exact congrArg (setVoice n _) hrelease
    · exact hrelease
  · split <;> rfl

theorem dismissVoice_portLess (k : TrackNo) (s : State) (n : VoiceNo) : PortLess s (dismissVoice k s n) := by
  unfold dismissVoice
  simp only
  have hrelease : PortLess s (releaseVoice n s) := putVoice_portLess ..
  split
  · split
    · exact ⟨hrelease.partials, hrelease.grant⟩
    · exact hrelease
  · split
    · exact ⟨rfl, fun _ h => h⟩
    · exact .refl s

theorem dismissVoice_other (k : TrackNo) (s : State) (n m : VoiceNo) (h : n ≠ m) :
    (dismissVoice k s n).voices[m] = s.voices[m] := by
  have hrelease : (releaseVoice n s).voices[m] = s.voices[m] := getElem_putVoice_of_ne h ..
  unfold dismissVoice
  simp only
  split
  · split
    · rw [getElem_setVoice, if_neg (Ne.symm h), hrelease]
    · exact hrelease
  · split
    · rw [getElem_setVoice, if_neg (Ne.symm h)]
    · rfl

/-- A voice's share of a stop, on the record. -/
def dismissed (k : TrackNo) (v : Voice) : Voice :=
  let w := if v.owner = .track k then v.releaseRequest else v
  if w.home = some k then w.unhomed else w

theorem dismissVoice_same (k : TrackNo) (s : State) (n : VoiceNo) :
    (dismissVoice k s n).voices[n] = dismissed k s.voices[n] := by
  have hrelease : (releaseVoice n s).voices[n] = s.voices[n].releaseRequest := getElem_putVoice_same ..
  unfold dismissVoice dismissed
  simp only
  split
  · split
    next hhome =>
      rw [getElem_setVoice, if_pos rfl, hrelease]
      rw [hrelease] at hhome
      rw [if_pos hhome]
    next hhome =>
      rw [hrelease] at hhome
      rw [if_neg hhome, hrelease]
  · split
    · rw [getElem_setVoice, if_pos rfl]
    · rfl

theorem dismissed_eq_leftBy (k : TrackNo) (v : Voice) : dismissed k v = leftBy k v := by
  have hasked : (if v.owner = .track k then v.releaseRequest else v) =
      if v.owner ≠ .track k ∨ v.phase = .idle ∨ v.phase = .release then v
      else if v.snapshot.release ≠ 0 then { v with phase := .release }
      else { v with phase := .idle, env := 0, buffer := [], hold := none, owner := ownerOfHome v.home } := by
    unfold Voice.releaseRequest Voice.toIdle
    by_cases howner : v.owner = .track k
    · cases hphase : v.phase <;> simp [howner]
    · simp [howner]
  have hunhomed (w : Voice) (h : w.home = some k) :
      w.unhomed = { w with home := none, owner := if w.owner = .track k then .none else w.owner } := by
    simp [Voice.unhomed, h, ownerOfHome]
  unfold dismissed leftBy
  simp only
  rw [← hasked]
  generalize (if v.owner = .track k then v.releaseRequest else v) = w
  by_cases hhome : w.home = some k
  · simp only [if_pos hhome, hunhomed w hhome]
  · simp only [if_neg hhome]

/-- Every voice's share of a stop. -/
def dismissAll (k : TrackNo) (s : State) : State := allVoices.foldl (dismissVoice k) s

theorem dismissAll_voices (k : TrackNo) (s : State) (n : VoiceNo) :
    (dismissAll k s).voices[n] = leftBy k s.voices[n] := by
  rw [← dismissed_eq_leftBy]
  exact getElem_foldl_allVoices (g := fun _ => dismissed k) (dismissVoice_same k) (dismissVoice_other k) s n

theorem dismissAll_eq (k : TrackNo) (s : State) :
    dismissAll k s = { s with voices := (dismissAll k s).voices, port := (dismissAll k s).port } := by
  unfold dismissAll
  generalize allVoices = l
  induction l generalizing s with
  | nil => rfl
  | cons n l ih =>
    rw [List.foldl_cons]
    refine (ih _).trans ?_
    generalize l.foldl (dismissVoice k) _ = t
    rw [dismissVoice_eq]

theorem dismissAll_portLess (k : TrackNo) (s : State) : PortLess s (dismissAll k s) :=
  foldl_related PortLess.refl (fun _ _ _ => PortLess.trans) (dismissVoice_portLess k) allVoices s

/-- The record of a stopped track (R121). -/
def halted (r : Track) : Track := { r with state := .stopped, buffer := [], wait := none, loopMark := none }

theorem stopTrack_def (k : TrackNo) (s : State) :
    stopTrack k s = flushFetch k (changeTrack k halted (dismissAll k s)) := rfl

/-- A stop leaves the voices as the track leaves them. -/
theorem stopTrack_voices (k : TrackNo) (s : State) (n : VoiceNo) :
    (stopTrack k s).voices[n] = leftBy k s.voices[n] := by
  rw [stopTrack_def, ← dismissAll_voices]
  generalize dismissAll k s = t
  rfl

/-- A stop changes voices, tracks and port alone. -/
theorem stopTrack_eq (k : TrackNo) (s : State) :
    stopTrack k s =
      { s with voices := (stopTrack k s).voices, port := (stopTrack k s).port,
               tracks := s.tracks.set k.val (halted s.tracks[k]) k.isLt } := by
  have hall := dismissAll_eq k s
  rw [stopTrack_def]
  generalize dismissAll k s = t at *
  rw [hall]
  rfl

theorem stopTrack_partials (k : TrackNo) (s : State) :
    (stopTrack k s).port.partials = s.port.partials.set k.val [] k.isLt := by
  rw [stopTrack_def, ← (dismissAll_portLess k s).partials]
  generalize dismissAll k s = t
  rfl

theorem stopTrack_grant (k : TrackNo) (s : State) :
    ∀ g ∈ (stopTrack k s).port.grant, g ∈ s.port.grant ∧ g.holder ≠ .track k := by
  rw [stopTrack_def]
  have hless := dismissAll_portLess k s
  generalize dismissAll k s = t at *
  intro g hg
  obtain ⟨hg, hne⟩ := Option.filter_eq_some_iff.1 hg
  exact ⟨hless.grant g hg, by simpa using hne⟩

theorem getElem_setTrack_self (k : TrackNo) (r : Track) (ts : Vector Track 2) : (ts.set k.val r k.isLt)[k] = r := by
  simp

theorem getElem_setTrack_ne {k j : TrackNo} (h : j ≠ k) (r : Track) (ts : Vector Track 2) :
    (ts.set k.val r k.isLt)[j] = ts[j] :=
  Vector.getElem_set_ne _ _ (Fin.val_ne_of_ne (Ne.symm h))

theorem otherTrack_ne (k : TrackNo) : otherTrack k ≠ k := by
  fin_cases k <;> decide

theorem eq_otherTrack {k j : TrackNo} (h : j ≠ k) : j = otherTrack k := by
  fin_cases k <;> fin_cases j <;> simp_all [otherTrack]

/-! ## The start of a track -/

/-- The record of a voice of the mask after the adoption. -/
def adopted (k : TrackNo) (mask : BitVec 6) (n : VoiceNo) (v : Voice) : Voice :=
  if inMask mask n then v.homed k else v

/-- Every voice of the mask adopted. -/
def adoptAll (k : TrackNo) (mask : BitVec 6) (s : State) : State := allVoices.foldl (adoptVoice k mask) s

theorem adoptAll_voices (k : TrackNo) (mask : BitVec 6) (s : State) (n : VoiceNo) :
    (adoptAll k mask s).voices[n] = adopted k mask n s.voices[n] := by
  refine getElem_foldl_allVoices (g := adopted k mask) (fun s n => ?_) (fun s n m h => ?_) s n
  · unfold adoptVoice adopted
    split
    · rw [getElem_setVoice, if_pos rfl]
    · rfl
  · unfold adoptVoice
    split
    · rw [getElem_setVoice, if_neg (Ne.symm h)]
    · rfl

theorem adoptAll_eq (k : TrackNo) (mask : BitVec 6) (s : State) :
    adoptAll k mask s = { s with voices := (adoptAll k mask s).voices } := by
  unfold adoptAll
  generalize allVoices = l
  induction l generalizing s with
  | nil => rfl
  | cons n l ih =>
    rw [List.foldl_cons]
    refine (ih _).trans ?_
    generalize l.foldl (adoptVoice k mask) _ = t
    unfold adoptVoice
    split <;> rfl

/-- The state before a track's start: a running track is stopped first. -/
def halting (k : TrackNo) (s : State) : State := if s.tracks[k].active then stopTrack k s else s

theorem startTrack_def (k : TrackNo) (r : Track) (s : State) :
    startTrack k r s = adoptAll k r.mask (flushFetch k (setTrack k r (halting k s))) := rfl

theorem startTrack_voices (k : TrackNo) (r : Track) (s : State) (n : VoiceNo) :
    (startTrack k r s).voices[n] = adopted k r.mask n (halting k s).voices[n] := by
  rw [startTrack_def, adoptAll_voices]
  rfl

theorem startTrack_eq (k : TrackNo) (r : Track) (s : State) :
    startTrack k r s = { flushFetch k (setTrack k r (halting k s)) with voices := (startTrack k r s).voices } := by
  rw [startTrack_def]
  exact adoptAll_eq ..

end Sys2Proof.Proofs
end

section
/-! SUPPORT. Every move keeps the homes with the masks, and the voices, the cues, the stream grant and the DAC code in
their ranges. -/

namespace Sys2Proof.Proofs

open Sys2Proof.Machine Sys2Proof.Safety Sys2Proof.Laws

/-! ## Homes -/

theorem homesKept_congr {s t : State} (hhome : ∀ v : VoiceNo, t.voices[v].home = s.voices[v].home)
    (htrack : ∀ k : TrackNo, t.tracks[k].active = s.tracks[k].active ∧ t.tracks[k].mask = s.tracks[k].mask)
    (h : HomesKept s) : HomesKept t := by
  obtain ⟨hiff, happart⟩ := h
  refine ⟨fun k v => ?_, ?_⟩
  · rw [hhome v, (htrack k).1, (htrack k).2]
    exact hiff k v
  · rw [(htrack 0).1, (htrack 0).2, (htrack 1).1, (htrack 1).2]
    exact happart

theorem leftBy_home (k : TrackNo) (v : Voice) :
    (leftBy k v).home = if v.home = some k then none else v.home := by
  rw [← dismissed_eq_leftBy]
  have hrelease : (if v.owner = .track k then v.releaseRequest else v).home = v.home := by
    split
    · exact (releaseRequest_same v).1
    · rfl
  unfold dismissed
  simp only
  rw [hrelease]
  split
  · rfl
  · exact hrelease

theorem masks_apart {s : State} (h : HomesKept s) {j k : TrackNo} (hne : j ≠ k) (hj : s.tracks[j].active = true)
    (hk : s.tracks[k].active = true) : s.tracks[j].mask &&& s.tracks[k].mask = 0 := by
  obtain ⟨-, happart⟩ := h
  fin_cases j <;> fin_cases k
  · exact absurd rfl hne
  · exact happart hj hk
  · exact (BitVec.and_comm ..).trans (happart hk hj)
  · exact absurd rfl hne

/-- The rule of the homes, with the two tracks told apart by their number only. -/
theorem homesKept_of {s : State}
    (hiff : ∀ (k : TrackNo) (v : VoiceNo), s.voices[v].home = some k ↔
      (s.tracks[k].active = true ∧ inMask s.tracks[k].mask v = true))
    (happart : ∀ j k : TrackNo, j ≠ k → s.tracks[j].active = true → s.tracks[k].active = true →
      s.tracks[j].mask &&& s.tracks[k].mask = 0) : HomesKept s :=
  ⟨hiff, happart 0 1 (by decide)⟩

theorem halted_active (r : Track) : (halted r).active = false := rfl

theorem stopTrack_tracks_self (k : TrackNo) (s : State) : (stopTrack k s).tracks[k] = halted s.tracks[k] := by
  rw [stopTrack_eq]
  exact getElem_setTrack_self ..

theorem stopTrack_tracks_ne {k j : TrackNo} (h : j ≠ k) (s : State) : (stopTrack k s).tracks[j] = s.tracks[j] := by
  rw [stopTrack_eq]
  exact getElem_setTrack_ne h ..

/-- A stop takes the track's homes away. -/
theorem homesKept_stopTrack {s : State} (k : TrackNo) (h : HomesKept s) : HomesKept (stopTrack k s) := by
  refine homesKept_of (fun j v => ?_) (fun i j hij hi hj => ?_)
  · rw [stopTrack_voices, leftBy_home]
    by_cases hjk : j = k
    · subst hjk
      rw [stopTrack_tracks_self, halted_active]
      refine iff_of_false ?_ (by simp)
      split
      · nofun
      · assumption
    · rw [stopTrack_tracks_ne hjk, ← h.1 j v]
      split
      next hk => exact iff_of_false nofun fun hj => hjk (Option.some.inj (hj.symm.trans hk))
      · rfl
  · have hne (l : TrackNo) (hl : (stopTrack k s).tracks[l].active = true) : l ≠ k := by
      rintro rfl
      rw [stopTrack_tracks_self, halted_active] at hl
      exact Bool.false_ne_true hl
    have hik := hne i hi
    have hjk := hne j hj
    rw [stopTrack_tracks_ne hik] at hi ⊢
    rw [stopTrack_tracks_ne hjk] at hj ⊢
    exact masks_apart h hij hi hj

theorem homesKept_halting {s : State} (k : TrackNo) (h : HomesKept s) :
    HomesKept (halting k s) ∧ (halting k s).tracks[k].active = false := by
  unfold halting
  split
  · exact ⟨homesKept_stopTrack k h, by rw [stopTrack_tracks_self, halted_active]⟩
  next hidle => exact ⟨h, by simpa using hidle⟩

theorem halting_tracks_ne {k j : TrackNo} (h : j ≠ k) (s : State) : (halting k s).tracks[j] = s.tracks[j] := by
  unfold halting
  split
  · exact stopTrack_tracks_ne h s
  · rfl

theorem startTrack_tracks_self (k : TrackNo) (r : Track) (s : State) : (startTrack k r s).tracks[k] = r := by
  rw [startTrack_eq]
  exact getElem_setTrack_self k r (halting k s).tracks

theorem startTrack_tracks_ne {k j : TrackNo} (h : j ≠ k) (r : Track) (s : State) :
    (startTrack k r s).tracks[j] = s.tracks[j] := by
  rw [startTrack_eq, ← halting_tracks_ne h s]
  exact getElem_setTrack_ne h r (halting k s).tracks

theorem adopted_home (k : TrackNo) (mask : BitVec 6) (n : VoiceNo) (v : Voice) :
    (adopted k mask n v).home = if inMask mask n then some k else v.home := by
  unfold adopted
  split <;> rfl

/-- Masks that share no voice. -/
theorem not_inMask_of_apart {a b : BitVec 6} (h : a &&& b = 0) {v : VoiceNo} (ha : inMask a v = true) :
    inMask b v = false := by
  have hbit : (a &&& b).getLsbD v.val = false := by rw [h]; simp
  rw [BitVec.getLsbD_and] at hbit
  unfold inMask at *
  rw [ha] at hbit
  simpa using hbit

/-- A start gives the homes of its mask to the track. -/
theorem homesKept_startTrack {s : State} {k : TrackNo} {r : Track} (h : HomesKept s) (hr : r.active = true)
    (hother : s.tracks[otherTrack k].active = true → s.tracks[otherTrack k].mask &&& r.mask = 0) :
    HomesKept (startTrack k r s) := by
  obtain ⟨hhomes, hidle⟩ := homesKept_halting k h
  have hhome (v : VoiceNo) : (halting k s).voices[v].home ≠ some k := by
    rw [ne_eq, hhomes.1 k v, hidle]
    simp
  have hfree (j : TrackNo) (hj : j ≠ k) (hactive : (startTrack k r s).tracks[j].active = true) :
      (startTrack k r s).tracks[j].mask &&& r.mask = 0 := by
    rw [startTrack_tracks_ne hj] at hactive ⊢
    obtain rfl := eq_otherTrack hj
    exact hother hactive
  refine homesKept_of (fun j v => ?_) (fun i j hij hi hj => ?_)
  · rw [startTrack_voices, adopted_home]
    by_cases hjk : j = k
    · subst hjk
      rw [startTrack_tracks_self, hr]
      split
      next hin => simp [hin]
      next hout => exact iff_of_false (hhome v) fun hin => hout hin.2
    · rw [startTrack_tracks_ne hjk, ← halting_tracks_ne hjk s, ← hhomes.1 j v]
      split
      next hin =>
        refine iff_of_false (by simp [Ne.symm hjk]) fun hj => ?_
        obtain ⟨hactive, hmask⟩ := (hhomes.1 j v).1 hj
        have happart := hfree j hjk
        rw [startTrack_tracks_ne hjk, ← halting_tracks_ne hjk s] at happart
        exact absurd hin (by simp [not_inMask_of_apart (happart hactive) hmask])
      · rfl
  · by_cases hik : i = k
    · subst hik
      rw [startTrack_tracks_self, BitVec.and_comm]
      exact hfree j (Ne.symm hij) hj
    · by_cases hjk : j = k
      · subst hjk
        rw [startTrack_tracks_self]
        exact hfree i hik hi
      · exact absurd ((eq_otherTrack hik).trans (eq_otherTrack hjk).symm) hij

/-! ## Voices and the stream grant -/

/-- The voices and the grant that a voice holds are in their ranges. -/
def VoicesFit (s : State) : Prop := (∀ n : VoiceNo, VoiceLegal n s.voices[n]) ∧ voiceGrantFits s = true

theorem voiceGrantFits_iff {s : State} :
    voiceGrantFits s = true ↔
      ∀ g ∈ s.port.grant, g.delivered ≤ 3 ∧ ∀ n, g.holder = .voice n → fetches s.voices[n] = true := by
  unfold voiceGrantFits fetches
  cases hg : s.port.grant with
  | none => simp
  | some g =>
    obtain ⟨holder, delivered, reading⟩ := g
    cases holder <;> simp

theorem voicesFit_of {s t : State} (h : VoicesFit s) (hlegal : ∀ n : VoiceNo, VoiceLegal n t.voices[n])
    (hgrant : ∀ g ∈ t.port.grant, g ∈ s.port.grant ∧
      ∀ n, g.holder = .voice n → fetches s.voices[n] = true → fetches t.voices[n] = true) : VoicesFit t := by
  refine ⟨hlegal, voiceGrantFits_iff.2 fun g hg => ?_⟩
  obtain ⟨hold, hfetch⟩ := hgrant g hg
  obtain ⟨hdelivered, hheld⟩ := voiceGrantFits_iff.1 h.2 g hold
  exact ⟨hdelivered, fun n hn => hfetch n hn (hheld n hn)⟩

theorem voicesFit_endGrant {s : State} (x : Holder) (h : VoicesFit s) : VoicesFit (endGrant x s) :=
  voicesFit_of h h.1 fun g hg => ⟨(endGrant_portLess x s).grant g hg, fun _ _ hf => hf⟩

theorem voicesFit_setVoice {s : State} {n : VoiceNo} {v : Voice} (h : VoicesFit s) (hlegal : VoiceLegal n v)
    (hfetch : ∀ g ∈ s.port.grant, g.holder = .voice n → fetches s.voices[n] = true → fetches v = true) :
    VoicesFit (setVoice n v s) := by
  refine voicesFit_of h (fun m => ?_) fun g hg => ⟨hg, fun m hm hf => ?_⟩
  · rw [getElem_setVoice]
    split
    next hmn => exact hmn ▸ hlegal
    · exact h.1 m
  · rw [getElem_setVoice]
    split
    next hmn =>
      subst hmn
      exact hfetch g hg hm hf
    · exact hf

/-- A replaced voice whose stream goes on as before, or that reaches IDLE and loses its grant. -/
theorem voicesFit_putVoice {s : State} {n : VoiceNo} {v : Voice} (h : VoicesFit s) (hlegal : VoiceLegal n v)
    (hsame : v.snapshot = s.voices[n].snapshot ∧ v.fetch = s.voices[n].fetch ∧
      v.buffer.length ≤ s.voices[n].buffer.length) : VoicesFit (putVoice n v s) := by
  obtain ⟨hsnap, hfetch, hbuf⟩ := hsame
  by_cases hidle : v.phase = .idle
  · rw [putVoice_of_idle hidle]
    exact voicesFit_setVoice (voicesFit_endGrant (.voice n) h) hlegal fun g hg hn => by simp [endGrant, hn] at hg
  · rw [putVoice_of_not_idle hidle]
    exact voicesFit_setVoice h hlegal fun g _ _ hf => fetches_of_le hf hidle hsnap hfetch hbuf

theorem voicesFit_releaseVoice {s : State} (n : VoiceNo) (h : VoicesFit s) : VoicesFit (releaseVoice n s) :=
  voicesFit_putVoice h (releaseRequest_legal (h.1 n)) (releaseRequest_same _).2

theorem unhomed_legal {n : VoiceNo} {v : Voice} (h : VoiceLegal n v) : VoiceLegal n v.unhomed := by
  obtain ⟨hsnap, hnote, hsel, hinc, hvol, henv, hacc, hfrac, hbuf, hlfsr, hlow, hhigh, hcue, hhold, hidle⟩ := h
  refine ⟨hsnap, hnote, hsel, hinc, hvol, henv, hacc, hfrac, hbuf, hlfsr, hlow, hhigh, fun h => hcue ?_, fun k hk => ?_,
    fun h => ?_⟩
  · simp only [Voice.unhomed] at h
    split at h
    · nomatch h
    · exact h
  · obtain ⟨hown, hrange⟩ := hhold k hk
    refine ⟨?_, hrange⟩
    simp only [Voice.unhomed]
    rw [if_neg, hown]
    rw [hown]
    exact (ownerOfHome_ne_cue _).symm
  · obtain ⟨henv0, hbuf0, hhold0, hown⟩ := hidle h
    exact ⟨henv0, hbuf0, hhold0, if_pos hown⟩

theorem voicesFit_dismissVoice {s : State} (k : TrackNo) (n : VoiceNo) (h : VoicesFit s) :
    VoicesFit (dismissVoice k s n) := by
  have hunhomed (u : State) (hu : VoicesFit u) : VoicesFit (setVoice n u.voices[n].unhomed u) :=
    voicesFit_setVoice hu (unhomed_legal (hu.1 n)) fun _ _ _ hf => hf
  unfold dismissVoice
  simp only
  split
  · split
    · exact hunhomed _ (voicesFit_releaseVoice n h)
    · exact voicesFit_releaseVoice n h
  · split
    · exact hunhomed s h
    · exact h

theorem voicesFit_stopTrack {s : State} (k : TrackNo) (h : VoicesFit s) : VoicesFit (stopTrack k s) := by
  have hall : VoicesFit (dismissAll k s) :=
    foldl_related (R := fun s t => VoicesFit s → VoicesFit t) (fun _ h => h) (fun _ _ _ h h' hs => h' (h hs))
      (fun _ n => voicesFit_dismissVoice k n) allVoices s h
  rw [stopTrack_def]
  generalize dismissAll k s = t at *
  exact voicesFit_endGrant (.track k) (s := { changeTrack k halted t with
    port := { t.port with partials := t.port.partials.set k.val [] k.isLt } }) hall

theorem homed_legal {n : VoiceNo} {v : Voice} (k : TrackNo) (h : VoiceLegal n v) (hhome : v.home = none) :
    VoiceLegal n (v.homed k) := by
  obtain ⟨hsnap, hnote, hsel, hinc, hvol, henv, hacc, hfrac, hbuf, hlfsr, hlow, hhigh, hcue, hhold, hidle⟩ := h
  refine ⟨hsnap, hnote, hsel, hinc, hvol, henv, hacc, hfrac, hbuf, hlfsr, hlow, hhigh, fun h => hcue ?_, fun j hj => ?_,
    fun h => ?_⟩
  · simp only [Voice.homed] at h
    split at h
    · nomatch h
    · exact h
  · obtain ⟨hown, hrange⟩ := hhold j hj
    refine ⟨?_, hrange⟩
    simp only [Voice.homed]
    rw [if_neg (by simp [hown]), hown]
  · obtain ⟨henv0, hbuf0, hhold0, hown⟩ := hidle h
    refine ⟨henv0, hbuf0, hhold0, if_pos ?_⟩
    rw [hown, hhome]
    rfl

theorem voicesFit_startTrack {s : State} {k : TrackNo} {r : Track} (h : VoicesFit s) (hhomes : HomesKept s)
    (hother : s.tracks[otherTrack k].active = true → s.tracks[otherTrack k].mask &&& r.mask = 0) :
    VoicesFit (startTrack k r s) := by
  have hhalt : VoicesFit (halting k s) := by
    unfold halting
    split
    · exact voicesFit_stopTrack k h
    · exact h
  obtain ⟨hhomes', hidle⟩ := homesKept_halting k hhomes
  have hflush : VoicesFit (flushFetch k (setTrack k r (halting k s))) :=
    voicesFit_endGrant (.track k) (s := { setTrack k r (halting k s) with
      port := { (halting k s).port with partials := (halting k s).port.partials.set k.val [] k.isLt } }) hhalt
  have hvoices := startTrack_voices k r s
  rw [startTrack_eq] at hvoices ⊢
  refine voicesFit_of hflush (fun n => ?_) fun g hg => ⟨hg, fun n _ hf => ?_⟩
  · rw [hvoices n]
    unfold adopted
    split
    next hin =>
      refine homed_legal k (hhalt.1 n) ?_
      cases hhome : (halting k s).voices[n].home with
      | none => rfl
      | some j =>
        obtain ⟨hactive, hmask⟩ := (hhomes'.1 j n).1 hhome
        by_cases hjk : j = k
        · subst hjk
          exact absurd (hactive.symm.trans hidle) nofun
        · rw [halting_tracks_ne hjk] at hactive hmask
          obtain rfl := eq_otherTrack hjk
          exact absurd hin (by simp [not_inMask_of_apart (hother hactive) hmask])
    · exact hhalt.1 n
  · rw [hvoices n]
    unfold adopted
    split
    · exact hf
    · exact hf

/-! ## Events and ticks -/

/-- What the work on voices and tracks keeps: the voices in their ranges, the homes with the masks, the mixer. -/
structure SoundKeeps (s t : State) : Prop where
  voices : VoicesFit s → VoicesFit t
  homes : HomesKept s → HomesKept t
  mixer : t.mixer = s.mixer

theorem SoundKeeps.refl (s : State) : SoundKeeps s s := ⟨fun h => h, fun h => h, rfl⟩

theorem SoundKeeps.trans {s t u : State} (h : SoundKeeps s t) (h' : SoundKeeps t u) : SoundKeeps s u :=
  ⟨fun hs => h'.voices (h.voices hs), fun hs => h'.homes (h.homes hs), h'.mixer.trans h.mixer⟩

/-- Work that leaves the homes, and which tracks run with which masks. -/
theorem SoundKeeps.of_tuned {s t : State} (hvoices : VoicesFit s → VoicesFit t)
    (hhome : ∀ v : VoiceNo, t.voices[v].home = s.voices[v].home)
    (htrack : ∀ k : TrackNo, t.tracks[k].active = s.tracks[k].active ∧ t.tracks[k].mask = s.tracks[k].mask)
    (hmixer : t.mixer = s.mixer) : SoundKeeps s t :=
  ⟨hvoices, homesKept_congr hhome htrack, hmixer⟩

theorem keeps_stopTrack (k : TrackNo) (s : State) : SoundKeeps s (stopTrack k s) :=
  ⟨voicesFit_stopTrack k, homesKept_stopTrack k, by rw [stopTrack_eq]⟩

theorem keeps_setFault (f : FaultFlag) (s : State) : SoundKeeps s (setFault f s) := by
  rw [setFault_eq]
  exact ⟨fun h => h, fun h => h, rfl⟩

theorem keeps_latchMarker (k : TrackNo) (s : State) : SoundKeeps s (latchMarker k s) := by
  unfold latchMarker
  split
  · exact ⟨fun h => h, fun h => h, rfl⟩
  · exact .refl s

theorem getElem_setTrack (k j : TrackNo) (r : Track) (s : State) :
    (setTrack k r s).tracks[j] = if j = k then r else s.tracks[j] := by
  split
  next h =>
    subst h
    exact getElem_setTrack_self ..
  next h => exact getElem_setTrack_ne h ..

/-- A track's record changes, and neither whether it runs nor its mask. -/
theorem keeps_setTrack {k : TrackNo} {r : Track} {s : State} (hactive : r.active = s.tracks[k].active)
    (hmask : r.mask = s.tracks[k].mask) : SoundKeeps s (setTrack k r s) := by
  refine .of_tuned (fun h => h) (fun _ => rfl) (fun j => ?_) rfl
  rw [getElem_setTrack]
  split
  next h =>
    subst h
    exact ⟨hactive, hmask⟩
  · exact ⟨rfl, rfl⟩

theorem keeps_changeTrack {k : TrackNo} {f : Track → Track} {s : State}
    (h : ∀ r, (f r).state = r.state ∧ (f r).mask = r.mask) : SoundKeeps s (changeTrack k f s) :=
  keeps_setTrack (by simp [Track.active, h]) (h _).2

theorem keeps_flushFetch (k : TrackNo) (s : State) : SoundKeeps s (flushFetch k s) := by
  refine .of_tuned (fun h => ?_) (fun _ => rfl) (fun _ => ⟨rfl, rfl⟩) rfl
  exact voicesFit_endGrant (.track k) (s := { s with
    port := { s.port with partials := s.port.partials.set k.val [] k.isLt } }) h

/-- A voice's record changes, its home and its stream fetching staying as they are. -/
theorem keeps_setVoice {n : VoiceNo} {v : Voice} {s : State} (hhome : v.home = s.voices[n].home)
    (hlegal : VoicesFit s → VoiceLegal n v)
    (hfetch : ∀ g ∈ s.port.grant, g.holder = .voice n → fetches s.voices[n] = true → fetches v = true) :
    SoundKeeps s (setVoice n v s) := by
  refine .of_tuned (fun h => voicesFit_setVoice h (hlegal h) hfetch) (fun m => ?_) (fun _ => ⟨rfl, rfl⟩) rfl
  rw [getElem_setVoice]
  split
  next h => rw [hhome, h]
  · rfl

theorem keeps_endGrant (x : Holder) (s : State) : SoundKeeps s (endGrant x s) :=
  .of_tuned (voicesFit_endGrant x) (fun _ => rfl) (fun _ => ⟨rfl, rfl⟩) rfl

theorem keeps_putVoice {n : VoiceNo} {v : Voice} {s : State} (hlegal : VoicesFit s → VoiceLegal n v)
    (hsame : v.home = s.voices[n].home ∧ v.snapshot = s.voices[n].snapshot ∧ v.fetch = s.voices[n].fetch ∧
      v.buffer.length ≤ s.voices[n].buffer.length) : SoundKeeps s (putVoice n v s) := by
  refine .of_tuned (fun h => voicesFit_putVoice h (hlegal h) hsame.2) (fun m => ?_) (fun _ => ?_) (by rw [putVoice_eq])
  · by_cases hmn : n = m
    · subst hmn
      rw [getElem_putVoice_same, hsame.1]
    · rw [getElem_putVoice_of_ne hmn]
  · rw [putVoice_eq]
    exact ⟨rfl, rfl⟩

theorem keeps_noteRequest (e : Event) (n : VoiceNo) (s : State) : SoundKeeps s (noteRequest e n s) := by
  unfold noteRequest
  split
  next t ht =>
    unfold startNote at ht
    split at ht
    · nomatch ht
    next snap hsnap =>
      cases ht
      refine (keeps_endGrant (.voice n) s).trans (keeps_setVoice rfl (fun h => ?_) fun g hg hn => ?_)
      · have hvoice : VoiceLegal n s.voices[n] := h.1 n
        exact noteOn_legal hvoice (instrumentOf_legal hsnap) hvoice.2.2.1 (Nat.le_of_lt_succ e.value.isLt)
          (Nat.min_le_right ..)
      · simp [endGrant, hn] at hg
  · exact keeps_setFault ..

/-- A voice event that sets one of the fields which the console and the tracks may set (R126). -/
theorem keeps_setField {n : VoiceNo} {s : State} {sel inc vol : Nat} (hsel : sel ≤ 15) (hinc : inc ≤ 65535)
    (hvol : vol ≤ 15) :
    SoundKeeps s (setVoice n { s.voices[n] with selected := sel } s) ∧
      SoundKeeps s (setVoice n { s.voices[n] with increment := inc } s) ∧
      SoundKeeps s (setVoice n { s.voices[n] with volume := vol } s) := by
  refine ⟨keeps_setVoice rfl (fun h => ?_) fun _ _ _ hf => hf, keeps_setVoice rfl (fun h => ?_) fun _ _ _ hf => hf,
    keeps_setVoice rfl (fun h => ?_) fun _ _ _ hf => hf⟩ <;>
  obtain ⟨hsnap, hnote, hsel', hinc', hvol', hrest⟩ := h.1 n
  · exact ⟨hsnap, hnote, hsel, hinc', hvol', hrest⟩
  · exact ⟨hsnap, hnote, hsel', hinc, hvol', hrest⟩
  · exact ⟨hsnap, hnote, hsel', hinc', hvol, hrest⟩

theorem keeps_voiceRequest {k : TrackNo} {e : Event} {request : VoiceNo → State → State}
    (h : ∀ n s, SoundKeeps s (request n s)) (s : State) : SoundKeeps s (voiceRequest k e request s) := by
  unfold voiceRequest
  split
  · exact keeps_setFault ..
  · split
    · exact h ..
    · exact .refl s

theorem keeps_performEvent (k : TrackNo) (e : Event) (s : State) : SoundKeeps s (performEvent k e s) := by
  have hvalue : e.value.toNat ≤ 65535 := Nat.le_of_lt_succ e.value.isLt
  have hsel : e.value.toNat % 16 ≤ 15 := Nat.le_of_lt_succ (Nat.mod_lt _ (by decide))
  have hvol : min e.extra.toNat 15 ≤ 15 := Nat.min_le_right ..
  unfold performEvent
  split
  · exact keeps_stopTrack k s
  · exact keeps_voiceRequest (keeps_noteRequest e) s
  · exact keeps_voiceRequest (fun n s => keeps_putVoice (fun h => releaseRequest_legal (h.1 n)) (releaseRequest_same _)) s
  · exact keeps_voiceRequest (fun _ _ => (keeps_setField hsel hvalue hvol).1) s
  · exact keeps_voiceRequest (fun _ _ => (keeps_setField hsel hvalue hvol).2.2) s
  · exact keeps_voiceRequest (fun _ _ => (keeps_setField hsel hvalue hvol).2.1) s
  · exact keeps_changeTrack fun _ => ⟨rfl, rfl⟩
  · exact keeps_changeTrack fun _ => ⟨rfl, rfl⟩
  · unfold backRequest
    split
    · exact .refl s
    · split
      · unfold jumpBack
        exact (keeps_changeTrack (by exact fun _ => ⟨rfl, rfl⟩)).trans (keeps_flushFetch k _)
      · exact keeps_changeTrack fun _ => ⟨rfl, rfl⟩
  · unfold markerRequest
    exact (keeps_changeTrack (by exact fun _ => ⟨rfl, rfl⟩)).trans (keeps_latchMarker k _)
  · exact (keeps_setFault _ s).trans (keeps_stopTrack k _)

theorem keeps_actOnEvent (k : TrackNo) (e : Event) (rest : List Event) (s : State) :
    SoundKeeps s (actOnEvent k e rest s) := by
  unfold actOnEvent
  exact (keeps_changeTrack (by exact fun _ => ⟨rfl, rfl⟩)).trans (keeps_performEvent k e _)

theorem keeps_loadHead (n : Nat) (k : TrackNo) (s : State) : SoundKeeps s (loadHead n k s) := by
  have hactive {r : Track} (h : r.state ≠ .stopped) : r.active = true := by simpa [Track.active] using h
  refine loadHead_cases (P := SoundKeeps) .refl (fun s hstate _ => ?_) (fun s e rest hstate _ _ => ?_)
    (fun s e rest t _ _ _ h => (keeps_actOnEvent k e rest s).trans h) n s
  · exact keeps_setTrack (hactive hstate).symm rfl
  · exact keeps_setTrack (hactive hstate).symm rfl

theorem keeps_actOnHead (k : TrackNo) (s : State) : SoundKeeps s (actOnHead k s) := by
  unfold actOnHead
  split
  · exact .refl s
  · exact (keeps_actOnEvent ..).trans (keeps_loadHead ..)

theorem keeps_trackTick (k : TrackNo) (s : State) : SoundKeeps s (trackTick k s) := by
  unfold trackTick
  simp only
  split
  · exact .refl s
  · exact keeps_setFault ..
  · split
    · split
      · exact .trans (keeps_setTrack (by exact rfl) (by exact rfl)) (keeps_actOnHead k _)
      · exact keeps_setTrack rfl rfl
    · exact .refl s

theorem keeps_countTrack (k : TrackNo) (s : State) : SoundKeeps s (countTrack k s) := by
  unfold countTrack
  simp only
  split
  · exact .trans (keeps_setTrack (by exact rfl) (by exact rfl)) (keeps_trackTick k _)
  · exact keeps_setTrack rfl rfl

theorem keeps_joinEvent (k : TrackNo) (e : Event) (s : State) : SoundKeeps s (joinEvent k e s) := by
  have hjoined : SoundKeeps s (changeTrack k (fun r => { r with buffer := r.buffer ++ [e], fetchAddr := r.fetchAddr + 6 }) s) :=
    keeps_changeTrack fun _ => ⟨rfl, rfl⟩
  unfold joinEvent
  simp only
  split
  · exact hjoined.trans (keeps_loadHead ..)
  · exact hjoined

theorem keeps_fullTick (k : TrackNo) (s : State) : SoundKeeps s (fullTick k s) :=
  .trans (keeps_changeTrack (by exact fun _ => ⟨rfl, rfl⟩)) (keeps_trackTick k _)

/-! ## The ROM port -/

/-- The port's grant may change to another that fits. -/
theorem keeps_port {s : State} {p : RomPort}
    (hgrant : VoicesFit s → ∀ g ∈ p.grant, g.delivered ≤ 3 ∧ ∀ n, g.holder = .voice n → fetches s.voices[n] = true) :
    SoundKeeps s { s with port := p } :=
  .of_tuned (fun h => ⟨h.1, voiceGrantFits_iff.2 (hgrant h)⟩) (fun _ => rfl) (fun _ => ⟨rfl, rfl⟩) rfl

theorem voiceRequests_fetches {s : State} {n : VoiceNo} (h : voiceRequests s n = true) :
    fetches s.voices[n] = true := by
  simp only [voiceRequests, Bool.and_eq_true, decide_eq_true_eq] at h
  simp only [fetches, Bool.and_eq_true, decide_eq_true_eq]
  exact ⟨h.1, by omega⟩

theorem fewest_mem {α : Type} {count : α → Nat} {l : List α} {a : α} (h : fewest count l = some a) : a ∈ l := by
  induction l with
  | nil => nomatch h
  | cons b l ih =>
    unfold fewest at h
    split at h
    next c hc =>
      split at h
      · cases h
        exact List.mem_cons_of_mem _ (ih hc)
      · cases h
        exact List.mem_cons_self
    · cases h
      exact List.mem_cons_self

/-- Whom an idle port grants stands in request. -/
theorem nextHolder_requests {s : State} {h : Holder} (hnext : nextHolder s = some h) :
    (∃ n, h = .voice n ∧ voiceRequests s n = true) ∨ ∃ k, h = .track k ∧ trackRequests s k = true := by
  unfold nextHolder at hnext
  split at hnext
  next n hn =>
    cases hnext
    exact .inl ⟨n, rfl, (List.mem_filter.1 (fewest_mem hn)).2⟩
  · obtain ⟨k, hk, rfl⟩ := Option.map_eq_some_iff.1 hnext
    exact .inr ⟨k, rfl, (List.mem_filter.1 (fewest_mem hk)).2⟩

theorem receive_legal {n : VoiceNo} {v : Voice} {b : Byte} (h : VoiceLegal n v) (hf : fetches v = true) :
    VoiceLegal n (v.receive b) := by
  obtain ⟨hphase, -, -, hroom⟩ := fetches_iff.1 hf
  obtain ⟨hsnap, hnote, hsel, hinc, hvol, henv, hacc, hfrac, -, hlfsr, hlow, hhigh, hcue, hhold, -⟩ := h
  refine ⟨hsnap, hnote, hsel, hinc, hvol, henv, hacc, hfrac, ?_, hlfsr, hlow, hhigh, hcue, hhold,
    fun hidle => absurd hidle hphase⟩
  simpa [Voice.receive] using hroom

theorem keeps_deliverVoice {g : Grant} {n : VoiceNo} {s : State} (hgrant : s.port.grant = some g)
    (hholder : g.holder = .voice n) : SoundKeeps s (deliverVoice g n s) := by
  refine .of_tuned (fun h => ?_) (fun m => ?_) (fun _ => ⟨rfl, rfl⟩) rfl
  · obtain ⟨hdelivered, hheld⟩ := voiceGrantFits_iff.1 h.2 g hgrant
    have hf := hheld n hholder
    refine ⟨fun m => ?_, voiceGrantFits_iff.2 fun g' hg' => ?_⟩
    · simp only [deliverVoice, setGrant]
      rw [getElem_setVoice]
      split
      next hmn =>
        subst hmn
        exact receive_legal (h.1 m) hf
      · exact h.1 m
    · simp only [deliverVoice, setGrant, Grant.afterByte] at hg'
      split at hg'
      · nomatch hg'
      next hmore =>
        cases hg'
        simp only [Bool.or_eq_true, decide_eq_true_eq, not_or] at hmore
        obtain ⟨⟨hroom, hleft⟩, hcount⟩ := hmore
        refine ⟨by simp only; omega, fun m hm => ?_⟩
        cases hholder.symm.trans hm
        simp only [deliverVoice, setGrant]
        rw [getElem_setVoice, if_pos rfl]
        obtain ⟨hphase, hmode, -, -⟩ := fetches_iff.1 hf
        exact fetches_iff.2 ⟨hphase, hmode, Nat.lt_of_not_le hleft, Nat.lt_of_not_le hroom⟩
  · simp only [deliverVoice, setGrant]
    rw [getElem_setVoice]
    split
    next hmn => rw [hmn]; rfl
    · rfl

theorem keeps_deliverTrack {g : Grant} {k : TrackNo} {s : State} (hgrant : s.port.grant = some g)
    (hholder : g.holder = .track k) : SoundKeeps s (deliverTrack g k s) := by
  unfold deliverTrack
  simp only
  split
  · exact .trans (keeps_port (p := ⟨none, _⟩) (fun _ => nofun)) (keeps_joinEvent k _ _)
  · refine keeps_port (p := ⟨_, _⟩) fun h g' hg' => ?_
    obtain ⟨hdelivered, -⟩ := voiceGrantFits_iff.1 h.2 g hgrant
    simp only [Grant.afterByte] at hg'
    split at hg'
    · nomatch hg'
    · cases hg'
      refine ⟨by simp only; omega, fun n hn => ?_⟩
      exact nomatch hholder.symm.trans hn

theorem startTrack_mixer (k : TrackNo) (r : Track) (s : State) : (startTrack k r s).mixer = s.mixer := by
  have hhalt : (halting k s).mixer = s.mixer := by
    unfold halting
    split
    · exact (keeps_stopTrack k s).mixer
    · rfl
  rw [startTrack_eq, ← hhalt]
  rfl

/-- The mixer lies in its ranges, and its output is driven exactly while the console side is powered. -/
def MixerFits (s : State) : Prop :=
  s.mixer.master ≤ 16 ∧ (∀ d ∈ s.mixer.dac, d ≤ 1023) ∧ (s.mixer.dac.isSome = true ↔ powered s = true)

theorem mixerFits_congr {s t : State} (hmixer : t.mixer = s.mixer) (hpow : powered t = powered s) (h : MixerFits s) :
    MixerFits t := by
  unfold MixerFits at *
  rw [hmixer, hpow]
  exact h

/-- The work on voices, tracks and port keeps the voices in range (the cues being so), the homes with the masks, and the
mixer in range. -/
theorem SoundWork.keeps_sound {s t : State} (h : SoundWork s t) (hcues : CuesKept s) (hs : VoicesFit s)
    (hhomes : HomesKept s) (hmixer : MixerFits s) : VoicesFit t ∧ HomesKept t ∧ MixerFits t := by
  have hpow : powered t = powered s := (works_of (.sound h)).powered_eq
  have hkeeps (hu : SoundKeeps s t) : VoicesFit t ∧ HomesKept t ∧ MixerFits t :=
    ⟨hu.voices hs, hu.homes hhomes, mixerFits_congr hu.mixer hpow hmixer⟩
  cases h with
  | endGrant x => exact hkeeps (keeps_endGrant x s)
  | interrupt =>
    refine hkeeps (keeps_port (s := s) (p := _) fun h g hg => ?_)
    obtain ⟨g', hg', rfl⟩ := Option.map_eq_some_iff.1 hg
    exact voiceGrantFits_iff.1 h.2 g' hg'
  | voice n v hhome hlegal hfetch => exact hkeeps (keeps_setVoice hhome (fun h => hlegal hcues (h.1 n)) hfetch)
  | master m hm => exact ⟨hs, hhomes, hm, hmixer.2⟩
  | dac d hd hon =>
    refine ⟨hs, hhomes, hmixer.1, fun d' hd' => ?_, iff_of_true rfl hon⟩
    cases hd'
    exact hd
  | start k r hr hother =>
    obtain ⟨address, mask, source, period, rfl, -⟩ := hr
    refine ⟨voicesFit_startTrack hs hhomes hother, homesKept_startTrack hhomes rfl hother, ?_⟩
    exact mixerFits_congr (startTrack_mixer ..) hpow hmixer
  | stop k => exact hkeeps (keeps_stopTrack k s)
  | count k => exact hkeeps (keeps_countTrack k s)
  | tick k => exact hkeeps (keeps_fullTick k s)
  | arbitrate x hidle hnext =>
    refine hkeeps (keeps_port (s := s) (p := ⟨_, _⟩) fun _ g hg => ?_)
    cases hg
    refine ⟨Nat.zero_le _, fun n hn => ?_⟩
    rcases nextHolder_requests hnext with ⟨m, rfl, hreq⟩ | ⟨k, rfl, -⟩
    · cases hn
      exact voiceRequests_fetches hreq
    · nomatch hn
  | deliverVoice g n hgrant hholder => exact hkeeps (keeps_deliverVoice hgrant hholder)
  | deliverTrack g k hgrant hholder => exact hkeeps (keeps_deliverTrack hgrant hholder)

/-- The homes alone need nothing of the voices' ranges. -/
theorem SoundWork.homesKept {s t : State} (h : SoundWork s t) (hs : HomesKept s) : HomesKept t := by
  cases h with
  | endGrant x => exact (keeps_endGrant x s).homes hs
  | voice n v hhome =>
    refine homesKept_congr (s := s) (fun m => ?_) (fun _ => ⟨rfl, rfl⟩) hs
    rw [getElem_setVoice]
    split
    next hmn => rw [hhome, hmn]
    · rfl
  | start k r hr hother =>
    obtain ⟨address, mask, source, period, rfl, -⟩ := hr
    exact homesKept_startTrack hs rfl hother
  | stop k => exact homesKept_stopTrack k hs
  | count k => exact (keeps_countTrack k s).homes hs
  | tick k => exact (keeps_fullTick k s).homes hs
  | deliverVoice g n hgrant hholder => exact (keeps_deliverVoice hgrant hholder).homes hs
  | deliverTrack g k hgrant hholder => exact (keeps_deliverTrack hgrant hholder).homes hs
  | interrupt | master | dac | arbitrate => exact hs

/-! ## Cues -/

theorem getElem_tabulate {α : Type} {n : Nat} (f : Fin n → α) (i : Fin n) : (tabulate f)[i] = f i := by
  simp [tabulate]

theorem stepped_legal {g : Trigger} (h : triggerLegal g = true) : triggerLegal g.stepped = true := by
  cases g with
  | every period countdown =>
    simp only [triggerLegal, Bool.and_eq_true, decide_eq_true_eq] at h
    obtain ⟨⟨hone, hle⟩, hperiod⟩ := h
    simp only [triggerLegal, Trigger.stepped, Bool.and_eq_true, decide_eq_true_eq]
    split <;> omega
  | off | daily | dayroll | once => exact h

theorem stepped_eq_off {g : Trigger} : g.stepped = .off ↔ g = .off := by
  cases g <;> simp [Trigger.stepped]

theorem fired_legal {m : TickMoment} {c : Cue} (h : CueLegal c) : CueLegal (c.fired m) := by
  obtain ⟨htrigger, harmed, hsound, hrumble, -, hpending, hmissed⟩ := h
  refine ⟨htrigger, fun ha => harmed ?_, hsound, hrumble, Nat.min_le_left .., fun hp => ⟨?_, ?_⟩, fun _ => ?_⟩
  · simp only [Cue.fired, Bool.and_eq_true] at ha
    exact ha.1
  · simp only [Cue.fired, Bool.or_eq_true] at hp
    exact hp.elim (fun h => (hpending h).1) fun h => h
  all_goals
    simp only [Cue.fired]
    omega

theorem evaluated_legal {m : TickMoment} {c : Cue} (h : CueLegal c) : CueLegal (c.evaluated m) := by
  have hstepped {d : Cue} (hd : CueLegal d) (hc : d.trigger = c.trigger) :
      CueLegal { d with trigger := c.trigger.stepped } := by
    obtain ⟨htrigger, harmed, hrest⟩ := hd
    rw [hc] at htrigger harmed
    exact ⟨stepped_legal htrigger, fun ha => mt stepped_eq_off.1 (harmed ha), hrest⟩
  unfold Cue.evaluated
  split
  · exact h
  · simp only
    split
    · exact hstepped (fired_legal h) rfl
    · exact hstepped h rfl

theorem attached_cue_legal : CueLegal .attached := by
  refine ⟨rfl, nofun, nofun, nofun, Nat.zero_le _, nofun, nofun⟩

theorem TimeWork.cuesKept {s t : State} (h : TimeWork s t) (hs : CuesKept s) : CuesKept t := by
  cases h with
  | cue n c hc =>
    intro m
    by_cases hmn : m = n
    · subst hmn
      simpa [setCue] using hc (hs m)
    · have hne : n.val ≠ m.val := fun h => hmn (Fin.ext h.symm)
      simpa [setCue, Vector.getElem_set_ne, hne] using hs m
  | evaluate m =>
    intro n
    have hn := evaluated_legal (m := m) (hs n)
    rw [show ∀ c : Vector Cue 8, ({ s with cues := c } : State).cues = c from fun _ => rfl, getElem_tabulate]
    exact hn
  | cal | crystal | frame => exact hs

/-- A cue record of BATTERY ATTACH in every place. -/
theorem cuesKept_attached {s : State} (h : s.cues = Vector.replicate 8 Cue.attached) : CuesKept s := by
  intro n
  rw [h, Fin.getElem_fin, Vector.getElem_replicate]
  exact attached_cue_legal

/-! ## Every move -/

theorem initial_voice_legal (n : VoiceNo) : VoiceLegal n .initial :=
  ⟨⟨by decide, by decide, by decide, by decide, by decide, by decide, by decide, nofun⟩, by decide, by decide, by decide,
    by decide, by decide, by decide, by decide, by decide, by decide, by decide, by decide, nofun, nofun,
    fun _ => ⟨rfl, rfl, rfl, rfl⟩⟩

theorem getElem_initialVoices (n : VoiceNo) : initialVoices[n] = .initial := by
  simp [initialVoices]

theorem getElem_initialTracks (k : TrackNo) : initialTracks[k] = .initial := by
  simp [initialTracks]

/-- The homes of a reset. -/
theorem homesKept_of_reset {s : State} (hvoices : s.voices = initialVoices) (htracks : s.tracks = initialTracks) :
    HomesKept s := by
  refine ⟨fun k v => ?_, ?_⟩
  · rw [hvoices, htracks, getElem_initialVoices, getElem_initialTracks]
    simp [Voice.initial, Track.initial, Track.active]
  · rw [htracks, getElem_initialTracks]
    nofun

/-- The voices, tracks and port of a reset. -/
theorem sound_of_reset {s : State} (hvoices : s.voices = initialVoices) (htracks : s.tracks = initialTracks)
    (hport : s.port = .idle) : VoicesFit s ∧ HomesKept s := by
  refine ⟨⟨fun n => ?_, voiceGrantFits_iff.2 ?_⟩, homesKept_of_reset hvoices htracks⟩
  · rw [hvoices, getElem_initialVoices]
    exact initial_voice_legal n
  · rw [hport]
    nofun

theorem voicesKept_iff {s : State} :
    VoicesKept s ↔ DomainFits s ∧ CuesKept s ∧ VoicesFit s ∧ HomesKept s ∧ MixerFits s := by
  unfold VoicesFit MixerFits
  tauto

/-- The mixer of a reset, the console on. -/
theorem mixerFits_of_reset {s : State} (hmixer : s.mixer = { master := 16, dac := some 512 })
    (hpow : powered s = true) : MixerFits s := by
  unfold MixerFits
  rw [hmixer, hpow]
  exact ⟨Nat.le_refl _, fun d hd => by cases hd; decide, iff_of_true rfl rfl⟩

theorem resetBlocks_unheld (s : State) : unheld (resetBlocks s).supply = unheld s.supply := by
  have hkick : unheld (resetBlocks s).supply = unheld (resetSequencer (resetSound (engineReset s))).supply :=
    endKick_unheld _
  rw [hkick, engineReset_eq]
  rfl

theorem domainFits_of_unheld {s t : State} (h : unheld t.supply = unheld s.supply) (hs : DomainFits s) :
    DomainFits t := by
  have hvalid : t.supply.domainValid = s.supply.domainValid := congrArg (fun u => u.domainValid) h
  have hmonitor : t.supply.monitor = s.supply.monitor := congrArg (fun u => u.monitor) h
  unfold DomainFits
  rw [hvalid, hmonitor]
  exact hs

theorem resetBlocks_voices {s : State} (hs : VoicesKept s) (hpow : powered s = true) : VoicesKept (resetBlocks s) := by
  obtain ⟨hdomain, hcues, -⟩ := voicesKept_iff.1 hs
  have hunheld := resetBlocks_unheld s
  have hpow' := (powered_of_unheld hunheld).trans hpow
  have hdomain' := domainFits_of_unheld hunheld hdomain
  rw [resetBlocks_eq] at hpow' hdomain' ⊢
  obtain ⟨hvoices, hhomes⟩ := sound_of_reset
    (s := grantParts (resetBlocks s) (resetSequencer (resetSound s))) rfl rfl rfl
  exact voicesKept_iff.2 ⟨hdomain', hcues, hvoices, hhomes, mixerFits_of_reset rfl hpow'⟩

theorem Work.voicesKept {s t : State} (h : Work s t) (hs : VoicesKept s) : VoicesKept t := by
  have hunheld := (works_of h).unheld_eq
  cases h with
  | bus h => exact h.keeps (fun _ => Iff.rfl) hs
  | sound h =>
    obtain ⟨hdomain, hcues, hvoices, hhomes, hmixer⟩ := voicesKept_iff.1 hs
    obtain ⟨hvoices', hhomes', hmixer'⟩ := h.keeps_sound hcues hvoices hhomes hmixer
    have hcues' : CuesKept t := h.keeps (fun _ => Iff.rfl) hcues
    exact voicesKept_iff.2 ⟨domainFits_of_unheld hunheld hdomain, hcues', hvoices', hhomes', hmixer'⟩
  | save h => exact h.keeps (fun _ => Iff.rfl) hs
  | drive h => exact h.keeps (fun _ => Iff.rfl) hs
  | time h =>
    obtain ⟨hdomain, hcues, hsound⟩ := voicesKept_iff.1 hs
    have hsound' : VoicesFit t ∧ HomesKept t ∧ MixerFits t :=
      h.keeps (P := fun u => VoicesFit u ∧ HomesKept u ∧ MixerFits u) (fun _ => Iff.rfl) hsound
    exact voicesKept_iff.2 ⟨domainFits_of_unheld hunheld hdomain, h.cuesKept hcues, hsound'⟩

/-- A change of the supply watch in BATTERY and STARTING. -/
theorem voicesKept_of_supply {s t : State} (hs : VoicesKept s) (hpow : powered s = false) (hpow' : powered t = false)
    (hdomain : DomainFits t) (hcues : CuesKept t) (hvoices : t.voices = s.voices) (htracks : t.tracks = s.tracks)
    (hport : t.port = s.port) (hmixer : t.mixer = s.mixer) : VoicesKept t := by
  obtain ⟨-, -, ⟨hlegal, hgrant⟩, hhomes, hmix⟩ := voicesKept_iff.1 hs
  refine voicesKept_iff.2 ⟨hdomain, hcues, ⟨?_, ?_⟩, ?_, mixerFits_congr hmixer (hpow'.trans hpow.symm) hmix⟩
  · rwa [hvoices]
  · rwa [voiceGrantFits, hport, hvoices]
  · rwa [HomesKept, hvoices, htracks]

/-- Every move keeps the voices, the cues, the stream grant and the DAC code in their ranges. -/
theorem Move.voicesKept {s t : State} (h : Move s t) (hs : VoicesKept s) : VoicesKept t := by
  obtain ⟨hdomain, hcues, hvoices, hhomes, hmixer⟩ := voicesKept_iff.1 hs
  cases h with
  | work h => exact h.voicesKept hs
  | softReset hans => exact resetBlocks_voices hs (powered_of_answered hans)
  | resetLine hpow =>
    exact resetBlocks_voices (s := changeSupply (fun u => { u with crst := true }) s) hs hpow
  | release straps =>
    rw [releaseEffect_eq]
    exact hs
  | attach hvalid =>
    have hbattery := hdomain hvalid
    exact voicesKept_of_supply hs (by simp [powered, hbattery]) rfl (fun _ => rfl) (cuesKept_attached rfl) rfl rfl rfl rfl
  | enterStarting hbattery hvalid =>
    exact voicesKept_of_supply hs (by simp [powered, hbattery]) rfl (fun hv => absurd (hvalid.symm.trans hv) nofun)
      hcues rfl rfl rfl rfl
  | abortStart hstarting =>
    exact voicesKept_of_supply hs (by simp [powered, hstarting]) rfl (fun _ => rfl) hcues rfl rfl rfl rfl
  | powerUp straps hstarting =>
    have hvalid := domain_of_powered hdomain (by simp [hstarting])
    rw [powerUp_eq]
    obtain ⟨hvoices', hhomes'⟩ := sound_of_reset (s := Machine.powerUp straps s)
      (by rw [powerUp_eq]) (by rw [powerUp_eq]) (by rw [powerUp_eq])
    rw [powerUp_eq] at hvoices' hhomes'
    exact voicesKept_iff.2 ⟨fun hv => absurd (hvalid.symm.trans hv) nofun, hcues, hvoices', hhomes',
      mixerFits_of_reset rfl rfl⟩
  | enterWarn hrun =>
    have hunheld := endKick_unheld (beginSpell (setMonitor .warn s))
    have hvalid := domain_of_powered hdomain (by simp [hrun])
    have hpow : powered (Machine.enterWarn s) = powered s := by
      refine (powered_of_unheld hunheld).trans ?_
      simp [powered, beginSpell, setMonitor, changeSupply, hrun]
    have hdomain' : DomainFits (Machine.enterWarn s) :=
      domainFits_of_unheld hunheld fun hv => absurd (hvalid.symm.trans hv) nofun
    rw [Machine.enterWarn, endKick_eq] at hpow hdomain' ⊢
    exact voicesKept_iff.2 ⟨hdomain', hcues, hvoices, hhomes, mixerFits_congr (s := s) rfl hpow hmixer⟩
  | exitWarn hwarn =>
    have hvalid := domain_of_powered hdomain (by simp [hwarn])
    exact voicesKept_iff.2 ⟨fun hv => absurd (hvalid.symm.trans hv) nofun, hcues, hvoices, hhomes,
      mixerFits_congr (s := s) rfl (by simp [powered, setMonitor, changeSupply, hwarn]) hmixer⟩
  | fail =>
    rw [failFromWarn_eq]
    obtain ⟨hvoices', hhomes'⟩ := sound_of_reset (s := failFromWarn s)
      (by rw [failFromWarn_eq]; rfl) (by rw [failFromWarn_eq]; rfl) (by rw [failFromWarn_eq]; rfl)
    rw [failFromWarn_eq] at hvoices' hhomes'
    exact voicesKept_iff.2 ⟨fun _ => rfl, hcues, hvoices', hhomes', Nat.le_refl 16, nofun,
      iff_of_false nofun nofun⟩
  | loseDomain hbattery =>
    exact voicesKept_of_supply hs (by simp [powered, hbattery]) rfl (fun _ => rfl) (cuesKept_attached rfl) rfl rfl rfl rfl
  | slot | commands | assertReset | dropReset | watch => exact hs

/-- Settles O8: every move, the work on voices and tracks operation by operation. -/
theorem voicesStayInRange : Obligations.VoicesStayInRange := fun _ _ hs hstep =>
  step_keeps (P := VoicesKept) (fun _ _ _ h => h) (fun _ _ h hs => h.voicesKept hs) hs hstep

end Sys2Proof.Proofs
end

section
/-! SUPPORT. Every move keeps the tracks in their ranges. Between the events of one tick a track's wait counter does not
yet go with its state; what holds of it then is its core. -/

namespace Sys2Proof.Proofs

open Sys2Proof.Machine Sys2Proof.Safety Sys2Proof.Laws

/-! ## The core of a track record -/

/-- What holds of a track record between two events of one tick. -/
structure TrackCore (r : Track) : Prop where
  time : r.source = .time → 16 ≤ r.period ∧ r.period ≤ 65535
  frame : r.source = .frame → 1 ≤ r.period ∧ r.period ≤ 16
  divider : r.divider ≤ 65534
  room : r.buffer.length ≤ 4
  address : r.active = true → r.fetchAddr = r.nextAddr + BitVec.ofNat 24 (6 * r.buffer.length)
  goesOn : r.buffer.dropLast.all Event.goesOn = true
  mark : ∀ m ∈ r.loopMark, m.remaining ≤ 255
  stopped : r.state = .stopped → r.buffer = [] ∧ r.wait = none ∧ r.loopMark = none

/-- The wait counter goes with the state. -/
structure TrackWaits (r : Track) : Prop where
  range : ∀ w ∈ r.wait, 1 ≤ w ∧ w ≤ 255
  waiting : r.state = .waiting → r.buffer = [] ∧ r.wait = none
  running : r.state = .running → r.buffer ≠ [] ∧ r.wait.isSome = true

theorem trackLegal_iff {r : Track} : TrackLegal r ↔ TrackCore r ∧ TrackWaits r := by
  constructor
  · rintro ⟨htime, hframe, hdiv, hroom, haddr, hgoes, hmark, hwait, hstopped, hwaiting, hrunning⟩
    exact ⟨⟨htime, hframe, hdiv, hroom, haddr, hgoes, hmark, hstopped⟩, ⟨hwait, hwaiting, hrunning⟩⟩
  · rintro ⟨⟨htime, hframe, hdiv, hroom, haddr, hgoes, hmark, hstopped⟩, ⟨hwait, hwaiting, hrunning⟩⟩
    exact ⟨htime, hframe, hdiv, hroom, haddr, hgoes, hmark, hwait, hstopped, hwaiting, hrunning⟩

theorem trackGrantFits_iff {s : State} :
    trackGrantFits s = true ↔ ∀ g ∈ s.port.grant, ∀ k, g.holder = .track k →
      s.tracks[k].active = true ∧ s.tracks[k].buffer.all Event.goesOn = true ∧ s.tracks[k].buffer.length < 4 := by
  unfold trackGrantFits
  cases hg : s.port.grant with
  | none => simp
  | some g =>
    obtain ⟨holder, delivered, reading⟩ := g
    cases holder with
    | voice n => simp
    | track k =>
      simp only [Bool.and_eq_true, decide_eq_true_eq, and_assoc, Option.mem_some_iff]
      constructor
      · rintro h _ rfl j hj
        cases hj
        exact h
      · exact fun h => h _ rfl k rfl

/-- Partly fetched events, and the grant of a track, fit the tracks. -/
def PartsFit (s : State) : Prop :=
  (∀ k : TrackNo, s.port.partials[k].length ≤ 5 ∧ (s.tracks[k].state = .stopped → s.port.partials[k] = [])) ∧
    trackGrantFits s = true

/-- Track k stands between two events of a tick. -/
structure Midway (k : TrackNo) (s : State) : Prop where
  core : TrackCore s.tracks[k]
  others : ∀ j : TrackNo, j ≠ k → TrackLegal s.tracks[j]
  parts : PartsFit s

theorem tracksKept_iff {s : State} (k : TrackNo) : TracksKept s ↔ Midway k s ∧ TrackWaits s.tracks[k] := by
  constructor
  · rintro ⟨htracks, hgrant⟩
    exact ⟨⟨(trackLegal_iff.1 (htracks k).1).1, fun j _ => (htracks j).1, fun j => (htracks j).2, hgrant⟩,
      (trackLegal_iff.1 (htracks k).1).2⟩
  · rintro ⟨⟨hcore, hothers, hparts, hgrant⟩, hwaits⟩
    refine ⟨fun j => ⟨?_, hparts j⟩, hgrant⟩
    by_cases hjk : j = k
    · subst hjk
      exact trackLegal_iff.2 ⟨hcore, hwaits⟩
    · exact hothers j hjk

/-! ## Changes between events -/

/-- The voices' side of the work: tracks and partly fetched events stay, a grant can end. -/
structure VoicesOnly (s t : State) : Prop where
  tracks : t.tracks = s.tracks
  port : PortLess s t

theorem VoicesOnly.refl (s : State) : VoicesOnly s s := ⟨rfl, .refl s⟩

theorem VoicesOnly.trans {s t u : State} (h : VoicesOnly s t) (h' : VoicesOnly t u) : VoicesOnly s u :=
  ⟨h'.tracks.trans h.tracks, h.port.trans h'.port⟩

theorem partsFit_of {s t : State} (h : PartsFit s) (hstopped : ∀ k : TrackNo, t.tracks[k].state = .stopped →
      s.tracks[k].state = .stopped) (hbuffer : ∀ k : TrackNo, t.tracks[k].buffer <:+ s.tracks[k].buffer)
    (hport : PortLess s t) : PartsFit t := by
  obtain ⟨hparts, hgrant⟩ := h
  refine ⟨fun k => ?_, trackGrantFits_iff.2 fun g hg k hk => ?_⟩
  · rw [hport.partials]
    exact ⟨(hparts k).1, fun h => (hparts k).2 (hstopped k h)⟩
  · obtain ⟨hactive, hall, hroom⟩ := trackGrantFits_iff.1 hgrant g (hport.grant g hg) k hk
    refine ⟨?_, ?_, (hbuffer k).length_le.trans_lt hroom⟩
    · simp only [Track.active, bne_iff_ne] at hactive ⊢
      exact fun h => hactive (hstopped k h)
    · exact List.all_eq_true.2 fun e he => List.all_eq_true.1 hall e ((hbuffer k).subset he)

theorem VoicesOnly.midway {s t : State} {k : TrackNo} (h : VoicesOnly s t) (hs : Midway k s) : Midway k t := by
  obtain ⟨hcore, hothers, hparts⟩ := hs
  refine ⟨?_, ?_, partsFit_of hparts (fun j => ?_) (fun j => ?_) h.port⟩
  · rwa [h.tracks]
  · rwa [h.tracks]
  · rw [h.tracks]
    exact fun h => h
  · rw [h.tracks]

theorem VoicesOnly.tracksKept {s t : State} (h : VoicesOnly s t) (hs : TracksKept s) : TracksKept t := by
  obtain ⟨hmid, hwaits⟩ := (tracksKept_iff 0).1 hs
  refine (tracksKept_iff 0).2 ⟨h.midway hmid, ?_⟩
  rwa [h.tracks]

/-- The track's record changes, with no event more in its buffer. -/
theorem Midway.setTrack {s : State} {k : TrackNo} {r : Track} (hs : Midway k s) (hcore : TrackCore r)
    (hstopped : r.state = .stopped → s.tracks[k].state = .stopped) (hbuffer : r.buffer <:+ s.tracks[k].buffer) :
    Midway k (setTrack k r s) := by
  refine ⟨?_, fun j hj => ?_, partsFit_of hs.parts (fun j => ?_) (fun j => ?_) ⟨rfl, fun _ h => h⟩⟩
  · rwa [getElem_setTrack, if_pos rfl]
  · rw [getElem_setTrack, if_neg hj]
    exact hs.others j hj
  · rw [getElem_setTrack]
    split
    next h => subst h; exact hstopped
    · exact fun h => h
  · rw [getElem_setTrack]
    split
    next h => subst h; exact hbuffer
    · exact List.suffix_refl _

/-- The track's fetch is flushed, and its record takes an empty buffer. -/
theorem Midway.flushed {s : State} {k : TrackNo} {r : Track} {u : State} (hs : Midway k s) (hcore : TrackCore r)
    (htracks : u.tracks = s.tracks.set k.val r k.isLt)
    (hpartials : u.port.partials = s.port.partials.set k.val [] k.isLt)
    (hgrant : ∀ g ∈ u.port.grant, g ∈ s.port.grant ∧ g.holder ≠ .track k) : Midway k u := by
  obtain ⟨-, hothers, hparts, hfits⟩ := hs
  have hother (j : TrackNo) (hj : j ≠ k) : u.tracks[j] = s.tracks[j] := by
    rw [htracks]
    exact getElem_setTrack_ne hj ..
  refine ⟨?_, fun j hj => ?_, fun j => ?_, trackGrantFits_iff.2 fun g hg j hj => ?_⟩
  · rw [htracks]
    simpa using hcore
  · rw [hother j hj]
    exact hothers j hj
  · by_cases hjk : j = k
    · subst hjk
      rw [hpartials]
      simp
    · have hsame : u.port.partials[j] = s.port.partials[j] := by
        rw [hpartials]
        exact Vector.getElem_set_ne _ _ (Fin.val_ne_of_ne (Ne.symm hjk))
      rw [hsame, hother j hjk]
      exact hparts j
  · obtain ⟨hold, hne⟩ := hgrant g hg
    have hjk : j ≠ k := by
      rintro rfl
      exact hne hj
    rw [hother j hjk]
    exact trackGrantFits_iff.1 hfits g hold j hj

theorem halted_core {r : Track} (h : TrackCore r) : TrackCore (halted r) :=
  ⟨h.time, h.frame, h.divider, Nat.zero_le _, nofun, rfl, nofun, fun _ => ⟨rfl, rfl, rfl⟩⟩

theorem Midway.stopTrack {s : State} {k : TrackNo} (hs : Midway k s) : Midway k (stopTrack k s) :=
  hs.flushed (halted_core hs.core) (by rw [stopTrack_eq]) (stopTrack_partials k s) (stopTrack_grant k s)

/-! ## Events -/

/-- An event's work keeps a track midway, its buffer taking nothing in. -/
structure EventKeeps (k : TrackNo) (s t : State) : Prop where
  midway : Midway k s → Midway k t
  buffer : t.tracks[k].buffer <:+ s.tracks[k].buffer

theorem EventKeeps.refl (k : TrackNo) (s : State) : EventKeeps k s s := ⟨fun h => h, List.suffix_refl _⟩

theorem EventKeeps.trans {k : TrackNo} {s t u : State} (h : EventKeeps k s t) (h' : EventKeeps k t u) :
    EventKeeps k s u :=
  ⟨fun hs => h'.midway (h.midway hs), h'.buffer.trans h.buffer⟩

theorem VoicesOnly.event {k : TrackNo} {s t : State} (h : VoicesOnly s t) : EventKeeps k s t :=
  ⟨h.midway, by rw [h.tracks]⟩

theorem voicesOnly_setFault (f : FaultFlag) (s : State) : VoicesOnly s (setFault f s) := by
  rw [setFault_eq]
  exact ⟨rfl, ⟨rfl, fun _ h => h⟩⟩

theorem voicesOnly_latchMarker (k : TrackNo) (s : State) : VoicesOnly s (latchMarker k s) := by
  unfold latchMarker
  split
  · exact ⟨rfl, ⟨rfl, fun _ h => h⟩⟩
  · exact .refl s

theorem voicesOnly_putVoice (n : VoiceNo) (v : Voice) (s : State) : VoicesOnly s (putVoice n v s) :=
  ⟨by rw [putVoice_eq], putVoice_portLess n v s⟩

theorem voicesOnly_setVoice (n : VoiceNo) (v : Voice) (s : State) : VoicesOnly s (setVoice n v s) :=
  ⟨rfl, ⟨rfl, fun _ h => h⟩⟩

theorem voicesOnly_endGrant (x : Holder) (s : State) : VoicesOnly s (endGrant x s) := ⟨rfl, endGrant_portLess x s⟩

theorem voicesOnly_noteRequest (e : Event) (n : VoiceNo) (s : State) : VoicesOnly s (noteRequest e n s) := by
  unfold noteRequest
  split
  next t ht =>
    unfold startNote at ht
    split at ht
    · nomatch ht
    next snap _ =>
      cases ht
      exact (voicesOnly_setVoice n _ s).trans (voicesOnly_endGrant (.voice n) _)
  · exact voicesOnly_setFault ..

theorem voicesOnly_voiceRequest {k : TrackNo} {e : Event} {request : VoiceNo → State → State}
    (h : ∀ n s, VoicesOnly s (request n s)) (s : State) : VoicesOnly s (voiceRequest k e request s) := by
  unfold voiceRequest
  split
  · exact voicesOnly_setFault ..
  · split
    · exact h ..
    · exact .refl s

/-- An event of a running track that sets a field of its record. -/
theorem event_changeTrack {k : TrackNo} {f : Track → Track} {s : State}
    (hcore : TrackCore s.tracks[k] → TrackCore (f s.tracks[k])) (hstate : (f s.tracks[k]).state = s.tracks[k].state)
    (hbuffer : (f s.tracks[k]).buffer = s.tracks[k].buffer) : EventKeeps k s (changeTrack k f s) := by
  refine ⟨fun h => h.setTrack (hcore h.core) (fun hs => hstate ▸ hs) (by rw [hbuffer]), ?_⟩
  unfold changeTrack
  rw [getElem_setTrack, if_pos rfl, hbuffer]

theorem tempoPeriod_range (source : Source) (v : Word16) :
    (source = .time → 16 ≤ tempoPeriod source v.toNat ∧ tempoPeriod source v.toNat ≤ 65535) ∧
      (source = .frame → 1 ≤ tempoPeriod source v.toNat ∧ tempoPeriod source v.toNat ≤ 16) := by
  have hv := v.isLt
  cases source with
  | time =>
    refine ⟨fun _ => ?_, nofun⟩
    simp only [tempoPeriod]
    omega
  | frame =>
    refine ⟨nofun, fun _ => ?_⟩
    simp only [tempoPeriod]
    omega

theorem jumpBack_core {r : Track} {m m' : LoopMark} (h : TrackCore r) (hactive : r.state ≠ .stopped)
    (hm : m'.remaining ≤ 255) :
    TrackCore { r with nextAddr := m.addr, fetchAddr := m.addr, buffer := [], wait := none, loopMark := some m' } :=
  ⟨h.time, h.frame, h.divider, Nat.zero_le _, fun _ => by simp, rfl, fun _ hx => by cases hx; exact hm,
    fun hs => absurd hs hactive⟩

/-- A running track's event keeps it midway. -/
theorem event_performEvent {k : TrackNo} {s : State} (e : Event) (hactive : s.tracks[k].state ≠ .stopped) :
    EventKeeps k s (performEvent k e s) := by
  have hstop (u : State) (hu : EventKeeps k s u) : EventKeeps k s (stopTrack k u) := by
    refine ⟨fun h => (hu.midway h).stopTrack, ?_⟩
    rw [stopTrack_tracks_self]
    exact List.nil_suffix
  unfold performEvent
  split
  · exact hstop s (.refl k s)
  · exact (voicesOnly_voiceRequest (voicesOnly_noteRequest e) s).event
  · exact (voicesOnly_voiceRequest (fun n s => voicesOnly_putVoice n s.voices[n].releaseRequest s) s).event
  · exact (voicesOnly_voiceRequest (fun n s => voicesOnly_setVoice n _ s) s).event
  · exact (voicesOnly_voiceRequest (fun n s => voicesOnly_setVoice n _ s) s).event
  · exact (voicesOnly_voiceRequest (fun n s => voicesOnly_setVoice n _ s) s).event
  · refine event_changeTrack (fun h => ?_) rfl rfl
    obtain ⟨htime, hframe⟩ := tempoPeriod_range s.tracks[k].source e.value
    exact ⟨htime, hframe, h.divider, h.room, h.address, h.goesOn, h.mark, h.stopped⟩
  · refine event_changeTrack (fun h => ?_) rfl rfl
    refine ⟨h.time, h.frame, h.divider, h.room, h.address, h.goesOn, ?_, fun hs => absurd hs hactive⟩
    rintro m ⟨⟩
    exact Nat.le_of_lt_succ e.extra.isLt
  · unfold backRequest
    split
    · exact .refl k s
    next m hm =>
      split
      · refine ⟨fun h => ?_, ?_⟩
        · have hmark := h.core.mark m hm
          refine h.flushed (jumpBack_core (m := m) h.core hactive (m' := { m with
            remaining := if m.forever then m.remaining else m.remaining - 1 }) ?_) rfl rfl fun g hg => ?_
          · simp only
            split <;> omega
          · obtain ⟨hg, hne⟩ := Option.filter_eq_some_iff.1 hg
            exact ⟨hg, by simpa using hne⟩
        · have hempty : (jumpBack k m s).tracks[k].buffer = [] := by simp [jumpBack, flushFetch, endGrant, changeTrack]
          rw [hempty]
          exact List.nil_suffix
      · refine event_changeTrack (fun h => ?_) rfl rfl
        exact ⟨h.time, h.frame, h.divider, h.room, h.address, h.goesOn, nofun, fun hs => absurd hs hactive⟩
  · have hmarked : EventKeeps k s (changeTrack k (fun r => { r with marker := e.extra }) s) :=
      event_changeTrack (fun h => ⟨h.time, h.frame, h.divider, h.room, h.address, h.goesOn, h.mark, h.stopped⟩) rfl rfl
    exact hmarked.trans (voicesOnly_latchMarker k _).event
  · exact hstop _ (voicesOnly_setFault .badEvent s).event

/-- The head of a running track's buffer is acted on. -/
theorem event_actOnEvent {k : TrackNo} {s : State} {e : Event} {rest : List Event} (hs : Midway k s)
    (hactive : s.tracks[k].state ≠ .stopped) (hbuffer : s.tracks[k].buffer = e :: rest) :
    Midway k (actOnEvent k e rest s) ∧ (actOnEvent k e rest s).tracks[k].buffer <:+ rest := by
  have hleft : Midway k (changeTrack k
      (fun r => { r with buffer := rest, wait := none, nextAddr := r.nextAddr + 6 }) s) := by
    have hcore := hs.core
    refine hs.setTrack ⟨hcore.time, hcore.frame, hcore.divider, ?_, fun ha => ?_, ?_, hcore.mark, fun h => absurd h hactive⟩
      (fun h => h) (by rw [hbuffer]; exact List.suffix_cons e rest)
    · have := hcore.room
      rw [hbuffer, List.length_cons] at this
      exact (Nat.le_succ _).trans this
    · have haddr := hcore.address ha
      rw [hbuffer, List.length_cons, Nat.mul_succ, Nat.add_comm, BitVec.ofNat_add, ← BitVec.add_assoc] at haddr
      exact haddr
    · have hgoes := hcore.goesOn
      rw [hbuffer] at hgoes
      cases rest with
      | nil => rfl
      | cons f rest =>
        rw [List.dropLast_cons_of_ne_nil (List.cons_ne_nil f rest), List.all_cons, Bool.and_eq_true] at hgoes
        exact hgoes.2
  have hself : (changeTrack k (fun r => { r with buffer := rest, wait := none, nextAddr := r.nextAddr + 6 }) s).tracks[k]
      = { s.tracks[k] with buffer := rest, wait := none, nextAddr := s.tracks[k].nextAddr + 6 } := by
    simp [changeTrack]
  have hevent := event_performEvent (k := k) e (s := changeTrack k
    (fun r => { r with buffer := rest, wait := none, nextAddr := r.nextAddr + 6 }) s) (by rw [hself]; exact hactive)
  refine ⟨hevent.midway hleft, ?_⟩
  have hsuffix := hevent.buffer
  rw [hself] at hsuffix
  exact hsuffix

theorem byte_toNat_range {b : Byte} (h : b ≠ 0) : 1 ≤ b.toNat ∧ b.toNat ≤ 255 := by
  have hlt := b.isLt
  have hne : b.toNat ≠ 0 := fun h0 => h (BitVec.eq_of_toNat_eq (by simpa using h0))
  omega

/-- A track with nothing behind the event waits for more. -/
theorem waiting_kept {k : TrackNo} {s : State} (hs : Midway k s) (hactive : s.tracks[k].state ≠ .stopped)
    (hbuffer : s.tracks[k].buffer = []) :
    TracksKept (changeTrack k (fun r => { r with state := .waiting, wait := none }) s) := by
  have hcore := hs.core
  refine (tracksKept_iff k).2 ⟨hs.setTrack ⟨hcore.time, hcore.frame, hcore.divider, hcore.room, fun _ => ?_, hcore.goesOn,
    hcore.mark, nofun⟩ nofun (List.suffix_refl _), ?_⟩
  · exact hcore.address (by simpa [Track.active] using hactive)
  · unfold changeTrack
    rw [getElem_setTrack, if_pos rfl]
    exact ⟨nofun, fun _ => ⟨hbuffer, rfl⟩, nofun⟩

/-- A head with a delta waits for it. -/
theorem running_kept {k : TrackNo} {s : State} {e : Event} {rest : List Event} (hs : Midway k s)
    (hactive : s.tracks[k].state ≠ .stopped) (hbuffer : s.tracks[k].buffer = e :: rest) (hdelta : e.delta ≠ 0) :
    TracksKept (changeTrack k (fun r => { r with state := .running, wait := some e.delta.toNat }) s) := by
  have hcore := hs.core
  refine (tracksKept_iff k).2 ⟨hs.setTrack ⟨hcore.time, hcore.frame, hcore.divider, hcore.room, fun _ => ?_, hcore.goesOn,
    hcore.mark, nofun⟩ nofun (List.suffix_refl _), ?_⟩
  · exact hcore.address (by simpa [Track.active] using hactive)
  · unfold changeTrack
    rw [getElem_setTrack, if_pos rfl]
    refine ⟨fun w hw => ?_, nofun, fun _ => ⟨?_, rfl⟩⟩
    · cases hw
      exact byte_toNat_range hdelta
    · exact fun h => nomatch hbuffer.symm.trans h

/-- With fuel for every event that stands, the loading of the head ends with the track in its ranges. -/
theorem loadHead_kept {n : Nat} {k : TrackNo} {s : State} (hs : Midway k s) (hn : s.tracks[k].buffer.length ≤ n) :
    TracksKept (loadHead n k s) := by
  have hstill (u : State) (hu : Midway k u) (hstopped : u.tracks[k].state = .stopped) : TracksKept u := by
    obtain ⟨-, hwait, -⟩ := hu.core.stopped hstopped
    refine (tracksKept_iff k).2 ⟨hu, ⟨?_, ?_, ?_⟩⟩
    · rw [hwait]
      nofun
    all_goals exact fun h => nomatch hstopped.symm.trans h
  induction n generalizing s with
  | zero =>
    have hempty : s.tracks[k].buffer = [] := List.eq_nil_of_length_eq_zero (Nat.le_zero.1 hn)
    unfold loadHead
    split
    next h => exact hstill s hs h
    next h =>
      split
      · exact waiting_kept hs h hempty
      next hcons => exact absurd (hempty.symm.trans hcons) nofun
  | succ n ih =>
    unfold loadHead
    split
    next h => exact hstill s hs h
    next h =>
      split
      next hempty => exact waiting_kept hs h hempty
      next e rest hbuffer =>
        split
        · obtain ⟨hmid, hsuffix⟩ := event_actOnEvent hs h hbuffer
          refine ih hmid (hsuffix.length_le.trans ?_) hstill
          rw [hbuffer, List.length_cons] at hn
          omega
        next hdelta => exact running_kept hs h hbuffer hdelta

/-! ## Ticks and deliveries -/

theorem actOnHead_kept {k : TrackNo} {s : State} (hs : Midway k s) (hactive : s.tracks[k].state ≠ .stopped)
    (hbuffer : s.tracks[k].buffer ≠ []) : TracksKept (actOnHead k s) := by
  unfold actOnHead
  split
  next h => exact absurd h hbuffer
  next e rest h =>
    obtain ⟨hmid, hsuffix⟩ := event_actOnEvent hs hactive h
    exact loadHead_kept hmid hsuffix.length_le

/-- A change of the record that leaves buffer, state and addresses. -/
theorem core_of_count {r : Track} {d : Nat} {w : Option Nat} (h : TrackCore r) (hd : d ≤ 65534)
    (hw : r.state ≠ .stopped) : TrackCore { r with divider := d, wait := w } :=
  ⟨h.time, h.frame, hd, h.room, h.address, h.goesOn, h.mark, fun hs => absurd hs hw⟩

theorem trackTick_kept {k : TrackNo} {s : State} (hs : TracksKept s) : TracksKept (trackTick k s) := by
  obtain ⟨hmid, hwaits⟩ := (tracksKept_iff k).1 hs
  unfold trackTick
  simp only
  split
  · exact hs
  · exact (voicesOnly_setFault .seqLate s).tracksKept hs
  next hrunning =>
    have hactive : s.tracks[k].state ≠ .stopped := fun h => nomatch hrunning.symm.trans h
    obtain ⟨hbuffer, -⟩ := hwaits.running hrunning
    have hset (w : Nat) : Midway k (setTrack k { s.tracks[k] with wait := some w } s) :=
      hmid.setTrack (core_of_count hmid.core hmid.core.divider hactive) (fun h => h) (List.suffix_refl _)
    split
    next w hw =>
      split
      · refine actOnHead_kept (hset 0) ?_ ?_
        · rw [getElem_setTrack, if_pos rfl]
          exact hactive
        · rw [getElem_setTrack, if_pos rfl]
          exact hbuffer
      next hmore =>
        refine (tracksKept_iff k).2 ⟨hset (w - 1), ?_⟩
        have hrange := hwaits.range w hw
        rw [getElem_setTrack, if_pos rfl]
        refine ⟨fun w' hw' => ?_, fun h => (nomatch hrunning.symm.trans h), fun _ => ⟨hbuffer, rfl⟩⟩
        cases hw'
        omega
    · exact hs

/-- The divider changes. -/
theorem divider_kept {k : TrackNo} {s : State} {d : Nat} (hs : TracksKept s) (hactive : s.tracks[k].active = true)
    (hd : d ≤ 65534) : TracksKept (setTrack k { s.tracks[k] with divider := d } s) := by
  obtain ⟨hmid, hwaits⟩ := (tracksKept_iff k).1 hs
  refine (tracksKept_iff k).2 ⟨hmid.setTrack ?_ (fun h => h) (List.suffix_refl _), ?_⟩
  · exact core_of_count hmid.core hd (by simpa [Track.active] using hactive)
  · rw [getElem_setTrack, if_pos rfl]
    exact ⟨hwaits.range, hwaits.waiting, hwaits.running⟩

theorem period_le {r : Track} (h : TrackCore r) : r.period ≤ 65535 := by
  cases hs : r.source with
  | time => exact (h.time hs).2
  | frame => exact (h.frame hs).2.trans (by decide)

theorem countTrack_kept {k : TrackNo} {s : State} (hs : TracksKept s) (hactive : s.tracks[k].active = true) :
    TracksKept (countTrack k s) := by
  unfold countTrack
  simp only
  split
  · exact trackTick_kept (divider_kept hs hactive (Nat.zero_le _))
  next hlow =>
    have hperiod := period_le ((tracksKept_iff k).1 hs).1.core
    exact divider_kept hs hactive (by omega)

theorem fullTick_kept {k : TrackNo} {s : State} (hs : TracksKept s) (hactive : s.tracks[k].active = true) :
    TracksKept (fullTick k s) :=
  trackTick_kept (divider_kept hs hactive (Nat.zero_le _))

/-- An event joins the buffer of a running track that has room and fetches on. -/
theorem joinEvent_kept {k : TrackNo} {s : State} {e : Event} (hs : TracksKept s) (hfree : s.port.grant = none)
    (hactive : s.tracks[k].active = true) (hgoes : s.tracks[k].buffer.all Event.goesOn = true)
    (hroom : s.tracks[k].buffer.length < 4) : TracksKept (joinEvent k e s) := by
  obtain ⟨hmid, hwaits⟩ := (tracksKept_iff k).1 hs
  have hcore := hmid.core
  have hrunning : s.tracks[k].state ≠ .stopped := by simpa [Track.active] using hactive
  have hself : (changeTrack k (fun r => { r with buffer := r.buffer ++ [e], fetchAddr := r.fetchAddr + 6 }) s).tracks[k] =
      { s.tracks[k] with buffer := s.tracks[k].buffer ++ [e], fetchAddr := s.tracks[k].fetchAddr + 6 } := by
    simp [changeTrack]
  have hother (j : TrackNo) (hj : j ≠ k) :
      (changeTrack k (fun r => { r with buffer := r.buffer ++ [e], fetchAddr := r.fetchAddr + 6 }) s).tracks[j] =
        s.tracks[j] := getElem_setTrack_ne hj ..
  have hjoined : Midway k (changeTrack k
      (fun r => { r with buffer := r.buffer ++ [e], fetchAddr := r.fetchAddr + 6 }) s) := by
    refine ⟨?_, fun j hj => ?_, fun j => ?_, trackGrantFits_iff.2 fun g hg => ?_⟩
    · rw [hself]
      refine ⟨hcore.time, hcore.frame, hcore.divider, ?_, fun ha => ?_, ?_, hcore.mark, fun h => absurd h hrunning⟩
      · simpa using hroom
      · have haddr := hcore.address ha
        rw [List.length_append, List.length_singleton, Nat.mul_succ, BitVec.ofNat_add, ← BitVec.add_assoc]
        exact congrArg (· + 6) haddr
      · simpa using hgoes
    · rw [hother j hj]
      exact hmid.others j hj
    · by_cases hjk : j = k
      · subst hjk
        rw [hself]
        exact hmid.parts.1 j
      · rw [hother j hjk]
        exact hmid.parts.1 j
    · exact nomatch hfree.symm.trans hg
  unfold joinEvent
  simp only
  split
  · exact loadHead_kept hjoined (Nat.le_refl _)
  next hwaiting =>
    refine (tracksKept_iff k).2 ⟨hjoined, ?_⟩
    rw [hself]
    have hnotwaiting : s.tracks[k].state ≠ .waiting := fun h => hwaiting (beq_iff_eq.2 h)
    exact ⟨hwaits.range, fun h => absurd h hnotwaiting, fun h => ⟨by simp, (hwaits.running h).2⟩⟩

theorem eventOf_eq_none_of_length {l : List Byte} (h : eventOf l = none) : l.length ≠ 6 := by
  intro hlen
  obtain ⟨a, b, c, d, e, f, rfl⟩ : ∃ a b c d e f, l = [a, b, c, d, e, f] := by
    match l, hlen with
    | [a, b, c, d, e, f], _ => exact ⟨a, b, c, d, e, f, rfl⟩
  nomatch h

/-- A byte delivered to a track: the sixth completes an event, the others are kept. -/
theorem deliverTrack_kept {g : Grant} {k : TrackNo} {s : State} (hs : TracksKept s) (hgrant : s.port.grant = some g)
    (hholder : g.holder = .track k) : TracksKept (deliverTrack g k s) := by
  obtain ⟨htracks, hfits⟩ := hs
  obtain ⟨hactive, hgoes, hroom⟩ := trackGrantFits_iff.1 hfits g hgrant k hholder
  have hparts (l : List Byte) (hl : l.length ≤ 5) (j : TrackNo) :
      (s.port.partials.set k.val l k.isLt)[j].length ≤ 5 ∧
        (s.tracks[j].state = .stopped → (s.port.partials.set k.val l k.isLt)[j] = []) := by
    by_cases hjk : j = k
    · subst hjk
      have hrunning : s.tracks[j].state ≠ .stopped := by simpa [Track.active] using hactive
      exact ⟨by simpa using hl, fun h => absurd h hrunning⟩
    · have hsame : (s.port.partials.set k.val l k.isLt)[j] = s.port.partials[j] :=
        Vector.getElem_set_ne _ _ (Fin.val_ne_of_ne (Ne.symm hjk))
      rw [hsame]
      exact (htracks j).2
  unfold deliverTrack
  simp only
  split
  next e he =>
    refine joinEvent_kept ⟨fun j => ⟨(htracks j).1, hparts [] (by decide) j⟩, rfl⟩ rfl hactive hgoes hroom
  next hpart =>
    have hlen := eventOf_eq_none_of_length hpart
    have hold := (htracks k).2.1
    rw [List.length_append, List.length_singleton] at hlen
    refine ⟨fun j => ⟨(htracks j).1, hparts _ (by rw [List.length_append, List.length_singleton]; omega) j⟩,
      trackGrantFits_iff.2 fun g' hg' j hj => ?_⟩
    simp only [setGrant, Grant.afterByte] at hg'
    split at hg'
    · nomatch hg'
    · cases hg'
      cases hholder.symm.trans hj
      exact ⟨hactive, hgoes, hroom⟩

theorem started_legal {r : Track} (h : StartedTrack r) : TrackLegal r := by
  obtain ⟨address, mask, source, period, rfl, hallowed, hperiod⟩ := h
  refine trackLegal_iff.2 ⟨⟨fun hs => ?_, fun hs => ?_, Nat.zero_le _, Nat.zero_le _, fun _ => by simp [Track.started], rfl,
    nofun, nofun⟩, ⟨nofun, fun _ => ⟨rfl, rfl⟩, nofun⟩⟩
  · cases (show source = .time from hs)
    exact ⟨of_decide_eq_true hallowed, hperiod⟩
  · cases (show source = .frame from hs)
    simpa [periodAllowed, Track.started] using hallowed

theorem halting_midway {k : TrackNo} {s : State} (hs : TracksKept s) : Midway k (halting k s) := by
  have hmid := ((tracksKept_iff k).1 hs).1
  unfold halting
  split
  · exact hmid.stopTrack
  · exact hmid

theorem startTrack_kept {k : TrackNo} {r : Track} {s : State} (hs : TracksKept s) (hr : StartedTrack r) :
    TracksKept (startTrack k r s) := by
  obtain ⟨hcore, hwaits⟩ := trackLegal_iff.1 (started_legal hr)
  have hstarted : Midway k (flushFetch k (setTrack k r (halting k s))) :=
    (halting_midway hs).flushed hcore rfl rfl fun g hg => by
      obtain ⟨hg, hne⟩ := Option.filter_eq_some_iff.1 hg
      exact ⟨hg, by simpa using hne⟩
  rw [startTrack_eq]
  refine (tracksKept_iff k).2 ⟨VoicesOnly.midway (s := flushFetch k (setTrack k r (halting k s))) ⟨rfl, rfl, fun _ h => h⟩ hstarted, ?_⟩
  have hself : (flushFetch k (setTrack k r (halting k s))).tracks[k] = r := getElem_setTrack_self k r (halting k s).tracks
  exact (show TrackWaits (flushFetch k (setTrack k r (halting k s))).tracks[k] from hself ▸ hwaits)

/-- The work on voices, tracks and port keeps the tracks in their ranges. -/
theorem SoundWork.tracksKept {s t : State} (h : SoundWork s t) (hs : TracksKept s) : TracksKept t := by
  cases h with
  | endGrant x => exact (voicesOnly_endGrant x s).tracksKept hs
  | interrupt =>
    obtain ⟨htracks, hfits⟩ := hs
    refine ⟨htracks, trackGrantFits_iff.2 fun g hg k hk => ?_⟩
    obtain ⟨g', hg', rfl⟩ := Option.map_eq_some_iff.1 hg
    exact trackGrantFits_iff.1 hfits g' hg' k hk
  | voice n v => exact (voicesOnly_setVoice n v s).tracksKept hs
  | master | dac => exact hs
  | start k r hr => exact startTrack_kept hs hr
  | stop k =>
    have hmid := ((tracksKept_iff k).1 hs).1.stopTrack
    refine (tracksKept_iff k).2 ⟨hmid, ?_⟩
    rw [stopTrack_tracks_self]
    exact ⟨nofun, nofun, nofun⟩
  | count k hactive => exact countTrack_kept hs hactive
  | tick k hactive => exact fullTick_kept hs hactive
  | arbitrate x hidle hnext =>
    obtain ⟨htracks, hfits⟩ := hs
    refine ⟨htracks, trackGrantFits_iff.2 fun g hg k hk => ?_⟩
    cases hg
    rcases nextHolder_requests hnext with ⟨n, rfl, -⟩ | ⟨j, rfl, hreq⟩
    · nomatch hk
    · cases hk
      simp only [trackRequests, Bool.and_eq_true] at hreq
      exact ⟨hreq.1.1, hreq.1.2, of_decide_eq_true hreq.2⟩
  | deliverVoice g n hgrant hholder =>
    obtain ⟨htracks, hfits⟩ := hs
    refine ⟨htracks, trackGrantFits_iff.2 fun g' hg' k hk => ?_⟩
    simp only [Machine.deliverVoice, setGrant, Grant.afterByte] at hg'
    split at hg'
    · nomatch hg'
    · cases hg'
      exact nomatch hholder.symm.trans hk
  | deliverTrack g k hgrant hholder => exact deliverTrack_kept hs hgrant hholder

/-! ## Every move -/

/-- The tracks and the port of a reset. -/
theorem tracksKept_of_reset {s : State} (htracks : s.tracks = initialTracks) (hport : s.port = .idle) :
    TracksKept s := by
  have hinitial : TrackLegal .initial :=
    trackLegal_iff.2 ⟨⟨fun _ => by decide, nofun, by decide, by decide, nofun, rfl, nofun, fun _ => ⟨rfl, rfl, rfl⟩⟩,
      ⟨nofun, nofun, nofun⟩⟩
  have hparts (k : TrackNo) : RomPort.idle.partials[k] = [] := by fin_cases k <;> rfl
  refine ⟨fun k => ?_, ?_⟩
  · rw [htracks, hport, getElem_initialTracks, hparts]
    exact ⟨hinitial, by decide, fun _ => rfl⟩
  · rw [trackGrantFits_iff, hport]
    nofun

theorem Move.tracksKept {s t : State} (h : Move s t) (hs : TracksKept s) : TracksKept t := by
  cases h with
  | work h =>
    cases h with
    | bus h => exact h.keeps (fun _ => Iff.rfl) hs
    | sound h => exact h.tracksKept hs
    | save h => exact h.keeps (fun _ => Iff.rfl) hs
    | drive h => exact h.keeps (fun _ => Iff.rfl) hs
    | time h => exact h.keeps (fun _ => Iff.rfl) hs
  | softReset =>
    rw [resetBlocks_eq]
    exact tracksKept_of_reset rfl rfl
  | resetLine =>
    rw [resetLineEffect, resetBlocks_eq]
    exact tracksKept_of_reset rfl rfl
  | release straps =>
    rw [releaseEffect_eq]
    exact hs
  | powerUp straps =>
    rw [powerUp_eq]
    exact tracksKept_of_reset rfl rfl
  | enterWarn =>
    rw [Machine.enterWarn, endKick_eq]
    exact hs
  | fail =>
    rw [failFromWarn_eq]
    exact tracksKept_of_reset rfl rfl
  | slot | commands | assertReset | dropReset | attach | enterStarting | abortStart | exitWarn | loseDomain | watch =>
    exact hs

theorem Move.homesKept {s t : State} (h : Move s t) (hs : HomesKept s) : HomesKept t := by
  cases h with
  | work h =>
    cases h with
    | bus h => exact h.keeps (fun _ => Iff.rfl) hs
    | sound h => exact h.homesKept hs
    | save h => exact h.keeps (fun _ => Iff.rfl) hs
    | drive h => exact h.keeps (fun _ => Iff.rfl) hs
    | time h => exact h.keeps (fun _ => Iff.rfl) hs
  | softReset =>
    rw [resetBlocks_eq]
    exact homesKept_of_reset rfl rfl
  | resetLine =>
    rw [resetLineEffect, resetBlocks_eq]
    exact homesKept_of_reset rfl rfl
  | release straps =>
    rw [releaseEffect_eq]
    exact hs
  | powerUp straps =>
    rw [powerUp_eq]
    exact homesKept_of_reset rfl rfl
  | enterWarn =>
    rw [Machine.enterWarn, endKick_eq]
    exact hs
  | fail =>
    rw [failFromWarn_eq]
    exact homesKept_of_reset rfl rfl
  | slot | commands | assertReset | dropReset | attach | enterStarting | abortStart | exitWarn | loseDomain | watch =>
    exact hs

/-- Settles O9: every move, the work on tracks event by event. -/
theorem tracksAndHomesStayInRange : Obligations.TracksAndHomesStayInRange := fun _ _ hstep =>
  ⟨fun hs => step_keeps (P := TracksKept) (fun _ _ _ h => h) (fun _ _ h hs => h.tracksKept hs) hs hstep,
   fun hs => step_keeps (P := HomesKept) (fun _ _ _ h => h) (fun _ _ h hs => h.homesKept hs) hs hstep⟩

end Sys2Proof.Proofs
end

section
/-! A step is the front command's effect; every command answers a next state and leaves the ROM and the other waiting
commands as they were. -/

namespace Sys2Proof.Proofs

open Sys2Proof.Machine Sys2Proof.Safety Sys2Proof.Laws

/-- Settles O1: the step's own equation for a queue that holds a command. -/
theorem stepRunsFrontCommand : Obligations.StepRunsFrontCommand := fun _ _ _ => rfl

/-! ## Every command answers -/

/-- The outcome is a next state. -/
def Continues (o : Host.Outcome State Fault Refusal) : Prop := ∃ t, o = .next t

theorem continues_next (t : State) : Continues (.next t) := ⟨t, rfl⟩

theorem continues_ite {p : Prop} [Decidable p] {a b : Host.Outcome State Fault Refusal} (ha : Continues a)
    (hb : Continues b) : Continues (if p then a else b) := by
  split
  · exact ha
  · exact hb

theorem continues_guarded (p : Prop) [Decidable p] (t s : State) :
    Continues (if p then .next t else .next s) := continues_ite (continues_next t) (continues_next s)

theorem continues_command (c : Instr) (s : State) (f : State → State) : Continues (command c s f) := by
  rcases command_cases c s f with h | ⟨_, _, h⟩
  · exact ⟨_, h⟩
  · exact ⟨_, h⟩

theorem continues_messageRefused (msg : List Byte) (s : State) : Continues (execMessageRefused msg s) := by
  unfold execMessageRefused
  split
  · exact continues_next _
  · exact continues_next s

theorem continues_engineStart (s : State) : Continues (execEngineStart s) := by
  unfold execEngineStart
  refine continues_ite ?_ (continues_next s)
  split
  · exact continues_next _
  · exact continues_next s

theorem continues_sweepStep (s : State) : Continues (execSweepStep s) := by
  unfold execSweepStep
  by_cases h : s.engine.sweep < 8
  · rw [dif_pos h]
    refine continues_ite ?_ (continues_next s)
    exact continues_guarded ..
  · rw [dif_neg h]
    exact continues_next s

theorem continues_romArbitration (s : State) : Continues (execRomArbitration s) := by
  unfold execRomArbitration
  refine continues_ite ?_ (continues_next s)
  split
  · exact continues_next _
  · exact continues_next s

theorem continues_romByteRead (s : State) : Continues (execRomByteRead s) := by
  unfold execRomByteRead
  refine continues_ite ?_ (continues_next s)
  split
  · split
    · exact continues_next _
    · exact continues_next _
  · exact continues_next s

theorem exec_continues (c : Instr) (s : State) : Continues (exec c s) := by
  cases c
  case messageRefused => exact continues_messageRefused ..
  case engineStart => exact continues_engineStart s
  case sweepStep => exact continues_sweepStep s
  case romArbitration => exact continues_romArbitration s
  case romByteRead => exact continues_romByteRead s
  case engineByteAccess | openEnd | eraseFlip | verifyEnd | sweepScanEnd =>
    simp only [exec, execEngineByteAccess, execOpenEnd, execEraseFlip, execVerifyEnd, execSweepScanEnd]
    split
    · exact continues_guarded ..
    · exact continues_next s
  case patternLoad => exact continues_ite (continues_command ..) (continues_next s)
  case consoleRead | consoleWrite | cmdWrite | replyRead | statusRead | sync | causeRead | stallInput |
      batteryDomainInvalid | vbatLow | crystalEdgesReturn | batlowSenseClear | fail => exact continues_next _
  case apertureIgnoredWrite | secondTick | sampleClock | envelopeTick | cueHoldExpiry | trackTick | noteEvent |
      offEvent | instrEvent | volEvent | pitchEvent | tempoEvent | loopEvent | backEvent | markerEvent | endEvent |
      unknownEvent | frmStrobe | frameLost | syntheticFrame | rumbleTick | allowanceExpiry | stepExpiry | kickEnd |
      stallLatch | startingAbort | consolePowerUp | warnEntry | warnExit | resetLine | crstRelease |
      batlowSenseSet | motorPwmSlot | batteryAttach | oscillatorStop | vconRise => apply continues_guarded
  all_goals exact continues_command ..

/-! ## What no command touches -/

/-- No move writes the ROM or touches a command that waits. -/
theorem Move.pending_rom {s t : State} (h : Move s t) : t.pending = s.pending ∧ t.rom = s.rom := by
  cases h with
  | work h =>
    have hout := h.untouched_eq
    exact ⟨congrArg (fun u => u.2.2.2.2.2.2) hout, congrArg (fun u => u.2.2.1) hout⟩
  | softReset =>
    rw [resetBlocks_eq]
    exact ⟨rfl, rfl⟩
  | resetLine =>
    rw [resetLineEffect, resetBlocks_eq]
    exact ⟨rfl, rfl⟩
  | release straps =>
    rw [releaseEffect_eq]
    exact ⟨rfl, rfl⟩
  | powerUp straps =>
    rw [powerUp_eq]
    exact ⟨rfl, rfl⟩
  | enterWarn =>
    rw [Machine.enterWarn, endKick_eq]
    exact ⟨rfl, rfl⟩
  | fail =>
    rw [failFromWarn_eq]
    exact ⟨rfl, rfl⟩
  | slot | commands | assertReset | dropReset | attach | enterStarting | abortStart | exitWarn | watch | loseDomain =>
    exact ⟨rfl, rfl⟩

theorem Moves.pending_rom {s t : State} (h : Moves s t) : t.pending = s.pending ∧ t.rom = s.rom := by
  induction h with
  | refl => exact ⟨rfl, rfl⟩
  | tail _ hlast ih => exact ⟨hlast.pending_rom.1.trans ih.1, hlast.pending_rom.2.trans ih.2⟩

/-- Settles O2: every row of the dispatch answers, and what it does is a run of moves. -/
theorem everyCommandAnswers : Obligations.EveryCommandAnswers := fun c s =>
  have ⟨t, h⟩ := exec_continues c s
  ⟨t, h, (exec_moves h).pending_rom⟩

end Sys2Proof.Proofs
end

section
/-! The state after reset has every property that a step keeps. -/

namespace Sys2Proof.Proofs

open Sys2Proof.Machine Sys2Proof.Safety Sys2Proof.Laws

theorem reset_memoryKept : MemoryKept State.reset := ⟨⟨by decide, .inl rfl⟩, reset_memories⟩

theorem reset_slot (n : SlotNo) : State.reset.dir.slots[n] = SlotRecord.attached := by
  revert n
  decide

theorem reset_blocksKept : BlocksKept State.reset := by decide
theorem reset_engineKept : EngineKept State.reset := by decide
theorem reset_workingInside : WorkingInside State.reset := by decide

theorem reset_directoryKept : DirectoryKept State.reset := by
  refine ⟨reset_memoryKept.1, rfl, fun n => ?_, reset_blocksKept, reset_engineKept, reset_workingInside⟩
  rw [reset_slot]
  decide

theorem reset_checksTrue : ChecksTrue State.reset := by
  refine ⟨fun n h => ?_, fun n h => ?_, fun f hf => nomatch hf⟩
  · rw [reset_slot] at h
    nomatch h
  · rw [reset_slot] at h
    rcases h with h | h <;> nomatch h

theorem reset_mapKept : MapKept State.reset := ⟨reset_memoryKept.1, by decide⟩
theorem reset_boundsKept : BoundsKept State.reset := by decide
theorem reset_grantKept : GrantKept State.reset := by decide
theorem reset_calendarKept : CalendarKept State.reset := by decide
theorem reset_homesKept : HomesKept State.reset := by decide
theorem reset_cuesKept : CuesKept State.reset := by decide
theorem reset_voiceLegal (n : VoiceNo) : VoiceLegal n State.reset.voices[n] := by revert n; decide
theorem reset_voicesKept : VoicesKept State.reset :=
  ⟨by decide, reset_homesKept, reset_cuesKept, reset_voiceLegal, by decide, by decide, by decide, by decide⟩
theorem reset_tracksKept : TracksKept State.reset := by decide
theorem reset_frameKept : FrameKept State.reset := by decide
theorem reset_latchesKept : LatchesKept State.reset := by decide
theorem reset_rumbleKept : RumbleKept State.reset :=
  ⟨by decide, by decide, reset_cuesKept, by decide, by decide, by decide, by decide, by decide, by decide, by decide,
    by decide, by decide, by decide, by decide, by decide, by decide⟩

/-- Settles O3: each property by the evaluation of the state after reset. -/
theorem resetMeetsEveryProperty : Obligations.ResetMeetsEveryProperty :=
  ⟨⟨reset_memoryKept, reset_directoryKept, reset_checksTrue⟩, reset_mapKept, reset_boundsKept, reset_grantKept,
    reset_calendarKept, reset_voicesKept, reset_tracksKept, reset_frameKept, reset_latchesKept, reset_rumbleKept⟩

end Sys2Proof.Proofs
end

section
/-! Slot transactions: how the slot is answered, and what console accesses through the window map read, write and
refuse. -/

namespace Sys2Proof.Proofs

open Sys2Proof.Machine Sys2Proof.Safety Sys2Proof.Laws

/-! ## The conditions of R14 -/

section
variable {s : State} {addr : SlotAddr} {data : Byte}

theorem readAs_of_battery (h : s.supply.monitor = .battery) (f : State → Byte × State) :
    readAs addr f s = drive addr none s := if_pos h

theorem writeAs_of_battery (h : s.supply.monitor = .battery) (f : State → State) : writeAs addr data f s = s := if_pos h

theorem readAs_of_silent (h : s.supply.monitor ≠ .battery) (hans : answered s = false) (f : State → Byte × State) :
    readAs addr f s = drive addr (some 0xFF) s := by
  simp [readAs, h, hans]

theorem writeAs_of_silent (h : s.supply.monitor ≠ .battery) (hans : answered s = false) (f : State → State) :
    writeAs addr data f s = accept addr data s := by
  simp [writeAs, h, hans]

/-! ## The resolution order of R2 -/

theorem exec_consoleRead_mapped (hans : answered s = true) (haddr : addr.toNat < 0xFFF00) :
    exec (.consoleRead addr) s = .next (drive addr (some (mappedRead addr s).1) (mappedRead addr s).2) := by
  have hout : inAperture addr = false := decide_eq_false (Nat.not_le.2 haddr)
  simp [exec, execConsoleRead, readAs_of_answered hans, resolveRead, hout]

theorem exec_consoleWrite_mapped (hans : answered s = true) (haddr : addr.toNat < 0xFFF00) :
    exec (.consoleWrite addr data) s = .next (accept addr data (mappedWrite addr data s)) := by
  have hout : inAperture addr = false := decide_eq_false (Nat.not_le.2 haddr)
  simp [exec, execConsoleWrite, writeAs_of_answered hans, resolveWrite, hout]

/-! ## Reads by the entry's kind -/

theorem slotOfPage_of_eq {page : Nat} {n : SlotNo} (h : page = n.val) : slotOfPage page = n :=
  Fin.ext (Nat.mod_eq_of_lt (h ▸ n.isLt) |>.trans h)

theorem mappedRead_unmapped (h : s.map[stripOf addr].kind = .unmapped) : mappedRead addr s = (0xFF, s) := by
  simp only [mappedRead, h]

theorem mappedRead_rom (h : s.map[stripOf addr].kind = .rom) :
    mappedRead addr s =
      (romByte s (BitVec.ofNat 24 (s.map[stripOf addr].page * 65536 + offsetOf addr)), interruptFetch s) := by
  simp only [mappedRead, h]

theorem mappedRead_soundRam (h : s.map[stripOf addr].kind = .soundRam) :
    mappedRead addr s = (soundByte s (offsetOf addr), s) := by
  simp only [mappedRead, h]

theorem mappedRead_saveRaw (h : s.map[stripOf addr].kind = .saveRaw) :
    mappedRead addr s =
      if insideProfile s (offsetOf addr / 4096) then
        (sramByte s (offsetOf addr / 4096) (offsetOf addr % 4096),
          portRead false (offsetOf addr / 4096) (offsetOf addr % 4096) s)
      else (0xFF, s) := by
  simp only [mappedRead, h]
  rfl

theorem mappedRead_view {n : SlotNo} (h : s.map[stripOf addr].kind = .saveSlot)
    (hpage : s.map[stripOf addr].page = n.val) (hoff : offsetOf addr < 4096) :
    mappedRead addr s = (viewByte s n (offsetOf addr), viewRead n (offsetOf addr) s) := by
  have hslot : slotOfPage s.map[stripOf addr].page = n := slotOfPage_of_eq hpage
  simp only [mappedRead, h, hslot]
  exact if_pos hoff

theorem mappedRead_beyond (h : s.map[stripOf addr].kind = .saveSlot) (hoff : 4096 ≤ offsetOf addr) :
    mappedRead addr s = (0xFF, refuseAccess .range addr false .beyondTarget s) := by
  simp only [mappedRead, h]
  exact if_neg (Nat.not_lt.2 hoff)

/-! ## Writes by the entry's kind -/

theorem mappedWrite_ignored (h : s.map[stripOf addr].kind = .unmapped ∨ s.map[stripOf addr].kind = .rom) :
    mappedWrite addr data s = s := by
  rcases h with h | h <;> simp only [mappedWrite, h]

theorem mappedWrite_saveRaw (h : s.map[stripOf addr].kind = .saveRaw) :
    mappedWrite addr data s = refuseAccess .refusedWrite addr true .rawView s := by
  simp only [mappedWrite, h]

theorem mappedWrite_soundRam (h : s.map[stripOf addr].kind = .soundRam) (hw : s.map[stripOf addr].writable = true) :
    mappedWrite addr data s = { s with sound := writeMem soundUnlisted s.sound (offsetOf addr % 4096) data } := by
  simp only [mappedWrite, h]
  exact if_pos hw

theorem mappedWrite_soundRam_readOnly (h : s.map[stripOf addr].kind = .soundRam)
    (hw : s.map[stripOf addr].writable = false) :
    mappedWrite addr data s = refuseAccess .refusedWrite addr true .entryReadOnly s := by
  simp only [mappedWrite, h]
  exact if_neg (Bool.eq_false_iff.1 hw)

theorem mappedWrite_beyond (h : s.map[stripOf addr].kind = .saveSlot) (hoff : 4096 ≤ offsetOf addr) :
    mappedWrite addr data s = refuseAccess .range addr true .beyondTarget s := by
  simp only [mappedWrite, h]
  exact if_pos hoff

/-- A write through a slot view below offset 4096 (R32): refused unless the slot is OPEN and the entry writable. -/
theorem mappedWrite_view {n : SlotNo} (h : s.map[stripOf addr].kind = .saveSlot)
    (hpage : s.map[stripOf addr].page = n.val) (hoff : offsetOf addr < 4096) :
    mappedWrite addr data s =
      if s.dir.slots[n].state ≠ .opened then refuseAccess .refusedWrite addr true .slotNotOpen s
      else if s.map[stripOf addr].writable then landWrite n (offsetOf addr) data s
      else refuseAccess .refusedWrite addr true .entryReadOnly s := by
  have hslot : slotOfPage s.map[stripOf addr].page = n := slotOfPage_of_eq hpage
  simp only [mappedWrite, h, hslot]
  exact if_neg (Nat.not_le.2 hoff)

/-! ## What an access reaches -/

/-- The bytes of a ROM page lie inside the ROM of the profile (R8, R9). -/
theorem romByte_page {page off : Nat} (hprofile : ProfileLegal s) (hpage : page < s.profile.pageCount)
    (hoff : off < 65536) :
    romByte s (BitVec.ofNat 24 (page * 65536 + off)) = readMem romUnlisted s.rom (page * 65536 + off) := by
  have hpages : s.profile.pageCount ≤ 256 :=
    calc 4 * 2 ^ s.profile.romCode ≤ 4 * 2 ^ 6 :=
          Nat.mul_le_mul_left 4 (Nat.pow_le_pow_right (by decide) hprofile.1)
      _ = 256 := rfl
  have hword : (page * 65536 + off) % 2 ^ 24 = page * 65536 + off := Nat.mod_eq_of_lt (by omega)
  have hsize : page * 65536 + off < s.profile.romSize := by
    unfold Profile.romSize
    omega
  rw [romByte, BitVec.toNat_ofNat, hword, Nat.mod_eq_of_lt hsize]

theorem sramByte_split (off : Nat) : sramByte s (off / 4096) (off % 4096) = readMem sramUnlisted s.sram off := by
  unfold sramByte sramAddr Config.blockSize
  rw [Nat.div_add_mod']

theorem getElem_setSlot_same (n : SlotNo) (r : SlotRecord) (s : State) : (setSlot n r s).dir.slots[n] = r :=
  Vector.getElem_set_self n.isLt

theorem getElem_setSlot_ne {n m : SlotNo} (h : m ≠ n) (r : SlotRecord) (s : State) :
    (setSlot n r s).dir.slots[m] = s.dir.slots[m] :=
  Vector.getElem_set_ne n.isLt m.isLt (Fin.val_ne_of_ne (Ne.symm h))

theorem viewRead_eq (n : SlotNo) (p : Nat) :
    { viewRead n p s with saveAccess := s.saveAccess } = s := by
  unfold viewRead
  split <;> rfl

/-- The byte at a position of a block that a slot may have: 0xFF without one or beyond the profile (R28, R31). -/
def byteOfBlock (s : State) (p : Nat) (o : Option Nat) : Byte :=
  match o with
  | some b => if b < s.profile.blocks then readMem sramUnlisted s.sram (b * 4096 + p) else 0xFF
  | none => 0xFF

theorem viewByte_eq (n : SlotNo) (p : Nat) : viewByte s n p = byteOfBlock s p (viewBlock s.dir.slots[n]) := by
  unfold viewByte servedBlock byteOfBlock
  cases viewBlock s.dir.slots[n] with
  | none => rfl
  | some b =>
    by_cases hb : b < s.profile.blocks
    · simp only [Option.filter, insideProfile, hb, decide_true, if_true]
      rfl
    · simp only [Option.filter, insideProfile, hb, decide_false, if_false]
      rfl

/-- The block that the slot view reads, by the slot's state (R31). -/
theorem byteOfBlock_viewBlock (p : Nat) (r : SlotRecord) :
    byteOfBlock s p (viewBlock r) =
      match r.state with
      | .empty => 0xFF
      | .opening => byteOfBlock s p r.current
      | .valid => byteOfBlock s p r.current
      | .erasing => byteOfBlock s p r.current
      | .opened => byteOfBlock s p r.working
      | .committing => byteOfBlock s p r.working := by
  unfold viewBlock
  cases r.state <;> rfl

theorem landingBlock_of_opened {n : SlotNo} {b : Nat} (hstate : s.dir.slots[n].state = .opened)
    (hwork : s.dir.slots[n].working = some b) (hb : b < s.profile.blocks) : landingBlock s n = some b := by
  rw [landingBlock, if_pos hstate, hwork, Option.filter_some]
  exact if_pos (decide_eq_true hb)

/-- A landing write, by the block it lands in (R33). -/
theorem landWrite_of_block {n : SlotNo} {b : Nat} (h : landingBlock s n = some b) (p : Nat) (x : Byte) :
    landWrite n p x s =
      setSlot n { s.dir.slots[n] with
          workCheck := s.dir.slots[n].workCheck.map fun c => c.replace p (sramByte s b p) x }
        (portWrite false b p x (portRead false b p s)) := by
  simp only [landWrite, h]

theorem accept_refuseAccess (f : FaultFlag) (reason : RefuseReason) :
    accept addr data (refuseAccess f addr true reason s) =
      { s with
        slot := { last := some ⟨addr, true, some data⟩ },
        cause := { (setFault f s).cause with
          record := some ⟨addr.toNat / 65536, addr.toNat % 65536, true, reason⟩ } } := by
  unfold accept refuseAccess
  rw [setFault_eq]

theorem drive_refuseAccess (f : FaultFlag) (reason : RefuseReason) :
    drive addr (some 0xFF) (refuseAccess f addr false reason s) =
      { s with
        slot := { last := some ⟨addr, false, some 0xFF⟩ },
        cause := { (setFault f s).cause with
          record := some ⟨addr.toNat / 65536, addr.toNat % 65536, false, reason⟩ } } := by
  unfold drive refuseAccess
  rw [setFault_eq]

end

/-! ## The obligations -/

/-- Settles O13: the two tests of R14, in their order. -/
theorem slotAnsweredByMonitorState : Obligations.SlotAnsweredByMonitorState := by
  intro addr data s
  refine ⟨fun h => ⟨congrArg _ (readAs_of_battery h _), congrArg _ (writeAs_of_battery h _)⟩, fun h => ?_⟩
  have hmonitor : s.supply.monitor ≠ .battery := by
    rcases h with h | h
    · simp [h]
    · exact h.1
  have hans : answered s = false := by
    rw [Bool.eq_false_iff, Ne, answered_iff]
    rintro ⟨hpow, hcrst⟩
    rcases h with h | h
    · simp [h] at hpow
    · simp [h.2] at hcrst
  exact ⟨congrArg _ (readAs_of_silent hmonitor hans _), congrArg _ (writeAs_of_silent hmonitor hans _)⟩

/-- Settles O14: one equation of the mapped read per kind. -/
theorem mapReadsReachTheirTarget : Obligations.MapReadsReachTheirTarget := by
  intro addr s hmap hans haddr
  refine ⟨_, _, exec_consoleRead_mapped hans haddr, rfl, fun h => ?_, fun h => ?_, fun h => ?_, fun h hb => ?_,
    fun h hb => ?_⟩
  · rw [mappedRead_unmapped h]
    exact ⟨rfl, rfl⟩
  · rw [mappedRead_rom h]
    exact ⟨romByte_page hmap.1 ((hmap.2 (stripOf addr)).1 h) (Nat.mod_lt _ (by decide)), rfl, rfl, rfl⟩
  · rw [mappedRead_soundRam h]
    exact ⟨rfl, rfl⟩
  · have hb : insideProfile s (offsetOf addr / 4096) = true := decide_eq_true hb
    rw [mappedRead_saveRaw h, if_pos hb]
    exact ⟨sramByte_split _, rfl⟩
  · have hb : ¬insideProfile s (offsetOf addr / 4096) = true := fun h => Nat.not_lt.2 hb (of_decide_eq_true h)
    rw [mappedRead_saveRaw h, if_neg hb]
    exact ⟨rfl, rfl⟩

/-- Settles O15: the block that serves the view, by the slot's state. -/
theorem slotViewReadsByState : Obligations.SlotViewReadsByState := by
  intro addr n s hans haddr e p r _ hkind hpage hp
  have hread : mappedRead addr s = (byteOfBlock s p (viewBlock r), viewRead n p s) :=
    (mappedRead_view hkind hpage hp).trans (congrArg (·, _) (viewByte_eq n p))
  refine ⟨_, exec_consoleRead_mapped hans haddr, ?_, ?_⟩
  · rw [hread, byteOfBlock_viewBlock]
    rfl
  · rw [hread]
    have hview := congrArg (fun u : State => { u with slot := s.slot }) (viewRead_eq n p (s := s))
    exact hview

/-- The working check with one byte's change, as R30 writes it. -/
theorem replace_def (c : Check) (p : Nat) (a b : Byte) :
    c.replace p a b =
      ⟨(((c.s1 : Int) + (b.toNat - a.toNat)) % 251).toNat,
        (((c.s2 : Int) + ((4096 - p) % 251 : Nat) * (b.toNat - a.toNat)) % 251).toNat⟩ := rfl

/-- Settles O16: the landing write's equation, and the memory that reads back what was written. -/
theorem writesLandOrAreIgnored : Obligations.WritesLandOrAreIgnored := by
  intro addr data s hmem hans haddr
  refine ⟨?_, fun h => ?_, fun h hw => ?_⟩
  · intro n b c r d updated hkind hpage hwritable hp hopened hwork hb hcheck
    have hwritable : s.map[stripOf addr].writable = true := hwritable
    have hwrite : mappedWrite addr data s = landWrite n (offsetOf addr) data s := by
      rw [mappedWrite_view hkind hpage hp, if_neg (not_not.2 hopened), if_pos hwritable]
    rw [landWrite_of_block (landingBlock_of_opened hopened hwork hb)] at hwrite
    have hbyte (a : Nat) := readMem_writeMem (u := sramUnlisted) hmem.2.2.1.1 (b * 4096 + offsetOf addr) data a
    refine ⟨_, exec_consoleWrite_mapped hans haddr, ?_, fun a ha => ?_, ?_, fun m hm => ?_, ?_, ?_⟩
    all_goals rw [hwrite]
    · exact (hbyte _).trans (if_pos rfl)
    · exact (hbyte a).trans (if_neg ha)
    · refine (getElem_setSlot_same ..).trans ?_
      rw [hcheck, Option.map_some, replace_def]
      rfl
    · exact getElem_setSlot_ne hm _ _
    · rfl
    · rfl
  · rw [exec_consoleWrite_mapped hans haddr, mappedWrite_ignored h]
    rfl
  · refine ⟨_, exec_consoleWrite_mapped hans haddr, ?_, fun a => ?_⟩
    · rw [mappedWrite_soundRam h hw]
      rfl
    · rw [mappedWrite_soundRam h hw]
      exact readMem_writeMem hmem.2.2.2.1 _ _ a

/-- Settles O17: which accesses the mapped reads and writes refuse, and what a refused access is. -/
theorem refusedAccessesAreRecorded : Obligations.RefusedAccessesAreRecorded := by
  intro addr data n s hans haddr e off recorded
  have hread := exec_consoleRead_mapped hans haddr
  have hwrite := exec_consoleWrite_mapped hans haddr (data := data)
  refine ⟨fun h hoff => ⟨?_, ?_⟩, fun h hpage hoff hstate => ?_, fun h hpage hoff hstate hro => ?_, fun h => ?_,
    fun h hro => ?_⟩
  · rw [mappedRead_beyond h hoff, drive_refuseAccess] at hread
    exact hread
  · rw [mappedWrite_beyond h hoff, accept_refuseAccess] at hwrite
    exact hwrite
  · rw [mappedWrite_view h hpage hoff, if_pos hstate, accept_refuseAccess] at hwrite
    exact hwrite
  · have hro : ¬s.map[stripOf addr].writable = true := Bool.eq_false_iff.1 hro
    rw [mappedWrite_view h hpage hoff, if_neg (not_not.2 hstate), if_neg hro, accept_refuseAccess] at hwrite
    exact hwrite
  · rw [mappedWrite_saveRaw h, accept_refuseAccess] at hwrite
    exact hwrite
  · rw [mappedWrite_soundRam_readOnly h hro, accept_refuseAccess] at hwrite
    exact hwrite

end Sys2Proof.Proofs
end

section
/-! Fault flags, causes, refused messages and the aperture. -/

namespace Sys2Proof.Proofs

open Sys2Proof.Machine Sys2Proof.Safety Sys2Proof.Laws

/-! ## Fault flags (R172, R175) -/

theorem setFault_of_set {f : FaultFlag} {s : State} (h : hasFault f s = true) : setFault f s = s := if_pos h

theorem setFault_of_clear {f : FaultFlag} {s : State} (h : hasFault f s = false) :
    setFault f s = { s with cause := { s.cause with
      flags := s.cause.flags ||| BitVec.twoPow 12 f.bit,
      latches := { s.cause.latches with fault := s.cause.latches.fault || enabled .fault s } } } :=
  if_neg (Bool.eq_false_iff.1 h)

/-- Settles O18: by whether the flag was set. -/
theorem faultFlagLatchesOnce : Obligations.FaultFlagLatchesOnce := by
  intro f g s
  refine ⟨hasFault_setFault f g s, setFault_of_set, ?_⟩
  cases h : hasFault f s with
  | true =>
    rw [setFault_of_set h]
    exact ⟨(Bool.or_false _).symm, rfl, rfl⟩
  | false =>
    rw [setFault_of_clear h]
    exact ⟨rfl, rfl, rfl⟩

/-! ## FAULT CLEAR and IRQ MASK (R173, R174) -/

theorem exec_faultClear_of_ready {mask : Word16} {rest : List Byte} {s : State}
    (h : Ready (.faultClear mask) rest s) :
    exec (.faultClear mask) s = .next (faultClearEffect mask (taken rest s)) := command_of_ready h _

theorem exec_irqMask_of_ready {mask : Byte} {rest : List Byte} {s : State} (h : Ready (.irqMask mask) rest s) :
    exec (.irqMask mask) s = .next (irqMaskEffect mask (taken rest s)) := command_of_ready h _

/-- The bits of a mask that clears flags (R173). -/
theorem getLsbD_cleared (flags : BitVec 12) (mask : Word16) (i : Nat) (hi : i < 12) :
    (flags &&& ~~~(mask.setWidth 12)).getLsbD i = (flags.getLsbD i && !mask.getLsbD i) := by
  simp [hi]

/-- Settles O26: the two effects, by whether the mask has unused bits. -/
theorem faultClearAndIrqMask : Obligations.FaultClearAndIrqMask := by
  intro mask classes rest s
  refine ⟨fun h => ⟨fun hbad => ?_, fun hgood => ?_⟩, fun h => ⟨fun hbad => ?_, fun hgood => ?_⟩⟩
  · rw [Refuses, Answers, exec_faultClear_of_ready h, faultClearEffect, if_neg (by omega)]
    rfl
  · refine ⟨_, ?_, getLsbD_cleared s.cause.flags mask⟩
    rw [Answers, exec_faultClear_of_ready h, faultClearEffect, if_pos (by omega)]
    rfl
  · rw [Refuses, Answers, exec_irqMask_of_ready h, irqMaskEffect, if_neg (by omega)]
    rfl
  · have hbit (i : Nat) (hi : i < 7) : (classes.setWidth 7).getLsbD i = classes.getLsbD i := by simp [hi]
    refine ⟨classes.setWidth 7, hbit, ?_⟩
    rw [Answers, exec_irqMask_of_ready h, irqMaskEffect, if_pos (by omega)]
    simp only [Latches.keep, hbit, CauseClass.bit, Nat.reduceLT]
    rfl

/-! ## Refused messages (R165 cases 1 to 4) -/

section
variable {code len : Byte} {body : List Byte}

theorem refusalOf_overLong (h : 32 < len.toNat) : refusalOf (code :: len :: body) = some (.badLength, true) := if_pos h

theorem refusalOf_badCheck (hlen : len.toNat ≤ 32) (h : byteSum (code :: len :: body) ≠ 0) :
    refusalOf (code :: len :: body) = some (.badCheck, true) := by
  have hcheck : checkPasses (code :: len :: body) = false := beq_eq_false_iff_ne.2 h
  simp [refusalOf, Nat.not_lt.2 hlen, hcheck]

theorem refusalOf_unknown (hlen : len.toNat ≤ 32) (h : byteSum (code :: len :: body) = 0)
    (hcode : codeTable.lookup code.toNat = none) : refusalOf (code :: len :: body) = some (.unknown, false) := by
  simp [refusalOf, Nat.not_lt.2 hlen, checkPasses, h, knownCode, hcode]

theorem refusalOf_badLength {lens : List Nat} (hlen : len.toNat ≤ 32) (h : byteSum (code :: len :: body) = 0)
    (hcode : codeTable.lookup code.toNat = some lens) (hlens : len.toNat ∉ lens) :
    refusalOf (code :: len :: body) = some (.badLength, false) := by
  simp [refusalOf, Nat.not_lt.2 hlen, checkPasses, h, knownCode, acceptsLength, hcode, hlens]

end

theorem canTake_iff {s : State} : canTake s = true ↔ answered s = true ∧ s.cmd.reply.length + 35 ≤ 64 := by
  simp [canTake, Config.replyRoom, Config.fifoSize]

theorem takeMessage_of_stands {msg rest : List Byte} {s : State} (h : canTake s = true) (hfifo : s.cmd.fifo = msg ++ rest) :
    takeMessage msg s = some (taken rest s) := by
  simp [takeMessage, h, messageStands, hfifo, taken]

theorem setFault_taken (f : FaultFlag) (rest : List Byte) (s : State) :
    setFault f (taken rest s) = taken rest { s with cause := (setFault f s).cause } := by
  have hcause : (setFault f (taken rest s)).cause = (setFault f s).cause := setFault_cause_congr f rfl
  rw [setFault_eq, hcause]
  rfl

theorem setFaultIf_taken (b : Bool) (f : FaultFlag) (rest : List Byte) (s : State) :
    setFaultIf b f (taken rest s) = taken rest { s with cause := (setFaultIf b f s).cause } := by
  cases b
  · rfl
  · exact setFault_taken f rest s

/-- A refused message that can be taken: its bytes leave, or the whole FIFO, the flag is set and the status is the
reply. -/
theorem execMessageRefused_eq {msg rest : List Byte} {st : ReplyStatus} {badFrame : Bool} {s : State}
    (hframed : framed msg = true) (href : refusalOf msg = some (st, badFrame)) (h : canTake s = true)
    (hfifo : s.cmd.fifo = msg ++ rest) :
    exec (.messageRefused msg) s =
      .next (replied st []
        (taken (if overLong msg then [] else rest) { s with cause := (setFaultIf badFrame .badFrame s).cause })) := by
  rw [exec, execMessageRefused, hframed, href, takeMessage_of_stands h hfifo]
  cases hover : overLong msg with
  | true => exact congrArg (fun u => Host.Outcome.next (answer st u)) (setFaultIf_taken badFrame .badFrame [] s)
  | false => exact congrArg (fun u => Host.Outcome.next (answer st u)) (setFaultIf_taken badFrame .badFrame rest s)

/-- Settles O21: what R165 answers to each case, and the one equation of a refused message. -/
theorem refusedMessagesByCase : Obligations.RefusedMessagesByCase := by
  intro code len body rest s msg hans hroom hfifo
  have hcan := canTake_iff.2 ⟨hans, hroom⟩
  refine ⟨fun hlen => ?_, fun hlen hbody => ?_⟩
  · have hframed : framed msg = true := by simp [msg, framed, hlen]
    have hover : overLong msg = true := decide_eq_true hlen
    rw [execMessageRefused_eq hframed (refusalOf_overLong hlen) hcan hfifo, hover]
    rfl
  · have hframed : framed msg = true := by simp [msg, framed, hbody]
    have hover : overLong msg = false := decide_eq_false (Nat.not_lt.2 hlen)
    refine ⟨fun hsum => ?_, fun hsum hcode => ?_, fun lens hsum hcode hlens => ?_⟩
    · rw [execMessageRefused_eq hframed (refusalOf_badCheck hlen hsum) hcan hfifo, hover]
      rfl
    · rw [execMessageRefused_eq hframed (refusalOf_unknown hlen hsum hcode) hcan hfifo, hover]
      rfl
    · rw [execMessageRefused_eq hframed (refusalOf_badLength hlen hsum hcode hlens) hcan hfifo, hover]
      rfl

/-! ## The aperture (R162, R163, R166, R167) -/

theorem toNat_apertureAddr (offset : Byte) : (apertureAddr offset).toNat = 0xFFF00 + offset.toNat := by
  have := offset.isLt
  simp only [apertureAddr, BitVec.toNat_ofNat]
  omega

/-- A console read at an aperture address reads the aperture (R2). -/
theorem exec_consoleRead_aperture {s : State} (hans : answered s = true) (offset : Byte) :
    exec (.consoleRead (apertureAddr offset)) s = .next (drive (apertureAddr offset)
      (some (apertureRead offset.toNat s).1) (apertureRead offset.toNat s).2) := by
  simp [exec, execConsoleRead, readAs_of_answered hans, resolveRead, inAperture, toNat_apertureAddr]

/-- A console write at an aperture address writes the aperture (R2). -/
theorem exec_consoleWrite_aperture {s : State} (hans : answered s = true) (offset data : Byte) :
    exec (.consoleWrite (apertureAddr offset) data) s =
      .next (accept (apertureAddr offset) data (apertureWrite offset.toNat data s)) := by
  simp [exec, execConsoleWrite, writeAs_of_answered hans, resolveWrite, inAperture, toNat_apertureAddr]

theorem apertureRead_unused {n : Nat} (h : 4 ≤ n) (s : State) : apertureRead n s = (0xFF, s) := by
  obtain ⟨n, rfl⟩ := Nat.exists_eq_add_of_le' h
  rfl

theorem ignoresWrites_of_ne {offset : Byte} (h0 : offset ≠ 0) (h2 : offset ≠ 2) : ignoresWrites offset = true := by
  rw [ignoresWrites, bne_iff_ne.2 h0, bne_iff_ne.2 h2]
  rfl

theorem apertureWrite_ignored {offset : Byte} (h0 : offset ≠ 0) (h2 : offset ≠ 2) (data : Byte) (s : State) :
    apertureWrite offset.toNat data s = s := by
  unfold apertureWrite
  split
  · exact absurd (BitVec.eq_of_toNat_eq ‹_›) h0
  · exact absurd (BitVec.eq_of_toNat_eq ‹_›) h2
  · rfl

theorem pushCommandByte_of_room {s : State} (h : s.cmd.fifo.length < 64) (data : Byte) :
    pushCommandByte data s = { s with cmd := { s.cmd with fifo := s.cmd.fifo ++ [data] } } := if_pos h

theorem pushCommandByte_of_full {s : State} (h : 64 ≤ s.cmd.fifo.length) (data : Byte) :
    pushCommandByte data s =
      { s with cmd := { s.cmd with overrun := true }, cause := (setFault .cmdOverrun s).cause } := by
  have hcause : (setFault .cmdOverrun { s with cmd := { s.cmd with overrun := true } }).cause =
      (setFault .cmdOverrun s).cause := setFault_cause_congr .cmdOverrun rfl
  refine (if_neg (Nat.not_lt.2 h)).trans ?_
  rw [setFault_eq, hcause]

/-- An interrupt stands exactly while some cause is pending and enabled (R176, R177). -/
theorem firstCause_isSome (s : State) :
    (firstCause s).isSome = decide (∃ c ∈ allCauses, causePending s c = true) := by
  rw [firstCause, Bool.eq_iff_iff, List.find?_isSome, decide_eq_true_iff]

theorem not_isEmpty_eq {α : Type} [DecidableEq α] (l : List α) : (!l.isEmpty) = decide (l ≠ []) := by
  cases l <;> rfl

/-- The eight indications of STATUS (R167). -/
theorem getLsbD_statusByte (s : State) (i : Nat) (hi : i < 8) :
    (statusByte s).getLsbD i =
      [!s.cmd.reply.isEmpty, s.cmd.overrun, s.cause.flags != 0, saveBusy s, s.supply.monitor == .warn,
        (firstCause s).isSome, s.rumble.active.isSome, s.profile.fallback][i]?.getD false :=
  getLsbD_byteOf_bitsOf hi

/-- Settles O19: each access is its row's effect, and the aperture's address reaches the same effect (log 22). -/
theorem apertureAccessesAct : Obligations.ApertureAccessesAct := by
  intro data offset s hans wrote gave
  have hwrite (off : Byte) (f : State → State) : writeAs (apertureAddr off) data f s = wrote off (f s) :=
    writeAs_of_answered hans ..
  have hread (off : Byte) (f : State → Byte × State) : readAs (apertureAddr off) f s = gave off (f s).1 (f s).2 :=
    readAs_of_answered hans ..
  refine ⟨fun hroom => ?_, fun hfull => ?_, congrArg _ (hwrite ..), fun h0 h2 => ?_, fun b rest hreply => ?_,
    fun hreply => ?_, exec_consoleRead_aperture hans 0, fun hoff => ?_, ?_, ?_⟩
  · rw [exec, execCmdWrite, hwrite, pushCommandByte_of_room hroom]
  · rw [exec, execCmdWrite, hwrite, pushCommandByte_of_full hfull]
  · have hignored := ignoresWrites_of_ne h0 h2
    rw [exec, execApertureIgnoredWrite, if_pos hignored, hwrite]
    rfl
  · rw [exec, execReplyRead, hread, popReply, hreply]
  · rw [exec, execReplyRead, hread, popReply, hreply]
  · rw [exec_consoleRead_aperture hans, apertureRead_unused hoff]
    rfl
  · refine ⟨?_, ?_, ?_, ?_, ?_, fun h0 h2 => ?_⟩
    · exact (exec_consoleRead_aperture hans 1).trans (congrArg _ (hread 1 popReply).symm)
    · exact (exec_consoleRead_aperture hans 2).trans (congrArg _ (hread 2 readStatus).symm)
    · exact (exec_consoleRead_aperture hans 3).trans (congrArg _ (hread 3 readCause).symm)
    · exact (exec_consoleWrite_aperture hans 0 data).trans (congrArg _ (hwrite 0 (pushCommandByte data)).symm)
    · exact (exec_consoleWrite_aperture hans 2 data).trans (congrArg _ (hwrite 2 syncCommands).symm)
    · have hignored := ignoresWrites_of_ne h0 h2
      rw [exec_consoleWrite_aperture hans, apertureWrite_ignored h0 h2, exec, execApertureIgnoredWrite,
        if_pos hignored, hwrite]
      rfl
  · have hbit := getLsbD_statusByte s
    refine ⟨statusByte s, congrArg _ (hread 2 readStatus), ?_⟩
    refine ⟨(hbit 0 (by decide)).trans ?_, hbit 1 (by decide), (hbit 2 (by decide)).trans ?_,
      (hbit 3 (by decide)).trans ?_, (hbit 4 (by decide)).trans ?_,
      (hbit 5 (by decide)).trans (firstCause_isSome s), hbit 6 (by decide), hbit 7 (by decide)⟩
    · exact not_isEmpty_eq s.cmd.reply
    · exact Bool.eq_iff_iff.2 (bne_iff_ne.trans decide_eq_true_iff.symm)
    · exact congrArg (fun b => b || s.engine.flight.isSome || decide (s.engine.sweep < 8))
        (not_isEmpty_eq s.engine.queue)
    · exact beq_eq_decide ..

/-! ## CAUSE (R177) -/

theorem allCauses_pairwise : allCauses.Pairwise (fun a b => a.code < b.code) := by decide

/-- The first cause is the pending enabled one with the lowest code (R177). -/
theorem firstCause_eq_some {s : State} {c : Cause} (hc : c ∈ allCauses) (hpending : causePending s c = true)
    (hlow : ∀ d ∈ allCauses, d.code < c.code → causePending s d = false) : firstCause s = some c := by
  obtain ⟨before, behind, hsplit⟩ := List.append_of_mem hc
  refine List.find?_eq_some_iff_append.2 ⟨hpending, before, behind, hsplit, fun d hd => ?_⟩
  have hpairs := hsplit ▸ allCauses_pairwise
  have hcode : d.code < c.code := (List.pairwise_append.1 hpairs).2.2 d hd c (List.mem_cons_self ..)
  rw [hlow d (hsplit ▸ List.mem_append_left _ hd) hcode]
  rfl

theorem firstCause_eq_none {s : State} (h : ∀ c ∈ allCauses, causePending s c = false) : firstCause s = none :=
  List.find?_eq_none.2 fun c hc => Bool.eq_false_iff.1 (h c hc)

theorem getElem_setCue_same (n : CueNo) (c : Cue) (s : State) : (setCue n c s).cues[n] = c :=
  Vector.getElem_set_self n.isLt

theorem getElem_setCue_ne {n m : CueNo} (h : m ≠ n) (c : Cue) (s : State) : (setCue n c s).cues[m] = s.cues[m] :=
  Vector.getElem_set_ne n.isLt m.isLt (Fin.val_ne_of_ne (Ne.symm h))

/-- The release of a cause clears what raised it (R177). -/
theorem raised_releaseCause_self {c : Cause} (h : c ≠ .warn) (s : State) : c.raised (releaseCause c s) = false := by
  cases c with
  | fault | frameLost | rumbleEnd => rfl
  | save n => exact congrArg SlotRecord.done (getElem_setSlot_same n _ s)
  | cue n => exact congrArg Cue.pending (getElem_setCue_same n _ s)
  | marker t =>
    by_cases ht : t = 0
    · simp [Cause.raised, releaseCause, ht]
    · simp [Cause.raised, releaseCause, ht]
  | warn => exact absurd rfl h

/-- The release of a cause leaves every other as it is. -/
theorem raised_releaseCause_of_ne {c d : Cause} (h : d ≠ c) (s : State) : d.raised (releaseCause c s) = d.raised s := by
  cases c with
  | fault =>
    cases d with
    | fault => exact absurd rfl h
    | _ => rfl
  | frameLost =>
    cases d with
    | frameLost => exact absurd rfl h
    | _ => rfl
  | rumbleEnd =>
    cases d with
    | rumbleEnd => exact absurd rfl h
    | _ => rfl
  | save n =>
    cases d with
    | save m => exact congrArg SlotRecord.done (getElem_setSlot_ne (fun hm => h (congrArg _ hm)) _ s)
    | _ => rfl
  | cue n =>
    cases d with
    | cue m => exact congrArg Cue.pending (getElem_setCue_ne (fun hm => h (congrArg _ hm)) _ s)
    | _ => rfl
  | marker t =>
    by_cases ht : t = 0
    · cases d with
      | marker u =>
        have hu : u ≠ 0 := fun hu => h (hu.trans ht.symm ▸ rfl)
        simp [Cause.raised, releaseCause, ht, hu]
      | _ => simp [Cause.raised, releaseCause, ht]
    · cases d with
      | marker u =>
        have hu : u = 0 := by
          by_contra hu
          exact h (congrArg _ ((Fin.eq_one_of_ne_zero u hu).trans (Fin.eq_one_of_ne_zero t ht).symm))
        simp [Cause.raised, releaseCause, ht, hu]
      | _ => simp [Cause.raised, releaseCause, ht]
  | warn => rfl

/-- Of a slot the release of a cause touches the done flag alone. -/
theorem releaseCause_slots (c : Cause) (s : State) (n : SlotNo) :
    { (releaseCause c s).dir.slots[n] with done := s.dir.slots[n].done } = s.dir.slots[n] := by
  cases c with
  | save m =>
    by_cases h : n = m
    · subst h
      exact congrArg (fun r : SlotRecord => { r with done := s.dir.slots[n].done }) (getElem_setSlot_same n _ s)
    · exact congrArg (fun r : SlotRecord => { r with done := s.dir.slots[n].done }) (getElem_setSlot_ne h _ s)
  | _ => rfl

/-- Of a cue the release of a cause touches the pending mark alone. -/
theorem releaseCause_cues (c : Cause) (s : State) (n : CueNo) :
    { (releaseCause c s).cues[n] with pending := s.cues[n].pending } = s.cues[n] := by
  cases c with
  | cue m =>
    by_cases h : n = m
    · subst h
      exact congrArg (fun r : Cue => { r with pending := s.cues[n].pending }) (getElem_setCue_same n _ s)
    · exact congrArg (fun r : Cue => { r with pending := s.cues[n].pending }) (getElem_setCue_ne h _ s)
  | _ => rfl

/-- The release of a cause touches the slots, the cues and the latches alone. -/
theorem releaseCause_frame (c : Cause) (s : State) :
    { (releaseCause c s).dir with slots := s.dir.slots } = s.dir ∧
    { (releaseCause c s).cause with latches := s.cause.latches } = s.cause ∧
    { releaseCause c s with dir := s.dir, cues := s.cues, cause := s.cause } = s := by
  cases c <;> exact ⟨rfl, rfl, rfl⟩

/-- Settles O20: the first cause, and what its release touches. -/
theorem causeReadReleasesTheLowest : Obligations.CauseReadReleasesTheLowest := by
  intro s hans
  have hexec : exec .causeRead s = .next (drive (apertureAddr 3) (some (readCause s).1) (readCause s).2) :=
    congrArg _ (readAs_of_answered hans ..)
  refine ⟨fun hnone => ?_, fun c hc hpending hlow => ?_⟩
  · rw [hexec, readCause, firstCause_eq_none hnone]
    rfl
  · rw [readCause, firstCause_eq_some hc hpending hlow] at hexec
    obtain ⟨hdir, hcause, hrest⟩ := releaseCause_frame c s
    refine ⟨_, hexec, rfl, fun hwarn => raised_releaseCause_self hwarn s, fun d _ hd => ?_, releaseCause_slots c s,
      releaseCause_cues c s, hdir, hcause, congrArg (fun u : State => { u with slot := s.slot }) hrest⟩
    by_cases heq : d = c
    · rcases hd with hd | hd
      · exact absurd heq hd
      · subst heq hd
        rfl
    · exact raised_releaseCause_of_ne heq s

end Sys2Proof.Proofs
end

section
/-! The save commands: their refusals in order, what an accepted one changes, and ABANDON. -/

namespace Sys2Proof.Proofs

open Sys2Proof.Machine Sys2Proof.Safety Sys2Proof.Laws

/-! ## Refusals in their order -/

/-- The status is the one beside the first condition of the list that holds; none where none holds. -/
def Decides : List (Prop × ReplyStatus) → Option ReplyStatus → Prop
  | [], o => o = none
  | (p, st) :: rest, o => (p → o = some st) ∧ (¬p → Decides rest o)

theorem decides_ite {p c : Prop} [Decidable c] {st : ReplyStatus} {l : List (Prop × ReplyStatus)}
    {o : Option ReplyStatus} (hp : p ↔ c) (h : Decides l o) : Decides ((p, st) :: l) (if c then some st else o) :=
  ⟨fun h => if_pos (hp.1 h), fun hn => (if_neg (mt hp.2 hn)).symm ▸ h⟩

theorem Decides.eq_some {l pre post : List (Prop × ReplyStatus)} {p : Prop} {st : ReplyStatus}
    {o : Option ReplyStatus} (h : Decides l o) (hl : l = pre ++ (p, st) :: post) (hpre : ∀ q ∈ pre, ¬q.1) (hp : p) :
    o = some st := by
  induction pre generalizing l with
  | nil =>
    subst hl
    exact h.1 hp
  | cons q pre ih =>
    subst hl
    obtain ⟨hq, hpre⟩ := List.forall_mem_cons.1 hpre
    exact ih (h.2 hq) rfl hpre

theorem Decides.eq_none {l : List (Prop × ReplyStatus)} {o : Option ReplyStatus} (h : Decides l o)
    (hl : ∀ q ∈ l, ¬q.1) : o = none := by
  induction l with
  | nil => exact h
  | cons q l ih =>
    obtain ⟨hq, hl⟩ := List.forall_mem_cons.1 hl
    exact ih (h.2 hq) hl

section
variable {n : SlotNo} {s : State} {slot : Byte}

theorem outOfProfile_iff {r : SlotRecord} :
    outOfProfile s r = true ↔ r.state = .valid ∧ ∃ b, r.current = some b ∧ s.profile.blocks ≤ b := by
  unfold outOfProfile
  cases r.current with
  | none => simp
  | some b => simp [insideProfile]

theorem queueFull_iff : queueFull s = true ↔ 4 ≤ s.engine.queue.length := decide_eq_true_iff

/-- The slot's current block lies beyond the profile (R28). -/
def OutOfProfile (n : SlotNo) (s : State) : Prop :=
  s.dir.slots[n].state = .valid ∧ ∃ b, s.dir.slots[n].current = some b ∧ s.profile.blocks ≤ b

/-- The refusals of SLOT OPEN after the slot number, in their order (R47). -/
def openRefusals (n : SlotNo) (s : State) : List (Prop × ReplyStatus) :=
  [(s.dir.slots[n].state ≠ .empty ∧ s.dir.slots[n].state ≠ .valid, .wrongState), (OutOfProfile n s, .wrongState),
   (s.dir.slots[n].verifyPending = true, .busy), (isProtected s.dir.protect n = true, .locked),
   (4 ≤ s.engine.queue.length, .queueFull), (s.dir.pool = [], .noBlock)]

theorem openRefusal_decides : Decides (openRefusals n s) (openRefusal n s) :=
  decides_ite Iff.rfl <| decides_ite outOfProfile_iff.symm <| decides_ite Iff.rfl <| decides_ite Iff.rfl <|
    decides_ite queueFull_iff.symm <| decides_ite Iff.rfl rfl

/-- The refusals of SLOT ERASE after the slot number, in their order (R50). -/
def eraseRefusals (n : SlotNo) (s : State) : List (Prop × ReplyStatus) :=
  [(s.dir.slots[n].state ≠ .valid, .wrongState), (OutOfProfile n s, .wrongState),
   (s.dir.slots[n].verifyPending = true, .busy), (isProtected s.dir.protect n = true, .locked),
   (4 ≤ s.engine.queue.length, .queueFull)]

theorem eraseRefusal_decides : Decides (eraseRefusals n s) (eraseRefusal n s) :=
  decides_ite Iff.rfl <| decides_ite outOfProfile_iff.symm <| decides_ite Iff.rfl <| decides_ite Iff.rfl <|
    decides_ite queueFull_iff.symm rfl

/-- The refusals of SLOT VERIFY after the slot number, in their order (R51). -/
def verifyRefusals (n : SlotNo) (s : State) : List (Prop × ReplyStatus) :=
  [(s.dir.slots[n].state ≠ .valid, .wrongState), (OutOfProfile n s, .wrongState),
   (s.dir.slots[n].verifyPending = true, .busy), (4 ≤ s.engine.queue.length, .queueFull)]

theorem verifyRefusal_decides : Decides (verifyRefusals n s) (verifyRefusal n s) :=
  decides_ite Iff.rfl <| decides_ite outOfProfile_iff.symm <| decides_ite Iff.rfl <|
    decides_ite queueFull_iff.symm rfl

/-- What SLOT COMMIT is refused with (R48). -/
def commitRefusal (n : SlotNo) (s : State) : Option ReplyStatus :=
  if s.dir.slots[n].state ≠ .opened then some .wrongState else if queueFull s then some .queueFull else none

theorem commitRefusal_decides :
    Decides [(s.dir.slots[n].state ≠ .opened, .wrongState), (4 ≤ s.engine.queue.length, .queueFull)]
      (commitRefusal n s) :=
  decides_ite Iff.rfl <| decides_ite queueFull_iff.symm rfl

/-- What SLOT ABANDON is refused with (R49). -/
def abandonRefusal (n : SlotNo) (s : State) : Option ReplyStatus :=
  if s.dir.slots[n].state = .committing then some .busy
  else if s.dir.slots[n].state ≠ .opened ∧ s.dir.slots[n].state ≠ .opening then some .wrongState else none

theorem abandonRefusal_decides :
    Decides [(s.dir.slots[n].state = .committing, .busy),
        (s.dir.slots[n].state ≠ .opened ∧ s.dir.slots[n].state ≠ .opening, .wrongState)]
      (abandonRefusal n s) :=
  decides_ite Iff.rfl <| decides_ite Iff.rfl rfl

/-! ## The five effects -/

/-- What a command comes to: the reply of the refusal, if one stands, or the state that it makes. -/
def answerOr (o : Option ReplyStatus) (accepted s : State) : State :=
  match o with
  | some st => answer st s
  | none => accepted

theorem slotOpenEffect_eq (h : slot.toNat = n.val) :
    slotOpenEffect slot s =
      answerOr (openRefusal n s) (answer .queued (acceptOpen n s)) s := by
  rw [slotOpenEffect, indexOf_eq_some.2 h]
  rfl

theorem slotCommitEffect_eq (h : slot.toNat = n.val) :
    slotCommitEffect slot s =
      answerOr (commitRefusal n s) (answer .queued
        (closeWindow (enqueue .commit n (setSlot n { s.dir.slots[n] with state := .committing } s)))) s := by
  rw [slotCommitEffect, indexOf_eq_some.2 h]
  simp only [commitRefusal]
  split
  · rfl
  · split <;> rfl

theorem slotAbandonEffect_eq (h : slot.toNat = n.val) :
    slotAbandonEffect slot s =
      answerOr (abandonRefusal n s) (answer .ok (closeWindow (dropWork n (cancelOpen n s)))) s := by
  rw [slotAbandonEffect, indexOf_eq_some.2 h]
  simp only [abandonRefusal]
  cases s.dir.slots[n].state <;> rfl

theorem slotEraseEffect_eq (h : slot.toNat = n.val) :
    slotEraseEffect slot s =
      answerOr (eraseRefusal n s) (answer .queued
        (closeWindow (enqueue .erase n (setSlot n { s.dir.slots[n] with state := .erasing } s)))) s := by
  rw [slotEraseEffect, indexOf_eq_some.2 h]
  rfl

theorem slotVerifyEffect_eq (h : slot.toNat = n.val) :
    slotVerifyEffect slot s =
      answerOr (verifyRefusal n s) (answer .queued
        (enqueue .verify n (setSlot n { s.dir.slots[n] with verifyPending := true } s))) s := by
  rw [slotVerifyEffect, indexOf_eq_some.2 h]
  rfl

/-- A slot number above 7 names no slot (R47 to R51). -/
theorem refuses_badSlot {c : Instr} {rest : List Byte}
    (hc : c = .slotOpen slot ∨ c = .slotCommit slot ∨ c = .slotAbandon slot ∨ c = .slotErase slot ∨
      c = .slotVerify slot) (h : 7 < slot.toNat) (hready : Ready c rest s) : Refuses c rest s .badArg := by
  have hslot : indexOf 8 slot = none := indexOf_eq_none.2 h
  have heffect {f : State → State} (hf : f = answer .badArg) (hexec : exec c s = command c s f) :
      Refuses c rest s .badArg := by
    rw [Refuses, Answers, hexec, command_of_ready hready, hf]
    rfl
  rcases hc with rfl | rfl | rfl | rfl | rfl
  · exact heffect (funext fun u => by rw [slotOpenEffect, hslot]) rfl
  · exact heffect (funext fun u => by rw [slotCommitEffect, hslot]) rfl
  · exact heffect (funext fun u => by rw [slotAbandonEffect, hslot]) rfl
  · exact heffect (funext fun u => by rw [slotEraseEffect, hslot]) rfl
  · exact heffect (funext fun u => by rw [slotVerifyEffect, hslot]) rfl

end

/-- A command that carries out what its refusal function leaves. -/
theorem refuses_of_some {c : Instr} {rest : List Byte} {s : State} {st : ReplyStatus} {o : Option ReplyStatus}
    {effect : State → State} {accepted : State} (hready : Ready c rest s) (hexec : exec c s = command c s effect)
    (heffect : effect (taken rest s) = answerOr o accepted (taken rest s))
    (ho : o = some st) : Refuses c rest s st := by
  rw [Refuses, Answers, hexec, command_of_ready hready, heffect, ho]
  rfl

/-- Settles O28: each command's refusals as a list, decided by its first condition that holds. -/
theorem saveCommandsRefusedInOrder : Obligations.SaveCommandsRefusedInOrder := by
  intro slot n rest s r out first
  refine ⟨fun c hc h hready => refuses_badSlot hc h hready, fun h => ⟨?_, ?_, ?_, ?_, ?_⟩⟩
  all_goals intro hready pre p st post hl hpre hp
  · exact refuses_of_some hready rfl (slotOpenEffect_eq h) (openRefusal_decides.eq_some hl hpre hp)
  · exact refuses_of_some hready rfl (slotCommitEffect_eq h) (commitRefusal_decides.eq_some hl hpre hp)
  · exact refuses_of_some hready rfl (slotAbandonEffect_eq h) (abandonRefusal_decides.eq_some hl hpre hp)
  · exact refuses_of_some hready rfl (slotEraseEffect_eq h) (eraseRefusal_decides.eq_some hl hpre hp)
  · exact refuses_of_some hready rfl (slotVerifyEffect_eq h) (verifyRefusal_decides.eq_some hl hpre hp)

/-! ## Acceptances -/

theorem exec_of_accepted {c : Instr} {rest : List Byte} {s : State} {o : Option ReplyStatus}
    {effect : State → State} {accepted : State} (hready : Ready c rest s) (hexec : exec c s = command c s effect)
    (heffect : effect (taken rest s) = answerOr o accepted (taken rest s)) (ho : o = none) :
    exec c s = .next accepted := by
  rw [hexec, command_of_ready hready, heffect, ho]
  rfl

section
variable {n : SlotNo} {s : State}

theorem not_outOfProfile_of_inside (h : ∀ b, s.dir.slots[n].current = some b → b < s.profile.blocks) :
    ¬OutOfProfile n s := fun ⟨_, b, hb, hout⟩ => Nat.not_lt.2 hout (h b hb)

theorem openRefusal_of_good (hstate : s.dir.slots[n].state = .empty ∨ s.dir.slots[n].state = .valid)
    (hin : ¬OutOfProfile n s) (hpending : s.dir.slots[n].verifyPending = false)
    (hprot : isProtected s.dir.protect n = false) (hroom : s.engine.queue.length < 4) (hpool : s.dir.pool ≠ []) :
    openRefusal n s = none := by
  refine openRefusal_decides.eq_none fun q hq => ?_
  simp only [openRefusals, List.mem_cons, List.not_mem_nil, or_false] at hq
  rcases hq with rfl | rfl | rfl | rfl | rfl | rfl
  · exact fun ⟨hempty, hvalid⟩ => hstate.elim hempty hvalid
  · exact hin
  · exact Bool.eq_false_iff.1 hpending
  · exact Bool.eq_false_iff.1 hprot
  · exact Nat.not_le.2 hroom
  · exact hpool

theorem eraseRefusal_of_good (hstate : s.dir.slots[n].state = .valid) (hin : ¬OutOfProfile n s)
    (hpending : s.dir.slots[n].verifyPending = false) (hprot : isProtected s.dir.protect n = false)
    (hroom : s.engine.queue.length < 4) : eraseRefusal n s = none := by
  refine eraseRefusal_decides.eq_none fun q hq => ?_
  simp only [eraseRefusals, List.mem_cons, List.not_mem_nil, or_false] at hq
  rcases hq with rfl | rfl | rfl | rfl | rfl
  · exact not_not.2 hstate
  · exact hin
  · exact Bool.eq_false_iff.1 hpending
  · exact Bool.eq_false_iff.1 hprot
  · exact Nat.not_le.2 hroom

theorem verifyRefusal_of_good (hstate : s.dir.slots[n].state = .valid) (hin : ¬OutOfProfile n s)
    (hpending : s.dir.slots[n].verifyPending = false) (hroom : s.engine.queue.length < 4) :
    verifyRefusal n s = none := by
  refine verifyRefusal_decides.eq_none fun q hq => ?_
  simp only [verifyRefusals, List.mem_cons, List.not_mem_nil, or_false] at hq
  rcases hq with rfl | rfl | rfl | rfl
  · exact not_not.2 hstate
  · exact hin
  · exact Bool.eq_false_iff.1 hpending
  · exact Nat.not_le.2 hroom

theorem acceptOpen_of_pool {b : Nat} {pool : List Nat} (h : s.dir.pool = b :: pool) :
    acceptOpen n s =
      { s with
        engine := { s.engine with queue := s.engine.queue ++ [⟨.open, n⟩] },
        dir := { s.dir with
          slots := s.dir.slots.set n.val
            { s.dir.slots[n] with state := .opening, working := some b, workCheck := some ⟨0, 0⟩ } n.isLt,
          pool := pool, windowOpen := false } } := by
  simp only [acceptOpen, h, List.head?_cons, setSlot_dir, List.tail_cons]
  rfl

end

/-- Settles O29: with no refusal standing each effect is its acceptance. -/
theorem saveCommandsAccepted : Obligations.SaveCommandsAccepted := by
  intro slot n rest s r inside joined record h hroom
  refine ⟨fun hready hstate hpending hprot b pool hpool => ?_, fun hready hstate => ?_,
    fun hready hstate hin hpending hprot => ?_, fun hready hstate hin hpending => ?_⟩
  · have hin : ¬OutOfProfile n s := fun hout =>
      hstate.elim (fun he => nomatch he.symm.trans hout.1) fun hv => not_outOfProfile_of_inside hv.2 hout
    have hgood := openRefusal_of_good (hstate.imp_right And.left) hin hpending hprot hroom (by simp [hpool])
    refine (exec_of_accepted hready rfl (slotOpenEffect_eq h) hgood).trans ?_
    rw [acceptOpen_of_pool (s := taken rest s) hpool]
    rfl
  · have hgood : commitRefusal n s = none := by
      rw [commitRefusal, if_neg (not_not.2 hstate), if_neg (mt queueFull_iff.1 (Nat.not_le.2 hroom))]
    exact exec_of_accepted hready rfl (slotCommitEffect_eq h) hgood
  · have hgood := eraseRefusal_of_good hstate (not_outOfProfile_of_inside hin) hpending hprot hroom
    exact exec_of_accepted hready rfl (slotEraseEffect_eq h) hgood
  · have hgood := verifyRefusal_of_good hstate (not_outOfProfile_of_inside hin) hpending hroom
    exact exec_of_accepted hready rfl (slotVerifyEffect_eq h) hgood

/-! ## ABANDON -/

theorem abandoned_eq {n : SlotNo} {s : State} {w : Nat} (hwork : s.dir.slots[n].working = some w)
    (hw : w < s.profile.blocks) :
    closeWindow (dropWork n (cancelOpen n s)) =
      { s with
        engine := (cancelOpen n s).engine,
        dir := { s.dir with
          slots := s.dir.slots.set n.val s.dir.slots[n].withoutWork n.isLt, pool := insertSorted w s.dir.pool,
          windowOpen := false } } := by
  have hwork : (cancelOpen n s).dir.slots[n].working = some w := hwork
  rw [dropWork, hwork, returnBlock]
  rw [if_pos (by exact hw)]
  rfl

theorem cancelOpen_queue (n : SlotNo) (s : State) :
    (cancelOpen n s).engine.queue = s.engine.queue.filter fun e => decide (e ≠ ⟨.open, n⟩) := by
  refine List.filter_congr fun e _ => ?_
  have hiff : (e.kind == .open && e.slot == n) = decide (e = ⟨.open, n⟩) := by
    rw [Bool.eq_iff_iff]
    cases e
    simp
  rw [hiff, decide_not]

theorem cancelOpen_flight (n : SlotNo) (s : State) :
    (cancelOpen n s).engine.flight =
      match s.engine.flight with
      | some f => if f.kind = .open ∧ f.slot = n then none else some f
      | none => none := by
  unfold cancelOpen
  cases s.engine.flight with
  | none => rfl
  | some f => by_cases h : f.kind = .open ∧ f.slot = n <;> simp [opensSlot, Option.filter, h]

/-- Settles O30: the acceptance's two parts, the engine's cancelled OPEN and the directory's dropped work. -/
theorem abandonReturnsWorkingBlock : Obligations.AbandonReturnsWorkingBlock := by
  intro slot n w rest s r hdir h hready hstate hwork
  have hcommit : s.dir.slots[n].state ≠ .committing := fun hc =>
    hstate.elim (fun ho => nomatch ho.symm.trans hc) fun ho => nomatch ho.symm.trans hc
  have hgood : abandonRefusal n s = none := by
    rw [abandonRefusal, if_neg hcommit]
    exact if_neg fun ⟨hopen, hopening⟩ => hstate.elim hopening hopen
  obtain ⟨-, -, -, ⟨-, -, ⟨hsorted, -⟩, -⟩, -, ⟨hinside, -⟩⟩ := hdir
  have hw : w < s.profile.blocks := hinside n hstate (powered_of_answered hready.1) w hwork
  refine ⟨closeWindow (dropWork n (cancelOpen n s)),
    (exec_of_accepted hready rfl (slotAbandonEffect_eq h) hgood).trans ?_, ?_⟩
  · rw [abandoned_eq (s := taken rest s) hwork hw, abandoned_eq hwork hw]
    rfl
  · rw [abandoned_eq hwork hw]
    refine ⟨Vector.getElem_set_self n.isLt, fun m hm => getElem_setSlot_ne hm _ s, fun b => ?_,
      insertSorted_pairwise hsorted, rfl, rfl, cancelOpen_queue n s, cancelOpen_flight n s, rfl, rfl⟩
    exact mem_insertSorted.trans or_comm

end Sys2Proof.Proofs
end

section
/-! The save engine: the start of an operation, the access of one position, the ends of operations and the sweep, and
the save check's incremental update. -/

namespace Sys2Proof.Proofs

open Sys2Proof.Machine Sys2Proof.Safety Sys2Proof.Laws

/-! ## The save check (R29, R30) -/

/-- A sum modulo 251 after one summand grows by d (R30). -/
def shifted (c : Nat) (d : Int) : Nat := (((c : Int) + d) % 251).toNat

theorem shifted_add (c x : Nat) (d : Int) : (shifted c d + x) % 251 = shifted ((c + x) % 251) d := by
  unfold shifted
  omega

theorem add_eq_shifted (c x y : Nat) : (c + y) % 251 = shifted ((c + x) % 251) ((y : Int) - x) := by
  unfold shifted
  omega

theorem replace_eq_shifted (c : Check) (p : Nat) (a b : Byte) :
    c.replace p a b =
      ⟨shifted c.s1 ((b.toNat : Int) - a.toNat),
        shifted c.s2 ((weight p % 251 * b.toNat : Nat) - (weight p % 251 * a.toNat : Nat) : Int)⟩ := by
  unfold Check.replace shifted
  push_cast
  rw [mul_sub]

/-- A further position's byte and the replacement of an earlier one do not disturb each other. -/
theorem add_replace (c : Check) (p n : Nat) (a b x : Byte) :
    (c.replace p a b).add n x = (c.add n x).replace p a b := by
  simp only [replace_eq_shifted, Check.add, shifted_add]

/-- The last position's byte replaced. -/
theorem add_eq_replace (c : Check) (p : Nat) (a b : Byte) : c.add p b = (c.add p a).replace p a b := by
  simp only [replace_eq_shifted, Check.add]
  rw [add_eq_shifted c.s1 a.toNat b.toNat, add_eq_shifted c.s2 (weight p % 251 * a.toNat) (weight p % 251 * b.toNat)]

/-- The check up to a position follows the one byte that differs, once it is reached. -/
theorem checkUpTo_replaced {s t : State} {block p : Nat} {a b : Byte} (ha : sramByte s block p = a)
    (hb : sramByte t block p = b) (hother : ∀ q, q ≠ p → sramByte t block q = sramByte s block q) (n : Nat) :
    checkUpTo t block n = if p < n then (checkUpTo s block n).replace p a b else checkUpTo s block n := by
  induction n with
  | zero => rfl
  | succ n ih =>
    simp only [checkUpTo, ih]
    rcases Nat.lt_trichotomy p n with hlt | heq | hgt
    · rw [if_pos hlt, if_pos (by omega), hother n (by omega), add_replace]
    · subst heq
      rw [if_neg (Nat.lt_irrefl p), if_pos (Nat.lt_succ_self p), ha, hb, ← add_eq_replace]
    · rw [if_neg (by omega), if_neg (by omega), hother n (by omega)]

/-- Settles O35: by induction on the positions that the check covers. -/
theorem replacedByteGivesBlockCheck : Obligations.ReplacedByteGivesBlockCheck := by
  intro s t block p a b hp ha hb hother
  exact (checkUpTo_replaced ha hb hother _).trans (if_pos hp)

/-! ## The grant given to a waiting kicker (R161, R146) -/

section
variable {s : State}

theorem offerKicker_quiet (h : s.supply.kickerReq = false ∨ s.supply.monitor = .warn) : offerKicker s = s := by
  refine if_neg ?_
  rcases h with h | h <;> simp [h]

theorem offerKicker_gives {a : Active} (hreq : s.supply.kickerReq = true) (hrun : s.supply.monitor = .run)
    (ha : s.rumble.active = some a) :
    offerKicker s =
      { s with supply := { s.supply with holder := .kicker, kickerReq := false },
               rumble := { s.rumble with active := some { a with kick := .kicking 3 } } } := by
  simp [offerKicker, hreq, hrun, giveKicker, setKick, ha]

theorem offerKicker_eq (s : State) :
    offerKicker s = { s with supply := (offerKicker s).supply, rumble := (offerKicker s).rumble } := by
  unfold offerKicker
  split <;> rfl

end

/-- A flip ends: the slot has its new record, its old block is back in the pool, and the grant is free, or given in RUN
to the kicker that stands (R56, R57, R161). -/
structure FlipEnds (n : SlotNo) (q : SlotRecord) (o : Option Nat) (v t : State) : Prop where
  slot : t.dir.slots[n] = q
  others : ∀ m : SlotNo, m ≠ n → t.dir.slots[m] = v.dir.slots[m]
  pool : ∀ b, b ∈ t.dir.pool ↔ b ∈ v.dir.pool ∨ (o = some b ∧ b < v.profile.blocks)
  engine : t.engine = v.engine
  quiet : v.supply.kickerReq = false ∨ v.supply.monitor = .warn →
    t.supply = { v.supply with holder := .none } ∧ t.rumble = v.rumble
  given : ∀ a, v.supply.kickerReq = true → v.supply.monitor = .run → v.rumble.active = some a →
    t.supply = { v.supply with holder := .kicker, kickerReq := false } ∧
      t.rumble = { v.rumble with active := some { a with kick := .kicking 3 } }
  directory : { t.dir with slots := v.dir.slots, pool := v.dir.pool } = v.dir
  rest : { t with dir := v.dir, engine := v.engine, supply := v.supply, rumble := v.rumble } = v

theorem flipEnds (n : SlotNo) (q : SlotRecord) (o : Option Nat) (v : State) :
    FlipEnds n q o v (offerKicker (setHolder .none (returnBlock o (setSlot n q v)))) := by
  have hmem (b : Nat) := mem_returnBlock_pool (o := o) (s := setSlot n q v) (b := b)
  generalize hpool : (returnBlock o (setSlot n q v)).dir.pool = pool at hmem
  rw [returnBlock_eq, hpool]
  refine ⟨?_, fun m hm => ?_, fun b => ?_, ?_, fun h => ?_, fun a hreq hrun ha => ?_, ?_, ?_⟩
  · rw [offerKicker_eq]
    exact getElem_setSlot_same n q v
  · rw [offerKicker_eq]
    exact getElem_setSlot_ne hm q v
  · rw [offerKicker_eq]
    exact hmem b
  · rw [offerKicker_eq]
    rfl
  · rw [offerKicker_quiet (by exact h)]
    exact ⟨rfl, rfl⟩
  · rw [offerKicker_gives (by exact hreq) (by exact hrun) (by exact ha)]
    exact ⟨rfl, rfl⟩
  · rw [offerKicker_eq]
    rfl
  · rw [offerKicker_eq]
    rfl

/-! ## The start of an operation (R45) -/

theorem exec_engineStart_eq {e : QueueEntry} {rest : List QueueEntry} {s : State} (hans : answered s = true)
    (hflight : s.engine.flight = none) (hqueue : s.engine.queue = e :: rest) :
    exec .engineStart s = .next (startEntry e { s with engine := { s.engine with queue := rest } }) := by
  have hidle : engineIdle s = true := by simp [engineIdle, hans, hflight]
  simp only [exec, execEngineStart, hidle, hqueue, if_true]

theorem startEntry_of_quiet {e : QueueEntry} {s : State} (h : e.kind = .open ∨ e.kind = .verify) :
    startEntry e s =
      setFlight (some ⟨e.kind, e.slot, firstStage e.kind s.dir.slots[e.slot], 0, ⟨0, 0⟩, false⟩) s := by
  refine if_neg fun hstage => ?_
  rcases h with h | h
  · simp only [firstStage, h] at hstage
    split at hstage <;> nomatch hstage
  · simp only [firstStage, h] at hstage
    nomatch hstage

theorem startEntry_of_request {e : QueueEntry} {s : State} (h : e.kind = .commit ∨ e.kind = .erase) :
    startEntry e s =
      engineRequest (setFlight (some ⟨e.kind, e.slot, .grantWait, 0, ⟨0, 0⟩, false⟩) s) := by
  unfold startEntry
  rcases h with h | h <;> simp [firstStage, h]

theorem engineRequest_of_free {s : State} (h : s.supply.holder = .none) : engineRequest s = giveEngine s := if_pos h

theorem engineRequest_of_held {s : State} (h : s.supply.holder ≠ .none) :
    engineRequest s = { s with supply := { s.supply with engineReq := true } } := if_neg h

theorem giveEngine_of_commit {f : Flight} {s : State} (hf : s.engine.flight = some f) (hk : f.kind = .commit) :
    giveEngine s =
      offerKicker (setHolder .none
        (commitFlip f.slot (setFlight none { s with supply := { s.supply with engineReq := false } }))) := by
  simp only [giveEngine, hf, hk]

/-- Settles O31: the first stage of each kind, and what the grant makes of a request. -/
theorem engineStartsTheOldestEntry : Obligations.EngineStartsTheOldestEntry := by
  intro n rest s r flying hans hflight
  refine ⟨fun hq => ?_, fun hq => ?_, fun k hk hq hheld => ?_, fun hq hfree => ?_, fun hq hfree => ?_⟩
  · exact (exec_engineStart_eq hans hflight hq).trans (congrArg _ (startEntry_of_quiet (.inl rfl)))
  · exact exec_engineStart_eq hans hflight hq
  · rw [exec_engineStart_eq hans hflight hq, startEntry_of_request (by exact hk), engineRequest_of_held]
    · rfl
    · exact fun hn : s.supply.holder = .none => nomatch hheld.symm.trans hn
  · rw [exec_engineStart_eq hans hflight hq, startEntry_of_request (.inr rfl), engineRequest_of_free (by exact hfree)]
    rfl
  · refine ⟨_, exec_engineStart_eq hans hflight hq, ?_⟩
    rw [startEntry_of_request (.inl rfl), engineRequest_of_free (by exact hfree),
      giveEngine_of_commit rfl rfl]
    obtain ⟨hslot, hothers, hpool, hengine, hquiet, hgiven, hdir, hrest⟩ :=
      flipEnds n (r.committed s.cal) r.current { s with
        engine := { s.engine with queue := rest, flight := none },
        supply := { s.supply with engineReq := false } }
    have hrest := congrArg (fun u : State => { u with engine := s.engine, supply := s.supply }) hrest
    exact ⟨hslot, hothers, hpool, hengine, hquiet, hgiven, hdir, hrest⟩

/-! ## The access of one position (R53, R54, R57, R58) -/

theorem exec_engineByteAccess_eq {f : Flight} {s : State} (hpow : powered s = true) (hf : s.engine.flight = some f)
    (hpos : f.position < 4096) : exec .engineByteAccess s = .next (accessByte f s) := by
  simp [exec, execEngineByteAccess, hf, hpow, Config.blockSize, hpos]

section
variable {s : State} {b : Nat}

theorem filter_inside (h : b < s.profile.blocks) : (some b).filter (insideProfile s) = some b := by
  rw [Option.filter_some]
  exact if_pos (decide_eq_true h)

theorem engineByte_inside (h : b < s.profile.blocks) (p : Nat) : engineByte (some b) p s = sramByte s b p := by
  rw [engineByte, filter_inside h]

theorem engineRead_inside (h : b < s.profile.blocks) (p : Nat) : engineRead (some b) p s = portRead true b p s := by
  rw [engineRead, filter_inside h]

theorem engineWrite_inside (h : b < s.profile.blocks) (p : Nat) (x : Byte) :
    engineWrite (some b) p x s = portWrite true b p x s := by
  rw [engineWrite, filter_inside h]

/-- What a write of the save SRAM reads back (R21). -/
theorem readMem_sramWritten (hmem : MemoryKept s) (b p : Nat) (x : Byte) (a : Nat) :
    readMem sramUnlisted (writeMem sramUnlisted s.sram (b * 4096 + p) x) a =
      if a = b * 4096 + p then x else readMem sramUnlisted s.sram a :=
  readMem_writeMem hmem.2.2.1.1 _ _ a

end

/-- Settles O32: each kind's access as an equation, and the byte that the SRAM reads back. -/
theorem engineWorksOnePosition : Obligations.EngineWorksOnePosition := by
  intro f s hmem hpow hf hpos r p byteAt add others
  refine ⟨fun w x hkind hwork hw hx => ?_, fun cur hkind hstage hcur hb => ?_, fun cur hkind hstage hcur hb => ?_⟩
  · have hstage : f.stage = .copy ∨ f.stage = .fill := hx.imp And.left And.left
    have hdata : openData f s = x := by
      rcases hx with ⟨hcopy, cur, hcur, hb, hx⟩ | ⟨hfill, hx⟩
      · rw [openData, if_pos hcopy, hcur, engineByte_inside hb, hx]
        rfl
      · rw [openData, hfill, hx]
        rfl
    have hexec := exec_engineByteAccess_eq hpow hf hpos
    rw [accessByte_open hkind hstage, hdata, hwork, engineWrite_inside hw] at hexec
    refine ⟨_, hexec, ?_, fun a ha => ?_, rfl, rfl, rfl⟩
    · exact (readMem_sramWritten hmem w p x _).trans (if_pos rfl)
    · exact (readMem_sramWritten hmem w p x a).trans (if_neg ha)
  · have hscan : accessByte f s = setFlight (some { f with position := p + 1, check := add (byteAt s cur) })
        (portRead true cur p s) := by
      have haccess : accessByte f s = scanByte f s := by simp only [accessByte, hkind, hstage]
      rw [haccess, scanByte, hcur, engineByte_inside hb, engineRead_inside hb]
      rfl
    refine ⟨_, (exec_engineByteAccess_eq hpow hf hpos).trans (congrArg _ hscan), rfl, rfl⟩
  · have herase : accessByte f s =
        setFlight (some { f with position := p + 1, stage := if p = 4095 then .flip else .fill })
          (portWrite true cur p 0xFF s) := by
      have hnext : (p + 1 = 4096) = (p = 4095) := by
        rw [eq_iff_iff]
        omega
      have haccess : accessByte f s = eraseByte f s := by simp only [accessByte, hkind, hstage]
      rw [haccess, eraseByte, hcur, filter_inside hb]
      simp only [Config.blockSize, ← hnext]
      rfl
    refine ⟨_, (exec_engineByteAccess_eq hpow hf hpos).trans (congrArg _ herase), ?_, fun a ha => ?_, rfl, rfl, rfl⟩
    · exact (readMem_sramWritten hmem cur p 0xFF _).trans (if_pos rfl)
    · exact (readMem_sramWritten hmem cur p 0xFF a).trans (if_neg ha)

/-! ## The ends of operations (R55, R57, R58) -/

section
variable {f : Flight} {s : State}

theorem checkDiffers_eq : checkDiffers f s = decide (s.dir.slots[f.slot].stored ≠ some f.check) := by
  rw [checkDiffers, Bool.eq_iff_iff, bne_iff_ne, decide_eq_true_iff]

/-- The damage marks, as values of the two parts they touch (R34). -/
theorem markDamage_eq (bad : Bool) (n : SlotNo) :
    markDamage bad n s =
      setSlot n { s.dir.slots[n] with damaged := s.dir.slots[n].damaged || bad }
        { s with cause := if bad then (setFault .damaged s).cause else s.cause } := by
  cases bad with
  | false =>
    have hsame : { s.dir.slots[n] with damaged := s.dir.slots[n].damaged || false } = s.dir.slots[n] := by
      rw [Bool.or_false]
    rw [hsame]
    simp [markDamage, setSlot]
  | true =>
    have hcause : (setFault .damaged (setSlot n { s.dir.slots[n] with damaged := true } s)).cause =
        (setFault .damaged s).cause := setFault_cause_congr .damaged rfl
    rw [markDamage, if_pos rfl, setFault_eq, hcause, Bool.or_true]
    rfl

theorem setSlot_setSlot (n : SlotNo) (q r : SlotRecord) : setSlot n q (setSlot n r s) = setSlot n q s := by
  simp [setSlot]

/-- A slot's record with the marks of a comparison (R55, R58). -/
def compared (bad : Bool) (q : SlotRecord) : SlotRecord :=
  { q with damaged := q.damaged || bad, lastResult := if bad then .damaged else .done, done := true }

/-- An operation that compares checks ends: the slot's record with the marks of the comparison, and an idle engine. -/
def endedWith (f : Flight) (bad : Bool) (q : SlotRecord) (s : State) : State :=
  { s with engine := { s.engine with flight := none },
           cause := if bad then (setFault .damaged s).cause else s.cause,
           dir := { s.dir with slots := s.dir.slots.set f.slot.val (compared bad q) f.slot.isLt } }

theorem openEnd_eq :
    openEnd f s =
      endedWith f (decide (f.stage = .copy ∧ s.dir.slots[f.slot].stored ≠ some f.check))
        { s.dir.slots[f.slot] with state := .opened, workCheck := some f.check } s := by
  have hbad : (f.stage == .copy && checkDiffers f s) =
      decide (f.stage = .copy ∧ s.dir.slots[f.slot].stored ≠ some f.check) := by
    rw [checkDiffers_eq, Bool.decide_and, beq_eq_decide]
  simp only [openEnd, hbad, markDamage_eq]
  rw [getElem_setSlot_same, setSlot_setSlot]
  rfl

theorem verifyEnd_eq :
    verifyEnd f s =
      endedWith f (decide (s.dir.slots[f.slot].stored ≠ some f.check))
        { s.dir.slots[f.slot] with verifyPending := false } s := by
  simp only [verifyEnd, checkDiffers_eq, markDamage_eq]
  rw [getElem_setSlot_same, setSlot_setSlot]
  rfl

/-- An ERASE that ends with no request of the engine standing frees the grant (R161). -/
theorem eraseEnd_eq (hreq : s.supply.engineReq = false) :
    eraseEnd f s =
      offerKicker (setHolder .none (returnBlock s.dir.slots[f.slot].current
        (setSlot f.slot s.dir.slots[f.slot].erased (setFlight none s)))) := by
  have hswap (o : Option Nat) (q : SlotRecord) :
      setFlight none (returnBlock o (setSlot f.slot q s)) = returnBlock o (setSlot f.slot q (setFlight none s)) := by
    cases o with
    | none => rfl
    | some b => exact apply_ite (setFlight none) _ _ _
  have hreq (o : Option Nat) (q : SlotRecord) :
      (setHolder .none (returnBlock o (setSlot f.slot q (setFlight none s)))).supply.engineReq = false := by
    rw [returnBlock_eq]
    exact hreq
  rw [eraseEnd, eraseFlip, hswap, releaseGrant]
  simp only [hreq]
  rfl

theorem eraseReady_of_end (hkind : f.kind = .erase) (hend : f.stage = .flip ∨
    (f.stage = .fill ∧ ∃ b, s.dir.slots[f.slot].current = some b ∧ s.profile.blocks ≤ b)) :
    eraseReady f s = true := by
  rcases hend with hflip | ⟨hfill, b, hb, hout⟩
  · simp [eraseReady, hkind, hflip]
  · have hnone : (s.dir.slots[f.slot].current.filter (insideProfile s)) = none := by
      rw [hb, Option.filter_some]
      exact if_neg fun hin => Nat.not_lt.2 hout (of_decide_eq_true hin)
    rw [eraseReady, hkind, hfill, hnone]
    rfl

end

/-- Settles O33: the ends' equations, and the flip of an ERASE. -/
theorem operationsEndTheirWork : Obligations.OperationsEndTheirWork := by
  intro f s hpow hf r record ended
  refine ⟨fun hpos hkind _ => ?_, fun hpos hkind hsweep => ?_, fun hkind hend hreq => ?_⟩
  · have hexec : exec .openEnd s = .next (openEnd f s) := by
      simp [exec, execOpenEnd, hf, hpow, hkind, scannedAll, hpos, Config.blockSize]
    rw [hexec, openEnd_eq]
    rfl
  · have hexec : exec .verifyEnd s = .next (verifyEnd f s) := by
      simp [exec, execVerifyEnd, hf, hpow, hkind, hsweep, scannedAll, hpos, Config.blockSize]
    rw [hexec, verifyEnd_eq]
    rfl
  · have hexec : exec .eraseFlip s = .next (eraseEnd f s) := by
      simp [exec, execEraseFlip, hf, hpow, eraseReady_of_end hkind hend]
    rw [eraseEnd_eq hreq] at hexec
    obtain ⟨hslot, hothers, hpool, hengine, hquiet, hgiven, hdir, hrest⟩ :=
      flipEnds f.slot r.erased r.current (setFlight none s)
    have hrest := congrArg (fun u : State => { u with engine := s.engine }) hrest
    exact ⟨_, hexec, hslot, hothers, hpool, hengine, hquiet, hgiven, hdir, hrest⟩

/-! ## The sweep (R62) -/

theorem exec_sweepStep_eq {n : SlotNo} {s : State} (hans : answered s = true) (hflight : s.engine.flight = none)
    (hqueue : s.engine.queue = []) (hsweep : s.engine.sweep = n.val) :
    exec .sweepStep s =
      if sweepScans n s then .next (setFlight (some ⟨.verify, n, .scan, 0, ⟨0, 0⟩, true⟩) s)
      else .next (advanceSweep s) := by
  have hlt : s.engine.sweep < 8 := hsweep ▸ n.isLt
  have hdue : sweepDue s = true := by simp [sweepDue, engineIdle, hans, hflight, hqueue, hlt]
  have hn : (⟨s.engine.sweep, hlt⟩ : SlotNo) = n := Fin.ext hsweep
  simp only [exec, execSweepStep, hlt, hdue, if_true, dite_true, hn]

/-- Settles O34: the sweep's step by what it scans, its end by the comparison. -/
theorem sweepScansValidSlots : Obligations.SweepScansValidSlots := by
  intro n f s r q
  refine ⟨fun hans hflight hqueue hsweep => ?_, fun hpow hf hkind hbySweep hpos => ?_⟩
  · have hexec := exec_sweepStep_eq hans hflight hqueue hsweep
    refine ⟨fun b hvalid hcur hb => ?_, fun hpass => ?_⟩
    · have hin : ¬outOfProfile s r = true := fun hout => by
        obtain ⟨-, c, hc, hout⟩ := outOfProfile_iff.1 hout
        cases hcur.symm.trans hc
        exact Nat.not_lt.2 hout hb
      have hscan : sweepScans n s = true := by
        rw [sweepScans, Bool.and_eq_true, beq_iff_eq, Bool.not_eq_true', Bool.eq_false_iff]
        exact ⟨hvalid, hin⟩
      rw [hexec, if_pos hscan]
      rfl
    · have hscan : ¬sweepScans n s = true := by
        rw [sweepScans, Bool.and_eq_true, beq_iff_eq, Bool.not_eq_true', Bool.eq_false_iff]
        rintro ⟨hvalid, hin⟩
        rcases hpass with hne | ⟨b, hcur, hb⟩
        · exact hne hvalid
        · exact hin (outOfProfile_iff.2 ⟨hvalid, b, hcur, hb⟩)
      rw [hexec, if_neg hscan, advanceSweep, hsweep]
  · have hexec : exec .sweepScanEnd s = .next (sweepEnd f s) := by
      simp [exec, execSweepScanEnd, hf, hpow, hkind, hbySweep, scannedAll, hpos, Config.blockSize]
    have hdiff := checkDiffers_eq (f := f) (s := s)
    refine ⟨fun hsame => ?_, fun hdiffers => ?_⟩
    · rw [decide_eq_false (not_not.2 hsame)] at hdiff
      rw [hexec, sweepEnd, hdiff]
      rfl
    · rw [decide_eq_true hdiffers] at hdiff
      rw [hexec, sweepEnd, hdiff, markDamage_eq, Bool.or_true]
      rfl

end Sys2Proof.Proofs
end

section
/-! The queries: each reply in the layout of R171, and nothing else of the state touched. -/

namespace Sys2Proof.Proofs

open Sys2Proof.Machine Sys2Proof.Safety Sys2Proof.Laws

/-- A command that does nothing but reply. -/
theorem answers_query {c : Instr} {rest : List Byte} {s : State} {st : ReplyStatus} {p : List Byte}
    {f : State → State} (hready : Ready c rest s) (hexec : exec c s = command c s f)
    (hf : f (taken rest s) = reply st p (taken rest s)) : Answers c rest s st p s :=
  hexec.trans ((command_of_ready hready f).trans (congrArg _ hf))

theorem byteOf_index {n : Nat} {b : Byte} {i : Fin n} (h : b.toNat = i.val) : byteOf i.val = b :=
  BitVec.eq_of_toNat_eq (by rw [byteOf, BitVec.toNat_ofNat, ← h, Nat.mod_eq_of_lt b.isLt])

/-! ## PROFILE, FAULTS, SLOT INFO, POOL INFO -/

theorem outOfProfile_eq (s : State) (r : SlotRecord) :
    outOfProfile s r = (decide (r.state = .valid) && r.current.any fun b => decide (s.profile.blocks ≤ b)) := by
  rw [Bool.eq_iff_iff, outOfProfile_iff]
  cases r.current <;> simp

theorem faultsPayload_eq (s : State) :
    faultsPayload s =
      [byteOf s.cause.flags.toNat, byteOf (s.cause.flags.toNat / 256)] ++
        (match s.cause.record with
          | some r => [1, byteOf r.strip, byteOf r.offset, byteOf (r.offset / 256), if r.isWrite then 1 else 0,
              byteOf r.reason.code]
          | none => [0, 0, 0, 0, 0, 0]) := by
  unfold faultsPayload
  cases s.cause.record <;> rfl

/-- Settles O36: each payload is the one of R171. -/
theorem directoryQueriesReport : Obligations.DirectoryQueriesReport := by
  intro slot rest s
  refine ⟨fun h => answers_query h rfl rfl, fun h => ?_, fun h => ⟨fun hbad => ?_, fun n hn => ?_⟩,
    fun h => answers_query h rfl rfl⟩
  · exact answers_query h rfl (congrArg (fun p => reply .ok p (taken rest s)) (faultsPayload_eq s))
  · refine answers_query h rfl ?_
    rw [slotInfoEffect, indexOf_eq_none.2 hbad]
    rfl
  · refine answers_query h rfl ?_
    rw [slotInfoEffect, indexOf_eq_some.2 hn]
    refine congrArg (fun p => reply .ok p (taken rest s)) ?_
    simp only [slotInfoPayload, outOfProfile_eq, byteOf_index hn]
    rfl

/-! ## VOICE INFO, TRACK INFO, RUMBLE INFO -/

theorem activePayload_eq (s : State) :
    activePayload s =
      match s.rumble.active with
      | none => List.replicate 9 0
      | some a => [byteOf a.request.pattern.val, byteOf s.rumble.patterns[a.request.pattern].rep.code,
          byteOf a.request.priority, byteOf a.request.source.code, byteOf a.stepIndex, byteOf a.stepRemaining,
          byteOf a.allowanceLeft, byteOf a.kick.code, byteOf a.kick.left] := by
  unfold activePayload
  cases s.rumble.active <;> rfl

theorem rumbleInfoPayload_eq (s : State) :
    rumbleInfoPayload s =
      [byteOf (bitsOf [s.profile.motor, s.rumble.active.isSome, s.rumble.hot]), byteOf (motorDrive s).1,
        byteOf (motorDrive s).2.code] ++ activePayload s ++
      [byteOf s.rumble.queue.length, byteOf s.rumble.heat, byteOf (s.rumble.heat / 256), byteOf s.rumble.zeroRun,
        byteOf s.rumble.lastEnd.code] ++ s.rumble.queue.flatMap queuedPayload := by
  simp only [rumbleInfoPayload, List.append_assoc]
  rfl

/-- Settles O37: each payload is the one of R171. -/
theorem soundAndRumbleQueriesReport : Obligations.SoundAndRumbleQueriesReport := by
  intro b rest s
  refine ⟨fun h => ⟨fun hbad => ?_, fun n hn => ?_⟩, fun h => ⟨fun hbad => ?_, fun k hk => ?_⟩, fun h => ?_⟩
  · refine answers_query h rfl ?_
    rw [voiceInfoEffect, indexOf_eq_none.2 hbad]
    rfl
  · refine answers_query h rfl ?_
    rw [voiceInfoEffect, indexOf_eq_some.2 hn]
    refine congrArg (fun p => reply .ok p (taken rest s)) ?_
    rw [voiceInfoPayload, byteOf_index hn]
    rfl
  · refine answers_query h rfl ?_
    rw [trackInfoEffect, indexOf_eq_none.2 hbad]
    rfl
  · refine answers_query h rfl ?_
    rw [trackInfoEffect, indexOf_eq_some.2 hk]
    refine congrArg (fun p => reply .ok p (taken rest s)) ?_
    rw [trackInfoPayload, byteOf_index hk]
    rfl
  · refine answers_query h rfl (congrArg (fun p => reply .ok p (taken rest s)) ?_)
    rw [rumbleInfoPayload_eq, activePayload_eq]
    rfl

/-! ## CLOCK GET, DATE OF, DAY OF, DAYS SINCE, ABSENCE -/

/-- DAYS SINCE by the slot's stamp (R79). -/
theorem daysSinceEffect_of_none {slot : Byte} {n : SlotNo} {s : State} (h : slot.toNat = n.val)
    (hst : s.dir.slots[n].stamp = none) : daysSinceEffect slot s = answer .wrongState s := by
  rw [daysSinceEffect, indexOf_eq_some.2 h]
  simp only [hst]

theorem daysSinceEffect_of_stamp {slot : Byte} {n : SlotNo} {s : State} {st : Stamp} (h : slot.toNat = n.val)
    (hst : s.dir.slots[n].stamp = some st) :
    daysSinceEffect slot s =
      if s.cal.day < st.day then reply .future (le2 0 ++ [flagByte (st.doubt || s.cal.doubt)]) s
      else reply .ok (le2 (s.cal.day - st.day) ++ [flagByte (st.doubt || s.cal.doubt)]) s := by
  rw [daysSinceEffect, indexOf_eq_some.2 h]
  simp only [hst]

theorem absenceFields_of_none {c : Calendar} (h : c.down = none ∨ c.up = none) : absenceFields c = (0, 0) := by
  unfold absenceFields
  split
  next hdown hup => rcases h with h | h <;> simp_all
  · rfl

/-- The elapsed time between the stamps, a plain difference where it is not negative (R81). -/
theorem absenceFields_of_both {c : Calendar} {down up : PowerStamp} (hdown : c.down = some down) (hup : c.up = some up)
    (hle : down.day * 86400 + down.sec ≤ up.day * 86400 + up.sec) :
    absenceFields c =
      (min 16777215 (up.day * 86400 + up.sec - (down.day * 86400 + down.sec)),
        (up.day * 86400 + up.sec - (down.day * 86400 + down.sec)) / 86400) := by
  have helapsed : elapsedSeconds down up = up.day * 86400 + up.sec - (down.day * 86400 + down.sec) := by
    unfold elapsedSeconds
    omega
  rw [absenceFields, hdown, hup, ← helapsed]

theorem absencePayload_eq {c : Calendar} {sec days : Nat} {stamps : Option PowerStamp → List Byte}
    (hfields : absenceFields c = (sec, days)) (hstamps : ∀ o, stampBytes o = stamps o) :
    absencePayload c =
      stamps c.down ++ stamps c.up ++
        [byteOf sec, byteOf (sec / 256), byteOf (sec / 65536), byteOf days, byteOf (days / 256), flagByte c.doubt] := by
  rw [absencePayload, hfields, hstamps, hstamps]
  simp only [List.append_assoc]
  rfl

/-- Settles O40: each payload is the one of R171. -/
theorem calendarQueriesReport : Obligations.CalendarQueriesReport := by
  intro w month day slot rest s p stamps
  have hstamps (o : Option PowerStamp) : stampBytes o = stamps o := by cases o <;> rfl
  refine ⟨fun h => answers_query h rfl rfl, fun h => answers_query h rfl rfl, fun h => ⟨fun hbad => ?_, fun hgood => ?_⟩,
    fun h => ⟨fun hbad => ?_, fun n hn => ⟨fun hnone => ?_, fun st hst => ⟨fun hlt => ?_, fun hle => ?_⟩⟩⟩,
    fun h => ⟨fun down up hdown hup hle => ?_, fun hnone => ?_⟩⟩
  · refine answers_query h rfl ?_
    rw [dayOfEffect, if_neg (Bool.eq_false_iff.1 hbad)]
    rfl
  · refine answers_query h rfl ?_
    rw [dayOfEffect, if_pos hgood]
    rfl
  · refine answers_query h rfl ?_
    rw [daysSinceEffect, indexOf_eq_none.2 hbad]
    rfl
  · exact answers_query h rfl (daysSinceEffect_of_none hn (by exact hnone))
  · exact answers_query h rfl ((daysSinceEffect_of_stamp hn (by exact hst)).trans (if_pos hlt))
  · exact answers_query h rfl ((daysSinceEffect_of_stamp hn (by exact hst)).trans (if_neg (Nat.not_lt.2 hle)))
  · refine answers_query h rfl (congrArg (fun p => reply .ok p (taken rest s)) ?_)
    exact absencePayload_eq (absenceFields_of_both hdown hup hle) hstamps
  · refine answers_query h rfl (congrArg (fun p => reply .ok p (taken rest s)) ?_)
    exact absencePayload_eq (absenceFields_of_none hnone) hstamps

end Sys2Proof.Proofs
end

section
/-! The calendar: dates and day numbers are inverse to each other, and a second lasts its edges. -/

namespace Sys2Proof.Proofs

open Sys2Proof.Machine Sys2Proof.Safety Sys2Proof.Laws

/-! ## The year and the month of a day (R77) -/

/-- Years are taken away from a day count that the fuel reaches: what is left is a day of the year found. -/
theorem findYear_spec (fuel k left : Nat) (h : daysOfYears k + left < daysOfYears (k + fuel)) :
    ∃ j, (findYear fuel (2000 + k) left).1 = 2000 + j ∧ j < k + fuel ∧
      (findYear fuel (2000 + k) left).2 < yearLength (2000 + j) ∧
      daysOfYears j + (findYear fuel (2000 + k) left).2 = daysOfYears k + left := by
  induction fuel generalizing k left with
  | zero => exact absurd h (Nat.not_lt.2 (Nat.le_add_right ..))
  | succ fuel ih =>
    unfold findYear
    split
    next hin => exact ⟨k, rfl, by omega, hin, rfl⟩
    next hbeyond =>
      have hnext : daysOfYears (k + 1) = daysOfYears k + yearLength (2000 + k) := rfl
      have hreach : daysOfYears (k + 1) + (left - yearLength (2000 + k)) < daysOfYears (k + 1 + fuel) := by
        rw [show k + 1 + fuel = k + (fuel + 1) by omega]
        omega
      obtain ⟨j, hyear, hj, hin, hsum⟩ := ih (k + 1) _ hreach
      exact ⟨j, hyear, by omega, hin, hsum.trans (by omega)⟩

/-- Months are taken away in the same way. -/
theorem findMonth_spec (year fuel m left : Nat) (h : daysOfMonths year m + left < daysOfMonths year (m + fuel)) :
    ∃ i, (findMonth year fuel (m + 1) left).1 = i + 1 ∧ i < m + fuel ∧
      (findMonth year fuel (m + 1) left).2 < monthLength year (i + 1) ∧
      daysOfMonths year i + (findMonth year fuel (m + 1) left).2 = daysOfMonths year m + left := by
  induction fuel generalizing m left with
  | zero => exact absurd h (Nat.not_lt.2 (Nat.le_add_right ..))
  | succ fuel ih =>
    unfold findMonth
    split
    next hin => exact ⟨m, rfl, by omega, hin, rfl⟩
    next hbeyond =>
      have hnext : daysOfMonths year (m + 1) = daysOfMonths year m + monthLength year (m + 1) := rfl
      have hreach : daysOfMonths year (m + 1) + (left - monthLength year (m + 1)) <
          daysOfMonths year (m + 1 + fuel) := by
        rw [show m + 1 + fuel = m + (fuel + 1) by omega]
        omega
      obtain ⟨i, hmonth, hi, hin, hsum⟩ := ih (m + 1) _ hreach
      exact ⟨i, hmonth, by omega, hin, hsum.trans (by omega)⟩

/-- The date of a day number, by its whole years, its whole months and the days left (R77). -/
theorem dateParts_spec {n : Nat} (h : n < daysOfYears 180) :
    ∃ j i r, dateParts n = ⟨2000 + j, i + 1, r + 1, weekday n, daysOfMonths (2000 + j) i + r⟩ ∧ j < 180 ∧ i < 12 ∧
      r < monthLength (2000 + j) (i + 1) ∧ daysOfYears j + (daysOfMonths (2000 + j) i + r) = n := by
  obtain ⟨j, hyear, hj, hinYear, hsumYear⟩ := findYear_spec 180 0 n (by
    rw [show daysOfYears 0 = 0 from rfl, Nat.zero_add, Nat.zero_add]
    exact h)
  rw [← daysOfMonths_twelve] at hinYear
  obtain ⟨i, hmonth, hi, hinMonth, hsumMonth⟩ :=
    findMonth_spec (2000 + j) 12 0 (findYear 180 2000 n).2 (by simpa [daysOfMonths] using hinYear)
  simp only [daysOfYears, daysOfMonths, Nat.add_zero, Nat.zero_add] at hyear hj hsumYear hmonth hi hinMonth hsumMonth
  refine ⟨j, i, _, ?_, hj, hi, hinMonth, ?_⟩
  · rw [hsumMonth, dateParts]
    simp only [hyear, hmonth]
  · rw [hsumMonth, hsumYear]

/-- A value lies between two neighbours of a rising sequence at one place alone. -/
theorem place_unique {f : Nat → Nat} (hf : Monotone f) {x i j : Nat} (hi : f i ≤ x) (hi' : x < f (i + 1))
    (hj : f j ≤ x) (hj' : x < f (j + 1)) : i = j := by
  rcases Nat.lt_trichotomy i j with hlt | heq | hgt
  · have : f (i + 1) ≤ f j := hf hlt
    omega
  · exact heq
  · have : f (j + 1) ≤ f i := hf hgt
    omega

/-- Two dates with one day number are the same date (R73). -/
theorem date_unique {j i r j' i' r' : Nat} (hi : i < 12) (hr : r < monthLength (2000 + j) (i + 1)) (hi' : i' < 12)
    (hr' : r' < monthLength (2000 + j') (i' + 1))
    (h : daysOfYears j + (daysOfMonths (2000 + j) i + r) = daysOfYears j' + (daysOfMonths (2000 + j') i' + r')) :
    j = j' ∧ i = i' ∧ r = r' := by
  have hwithin {j i r : Nat} (hi : i < 12) (hr : r < monthLength (2000 + j) (i + 1)) :
      daysOfMonths (2000 + j) i + r < yearLength (2000 + j) := by
    have hend : daysOfMonths (2000 + j) (i + 1) ≤ yearLength (2000 + j) :=
      (daysOfMonths_mono _ hi).trans_eq (daysOfMonths_twelve _)
    simp only [daysOfMonths] at hend
    omega
  have hyear := hwithin hi hr
  have hyear' := hwithin hi' hr'
  have hj : j = j' := place_unique daysOfYears_mono (x := daysOfYears j + (daysOfMonths (2000 + j) i + r))
    (by omega) (by simp only [daysOfYears]; omega) (by omega) (by simp only [daysOfYears]; omega)
  subst hj
  have hi : i = i' := place_unique (daysOfMonths_mono (2000 + j)) (x := daysOfMonths (2000 + j) i + r)
    (by omega) (by simp only [daysOfMonths]; omega) (by omega) (by simp only [daysOfMonths]; omega)
  subst hi
  exact ⟨rfl, rfl, by omega⟩

theorem dayNumber_of_parts (j i r : Nat) :
    dayNumber (2000 + j) (i + 1) (r + 1) = daysOfYears j + (daysOfMonths (2000 + j) i + r) := by
  simp only [dayNumber, Nat.add_sub_cancel_left, Nat.add_sub_cancel]
  omega

theorem daysOfYears_180 : daysOfYears 180 = 65744 := daysOfYears_eq 180

/-- Settles O39: the date found by taking years and months away has the day number, and no other date has it. -/
theorem datesAndDayNumbersAgree : Obligations.DatesAndDayNumbersAgree := by
  refine ⟨fun n hn => ?_, fun y m d hvalid => ?_, ?_, ?_, ?_, ?_⟩
  · obtain ⟨j, i, r, hparts, hj, hi, hr, hsum⟩ := dateParts_spec (n := n) (by rw [daysOfYears_180]; omega)
    have hnumber := (dayNumber_of_parts j i r).trans hsum
    have hnewYear := dayNumber_of_parts j 0 0
    simp only [hparts]
    refine ⟨?_, hnumber, rfl, ?_⟩
    · simp only [validDate, Bool.and_eq_true, decide_eq_true_eq]
      omega
    · rw [hnewYear, daysOfMonths]
      omega
  · have hnumber : dayNumber y m d ≤ 65535 := by
      simp only [validDate, Bool.and_eq_true, decide_eq_true_eq] at hvalid
      exact hvalid.2
    obtain ⟨hy, -, hm, hm', hd, hd', -⟩ := validDate_iff.1 hvalid
    obtain ⟨b, rfl⟩ := Nat.exists_eq_add_of_le hy
    obtain ⟨e, rfl⟩ := Nat.exists_eq_add_of_le' hm
    obtain ⟨g, rfl⟩ := Nat.exists_eq_add_of_le' hd
    obtain ⟨j, i, r, hparts, -, hi, hr, hsum⟩ :=
      dateParts_spec (n := dayNumber (2000 + b) (e + 1) (g + 1)) (by rw [daysOfYears_180]; omega)
    obtain ⟨rfl, rfl, rfl⟩ := date_unique hi hr hm' hd' (hsum.trans (dayNumber_of_parts b e g))
    rw [hparts]
    exact ⟨rfl, rfl, rfl⟩
  · rw [dayNumber, daysOfYears_eq]
    rfl
  · rw [dayNumber, daysOfYears_eq]
    rfl
  · rw [Bool.eq_false_iff, Ne, validDate_iff]
    omega
  · rw [Bool.eq_false_iff, Ne, validDate_iff]
    simp [monthLength, isLeap]

/-! ## The length of a second (R69) -/

/-- The counters after k edges of a second (R69): the prescaler to its end, then the extension. -/
theorem countEdge_iterate {c : Calendar} (hp : c.prescaler = 0) (hx : c.extension = 0) (k : Nat) :
    Calendar.countEdge^[k] c = { c with prescaler := min k 32767, extension := k - 32767 } := by
  induction k with
  | zero =>
    obtain ⟨_, _, _, _⟩ := c
    cases hp
    cases hx
    rfl
  | succ k ih =>
    rw [Function.iterate_succ_apply', ih, Calendar.countEdge]
    split
    next h =>
      have hlast : min (k + 1) 32767 = min k 32767 := by simp only at h; omega
      have hmore : k + 1 - 32767 = k - 32767 + 1 := by simp only at h; omega
      rw [hlast, hmore]
    next h =>
      have hmore : min (k + 1) 32767 = min k 32767 + 1 := by simp only at h; omega
      have hnone : k + 1 - 32767 = k - 32767 := by simp only at h; omega
      rw [hmore, hnone]

/-- The edges of the second that c stands in (R69). -/
def secondEdges (c : Calendar) : Nat := if c.sec % 60 = 0 then (32768 - c.trim).toNat else 32768

theorem endsSecond_iterate {c : Calendar} (hp : c.prescaler = 0) (hx : c.extension = 0) (hlow : -64 ≤ c.trim)
    (hhigh : c.trim ≤ 63) (k : Nat) :
    (Calendar.countEdge^[k] c).endsSecond = decide (secondEdges c ≤ k + 1) := by
  rw [countEdge_iterate hp hx, Bool.eq_iff_iff, decide_eq_true_iff]
  unfold Calendar.endsSecond secondEdges
  simp only
  split
  next h =>
    rw [decide_eq_true_iff]
    omega
  next h =>
    rw [if_pos (not_not.1 h)]
    split
    · rw [decide_eq_true_iff]
      omega
    · rw [Bool.and_eq_true, decide_eq_true_iff, decide_eq_true_iff]
      omega

/-- Settles O41: after k edges the second ends exactly where its length is reached. -/
theorem secondsLastTheirEdges : Obligations.SecondsLastTheirEdges := by
  refine ⟨fun c hp hx hlow hhigh => ⟨fun k hk => ?_, ?_⟩, fun s => ⟨fun hdomain => ?_, rfl⟩⟩
  · rw [endsSecond_iterate hp hx hlow hhigh]
    exact decide_eq_false (Nat.not_le.2 hk)
  · rw [endsSecond_iterate hp hx hlow hhigh]
    exact decide_eq_true (by unfold secondEdges; omega)
  · exact if_pos hdomain

end Sys2Proof.Proofs
end

section
/-! The second tick and the cues' commands. -/

namespace Sys2Proof.Proofs

open Sys2Proof.Machine Sys2Proof.Safety Sys2Proof.Laws

/-! ## What the actions of cues touch -/

/-- The two states differ in the voices, the ROM port, the drive, the grant and the cause unit alone. -/
def SameBesidesActions (t s : State) : Prop :=
  { t with voices := s.voices, port := s.port, rumble := s.rumble, supply := s.supply, cause := s.cause,
           dir := s.dir, engine := s.engine } = s

theorem SameBesidesActions.refl (s : State) : SameBesidesActions s s := rfl

theorem SameBesidesActions.trans {u t s : State} (h : SameBesidesActions u t) (g : SameBesidesActions t s) :
    SameBesidesActions u s := by
  have hrestored := congrArg (fun x : State =>
    { x with voices := s.voices, port := s.port, rumble := s.rumble, supply := s.supply, cause := s.cause,
             dir := s.dir, engine := s.engine }) h
  exact hrestored.trans g

theorem sameBesidesActions_of_outsideDrive {t s : State} (h : outsideDrive t = outsideDrive s) :
    SameBesidesActions t s := by
  have hrestored := congrArg (fun x : State × Bool =>
    { x.1 with voices := s.voices, port := s.port, rumble := s.rumble, supply := s.supply, cause := s.cause,
               dir := s.dir, engine := s.engine }) h
  exact hrestored

theorem submitCue_same (a : CueRumble) (s : State) : SameBesidesActions (submitCue a s) s :=
  sameBesidesActions_of_outsideDrive (outsideDrive_submitCue a s)

theorem cueNote_same (a : CueSound) (s : State) : SameBesidesActions (cueNote a s) s := by
  unfold cueNote startNote
  split
  · rfl
  · rfl

theorem submitRumbles_same (cues : List CueNo) (s : State) : SameBesidesActions (submitRumbles cues s) s := by
  unfold submitRumbles
  refine List.foldlRecOn (motive := fun t => SameBesidesActions t s) cues _ (.refl s) fun t ht n _ => ?_
  split
  · exact (submitCue_same ..).trans ht
  · exact ht

theorem deliverActions_same (cues : List CueNo) (s : State) : SameBesidesActions (deliverActions cues s) s := by
  unfold deliverActions
  split
  · refine (submitRumbles_same ..).trans ?_
    split
    · exact cueNote_same ..
    · exact .refl s
  · exact .refl s

theorem evaluateCues_same (m : TickMoment) (s : State) :
    SameBesidesActions (evaluateCues m s) { s with cues := tabulate fun n => s.cues[n].evaluated m } :=
  deliverActions_same ..

/-! ## The evaluation of a cue (R87 to R91) -/

section
variable {c : Cue} {m : TickMoment}

theorem evaluated_of_disarmed (h : c.armed = false) : c.evaluated m = c := by
  simp [Cue.evaluated, h]

theorem evaluated_of_quiet (h : c.armed = true) (hquiet : c.trigger.fires m = false) :
    c.evaluated m = { c with trigger := c.trigger.stepped } := by
  simp [Cue.evaluated, Cue.fires, h, hquiet]

theorem evaluated_of_firing (h : c.armed = true) (hfires : c.trigger.fires m = true) :
    c.evaluated m = { c.fired m with trigger := c.trigger.stepped } := by
  simp [Cue.evaluated, Cue.fires, h, hfires]

end

/-- When a trigger fires (R88 to R90). -/
theorem fires_iff {m : TickMoment} {rolled : Prop} (hrolled : m.rolled = true ↔ rolled) (g : Trigger) :
    g.fires m = true ↔
      match g with
      | .off => False
      | .daily sec => m.sec = sec
      | .every _ left => left ≤ 1
      | .dayroll => rolled
      | .once day sec => m.day = day ∧ m.sec = sec := by
  cases g with
  | off => exact iff_of_false Bool.false_ne_true id
  | daily sec => exact beq_iff_eq.trans eq_comm
  | every => exact decide_eq_true_iff
  | dayroll => exact hrolled
  | once =>
    rw [Trigger.fires, Bool.and_eq_true, beq_iff_eq, beq_iff_eq]
    exact and_congr eq_comm eq_comm

theorem stepped_eq (g : Trigger) :
    g.stepped =
      match g with
      | .every period left => .every period (if left ≤ 1 then period else left - 1)
      | other => other := by
  cases g <;> rfl

theorem disarms_iff (g : Trigger) :
    g.disarms = true ↔
      match g with
      | .once _ _ => True
      | _ => False := by
  cases g <;> simp [Trigger.disarms]

theorem momentOf_missing_iff (s : State) (c : Calendar) (rolled : Bool) :
    (momentOf s c rolled).missing = true ↔ s.supply.monitor = .battery ∨ s.supply.monitor = .starting := by
  simp [momentOf]

/-! ## The second tick (R70, R71) -/

theorem exec_secondTick_eq {s : State} (hdomain : s.supply.domainValid = true) (hrun : s.crystal.running = true) :
    exec .secondTick s = .next (secondTick s) := by
  simp [exec, execSecondTick, hdomain, hrun]

theorem atHold_iff (c : Calendar) : c.restart.atHold = true ↔ c.day = 65535 ∧ c.sec = 86399 := by
  simp [Calendar.atHold, Calendar.restart]

theorem secondTick_of_hold {s : State} (h : s.cal.day = 65535 ∧ s.cal.sec = 86399) :
    secondTick s = { s with cal := { s.cal with prescaler := 0, extension := 0, atEnd := true } } :=
  if_pos ((atHold_iff s.cal).2 h)

theorem secondTick_of_advance {s : State} (h : ¬(s.cal.day = 65535 ∧ s.cal.sec = 86399)) (hend : s.cal.atEnd = false) :
    secondTick s =
      evaluateCues (momentOf s s.cal.restart.advance (decide (86399 ≤ s.cal.sec)))
        (setCal s.cal.restart.advance s) :=
  (if_neg (mt (atHold_iff s.cal).1 h)).trans (if_neg (by simp [Calendar.restart, hend]))

theorem answered_cues (s : State) (c : Calendar) (q : Vector Cue 8) :
    answered { setCal c s with cues := q } = answered s := rfl

/-- Settles O42: the tick's three cases, and the evaluation of each cue at the new time. -/
theorem secondTickAdvancesAndFiresCues : Obligations.SecondTickAdvancesAndFiresCues := by
  intro s hdomain hrun c hold
  rw [exec_secondTick_eq hdomain hrun]
  refine ⟨fun h => congrArg _ (secondTick_of_hold h), fun h hend => ⟨_, rfl, ?_⟩⟩
  rw [secondTick_of_advance h hend]
  generalize hd : s.cal.restart.advance = d
  generalize hm : momentOf s d (decide (86399 ≤ s.cal.sec)) = m
  have hsame := evaluateCues_same m (setCal d s)
  have hcal : (evaluateCues m (setCal d s)).cal = d := congrArg (fun u : State => u.cal) hsame
  have hcues (n : CueNo) : (evaluateCues m (setCal d s)).cues[n] = s.cues[n].evaluated m :=
    (congrArg (fun u : State => u.cues[n]) hsame).trans (getElem_tabulate ..)
  refine ⟨fun hsec => ?_, fun hsec => ?_, fun hsec n => ?_, fun hans => ?_, ?_⟩
  · rw [hcal, ← hd]
    exact if_pos hsec
  · rw [hcal, ← hd]
    exact if_neg (by simp [Calendar.restart, hsec])
  · rw [hcues, hcal]
    intro q fires next once
    have hrolled : m.rolled = true ↔ s.cal.sec = 86399 := by
      rw [← hm]
      exact decide_eq_true_iff.trans ⟨fun h => Nat.le_antisymm hsec h, Nat.le_of_eq ∘ Eq.symm⟩
    have hmissing : m.missing = true ↔ s.supply.monitor = .battery ∨ s.supply.monitor = .starting := by
      rw [← hm]
      exact momentOf_missing_iff ..
    have hfires : q.trigger.fires m = true ↔ fires := by
      refine (fires_iff hrolled q.trigger).trans ?_
      rw [← hm]
      exact Iff.rfl
    have hnext : q.trigger.stepped = next := stepped_eq q.trigger
    have honce : q.trigger.disarms = true ↔ once := disarms_iff q.trigger
    refine ⟨fun h => evaluated_of_disarmed h, fun h hquiet => ?_, fun h hfire => ?_⟩
    · rw [evaluated_of_quiet h (Bool.eq_false_iff.2 (mt hfires.1 hquiet)), hnext]
    · rw [evaluated_of_firing h (hfires.2 hfire)]
      refine ⟨hnext, ?_, rfl, rfl, ?_, rfl, rfl, rfl⟩
      · rw [Cue.fired, h, ← honce]
        simp
      · rw [← hmissing]
        exact Bool.or_eq_true_iff
  · rw [evaluateCues, deliverActions, if_neg (by rw [answered_cues, hans]; exact Bool.false_ne_true)]
    rfl
  · have hrestored := congrArg (fun u : State => { u with cal := s.cal, cues := s.cues }) hsame
    exact hrestored

/-! ## CUE SET, CUE CLEAR, CUE GET (R84 to R86) -/

section
variable (f : CueFields)

/-- The trigger fields that CUE SET refuses (R84). -/
def BadTrigger : Prop :=
  f.trigger.toNat = 0 ∨ 4 < f.trigger.toNat ∨
  (f.trigger.toNat = 1 ∧ 86399 < nat3 f.param0 f.param1 f.param2) ∨
  (f.trigger.toNat = 2 ∧ f.param0 = 0 ∧ f.param1 = 0) ∨
  (f.trigger.toNat = 4 ∧ 86399 < nat3 f.param2 f.param3 f.param4)

/-- The sound fields that CUE SET refuses (R84). -/
def BadSound : Prop :=
  1 < f.soundPresent.toNat ∨
  (f.soundPresent = 1 ∧ (15 < f.instrument.toNat ∨ 15 < f.volume.toNat ∨ f.hold = 0))

/-- The rumble fields that CUE SET refuses (R84). -/
def BadRumble : Prop :=
  1 < f.rumblePresent.toNat ∨ (f.rumblePresent = 1 ∧ (15 < f.pattern.toNat ∨ 3 < f.priority.toNat))

/-- The trigger that CUE SET loads (R84). -/
def loadedTrigger : Trigger :=
  if f.trigger.toNat = 1 then .daily (nat3 f.param0 f.param1 f.param2)
  else if f.trigger.toNat = 2 then .every (nat2 f.param0 f.param1) (nat2 f.param0 f.param1)
  else if f.trigger.toNat = 3 then .dayroll
  else .once (nat2 f.param0 f.param1) (nat3 f.param2 f.param3 f.param4)

/-- The sound action that CUE SET loads (R84). -/
def loadedSound : Option CueSound :=
  if f.soundPresent = 1 then some ⟨f.instrument.toNat, f.increment.toNat, f.volume.toNat, f.hold.toNat⟩ else none

/-- The rumble action that CUE SET loads (R84). -/
def loadedRumble : Option CueRumble :=
  if f.rumblePresent = 1 then some ⟨f.pattern.toNat, f.priority.toNat⟩ else none

theorem nat2_eq_zero (lo hi : Byte) : nat2 lo hi = 0 ↔ lo = 0 ∧ hi = 0 := by
  unfold nat2
  constructor
  · intro h
    exact ⟨BitVec.eq_of_toNat_eq (show lo.toNat = 0 by omega), BitVec.eq_of_toNat_eq (show hi.toNat = 0 by omega)⟩
  · rintro ⟨rfl, rfl⟩
    rfl

theorem triggerOf_of_bad (h : BadTrigger f) : triggerOf f = none := by
  unfold triggerOf
  rcases h with h | h | ⟨h, hsec⟩ | ⟨h, hperiod⟩ | ⟨h, hsec⟩
  · simp only [h]
  · generalize f.trigger.toNat = code at h ⊢
    obtain ⟨n, rfl⟩ : ∃ n, code = n + 5 := ⟨code - 5, by omega⟩
    rfl
  · simp only [h]
    exact if_neg (Nat.not_le.2 hsec)
  · simp only [h]
    exact if_pos ((nat2_eq_zero ..).2 hperiod)
  · simp only [h]
    exact if_neg (Nat.not_le.2 hsec)

theorem triggerOf_of_good (h : ¬BadTrigger f) : triggerOf f = some (loadedTrigger f) := by
  simp only [BadTrigger, not_or, not_and, Nat.not_lt] at h
  obtain ⟨hlow, hhigh, hdaily, hevery, honce⟩ := h
  have hkind : f.trigger.toNat = 1 ∨ f.trigger.toNat = 2 ∨ f.trigger.toNat = 3 ∨ f.trigger.toNat = 4 := by omega
  rcases hkind with hk | hk | hk | hk
  · rw [loadedTrigger, if_pos hk]
    simp only [triggerOf, hk]
    exact if_pos (hdaily hk)
  · rw [loadedTrigger, if_neg (by omega), if_pos hk]
    simp only [triggerOf, hk]
    exact if_neg fun hzero => hevery hk ((nat2_eq_zero ..).1 hzero).1 ((nat2_eq_zero ..).1 hzero).2
  · rw [loadedTrigger, if_neg (by omega), if_neg (by omega), if_pos hk]
    simp only [triggerOf, hk]
  · rw [loadedTrigger, if_neg (by omega), if_neg (by omega), if_neg (by omega)]
    simp only [triggerOf, hk]
    exact if_pos (honce hk)

theorem soundOf_of_bad (h : BadSound f) : soundOf f = none := by
  unfold soundOf
  rcases h with h | ⟨h, hfields⟩
  · rw [boolOf_eq_none.2 h]
  · rw [h]
    exact if_neg (by simp only [not_and_or, Nat.not_le, not_not]; exact hfields)

theorem soundOf_of_good (h : ¬BadSound f) : soundOf f = some (loadedSound f) := by
  unfold BadSound at h
  unfold soundOf loadedSound
  rw [boolOf_of_le (by omega)]
  by_cases hpresent : f.soundPresent = 1
  · rw [decide_eq_true hpresent, if_pos hpresent]
    refine if_pos ?_
    simp only [hpresent, true_and, not_or, Nat.not_lt] at h
    exact h.2
  · rw [decide_eq_false hpresent, if_neg hpresent]

theorem rumbleOf_of_bad (h : BadRumble f) : rumbleOf f = none := by
  unfold rumbleOf
  rcases h with h | ⟨h, hfields⟩
  · rw [boolOf_eq_none.2 h]
  · rw [h]
    exact if_neg (by simp only [not_and_or, Nat.not_le]; exact hfields)

theorem rumbleOf_of_good (h : ¬BadRumble f) : rumbleOf f = some (loadedRumble f) := by
  unfold BadRumble at h
  unfold rumbleOf loadedRumble
  rw [boolOf_of_le (by omega)]
  by_cases hpresent : f.rumblePresent = 1
  · rw [decide_eq_true hpresent, if_pos hpresent]
    refine if_pos ?_
    simp only [hpresent, true_and, not_or, Nat.not_lt] at h
    exact h.2
  · rw [decide_eq_false hpresent, if_neg hpresent]

/-- The fields that CUE SET refuses (R84). -/
def BadCue : Prop :=
  7 < f.cue.toNat ∨ BadTrigger f ∨ 1 < f.irq.toNat ∨ BadSound f ∨ BadRumble f

/-- The refusals field by field, with the presence bytes before what is read under them. -/
theorem badCue_regroup {cue k0 k4 daily every once irq sound rumble soundFields rumbleFields : Prop} :
    (cue ∨ (k0 ∨ k4 ∨ daily ∨ every ∨ once) ∨ irq ∨ (sound ∨ soundFields) ∨ rumble ∨ rumbleFields) ↔
      (cue ∨ k0 ∨ k4 ∨ daily ∨ every ∨ once ∨ irq ∨ sound ∨ rumble ∨ soundFields ∨ rumbleFields) := by
  simp only [or_assoc, or_left_comm]

/-- The record that CUE SET loads whole (R84). -/
def loadedCue : Cue :=
  { trigger := loadedTrigger f, armed := true, irq := decide (f.irq = 1), sound := loadedSound f,
    rumble := loadedRumble f, count := 0, pending := false, missed := false }

theorem cueOf_of_bad (h : BadCue f) : cueOf f = none := by
  unfold cueOf
  split
  next hindex htrigger hirq hsound hrumble =>
    rcases h with h | h | h | h | h
    · nomatch hindex.symm.trans (indexOf_eq_none.2 h)
    · nomatch htrigger.symm.trans (triggerOf_of_bad f h)
    · nomatch hirq.symm.trans (boolOf_eq_none.2 h)
    · nomatch hsound.symm.trans (soundOf_of_bad f h)
    · nomatch hrumble.symm.trans (rumbleOf_of_bad f h)
  · rfl

theorem cueOf_of_good {n : CueNo} (h : ¬BadCue f) (hn : f.cue.toNat = n.val) : cueOf f = some (n, loadedCue f) := by
  simp only [BadCue, not_or, Nat.not_lt] at h
  obtain ⟨-, htrigger, hirq, hsound, hrumble⟩ := h
  rw [cueOf, indexOf_eq_some.2 hn, triggerOf_of_good f htrigger, boolOf_of_le hirq, soundOf_of_good f hsound,
    rumbleOf_of_good f hrumble]
  rfl

end

theorem triggerBytes_eq (g : Trigger) :
    triggerBytes g =
      match g with
      | .off => [0, 0, 0, 0, 0]
      | .daily x => [byteOf x, byteOf (x / 256), byteOf (x / 65536), 0, 0]
      | .every p l => [byteOf p, byteOf (p / 256), byteOf l, byteOf (l / 256), 0]
      | .dayroll => [0, 0, 0, 0, 0]
      | .once d x => [byteOf d, byteOf (d / 256), byteOf x, byteOf (x / 256), byteOf (x / 65536)] := by
  cases g <;> rfl

theorem cueGetPayload_eq {b : Byte} {n : CueNo} {q : Cue} {params : List Byte} (hn : b.toNat = n.val)
    (hparams : triggerBytes q.trigger = params) :
    cueGetPayload n q =
      [b, byteOf q.trigger.code] ++ params ++
        [flagByte q.armed, flagByte q.irq, flagByte q.sound.isSome, byteOf (q.sound.getD ⟨0, 0, 0, 0⟩).instrument,
          byteOf (q.sound.getD ⟨0, 0, 0, 0⟩).increment, byteOf ((q.sound.getD ⟨0, 0, 0, 0⟩).increment / 256),
          byteOf (q.sound.getD ⟨0, 0, 0, 0⟩).volume, byteOf (q.sound.getD ⟨0, 0, 0, 0⟩).hold,
          flagByte q.rumble.isSome, byteOf (q.rumble.getD ⟨0, 0⟩).pattern, byteOf (q.rumble.getD ⟨0, 0⟩).priority,
          byteOf q.count, flagByte q.pending, flagByte q.missed] := by
  rw [cueGetPayload, byteOf_index hn, hparams]
  simp only [List.append_assoc]
  rfl

/-- Settles O43: the record that the fields give, and the two commands that name a cue. -/
theorem cueCommandsLoadAndReport : Obligations.CueCommandsLoadAndReport := by
  intro f b n rest s kind sec3 bad two loaded q params sd rm put
  have hcommand {c : Instr} {e : State → State} {st : ReplyStatus} {p : List Byte} {t : State} (hready : Ready c rest s)
      (hexec : exec c s = command c s e) (he : e (taken rest s) = replied st p (taken rest t)) :
      Answers c rest s st p t := hexec.trans ((command_of_ready hready e).trans (congrArg _ he))
  refine ⟨fun h => ⟨fun hbad => ?_, fun hgood hn => ?_⟩, fun h => ⟨fun hbad => ?_, fun hn => ?_⟩,
    fun h => ⟨fun hbad => ?_, fun hn => ?_⟩⟩
  · have hbad : BadCue f := badCue_regroup.2 hbad
    refine hcommand h rfl ?_
    rw [cueSetEffect, cueOf_of_bad f hbad]
    rfl
  · have hgood : ¬BadCue f := fun hbad => hgood (badCue_regroup.1 hbad)
    refine hcommand h rfl ?_
    rw [cueSetEffect, cueOf_of_good f hgood hn]
    rfl
  · refine hcommand h rfl ?_
    rw [cueClearEffect, indexOf_eq_none.2 hbad]
    rfl
  · refine hcommand h rfl ?_
    rw [cueClearEffect, indexOf_eq_some.2 hn]
    rfl
  · refine hcommand h rfl ?_
    rw [cueGetEffect, indexOf_eq_none.2 hbad]
    rfl
  · refine hcommand h rfl ?_
    rw [cueGetEffect, indexOf_eq_some.2 hn]
    exact congrArg (fun p => replied .ok p (taken rest (put { q with count := 0, pending := false, missed := false })))
      (cueGetPayload_eq hn (triggerBytes_eq q.trigger))

end Sys2Proof.Proofs
end

section
/-! Messages and the commands they spell: decoding and encoding are inverse to each other. -/

namespace Sys2Proof.Proofs

open Sys2Proof Sys2Proof.Machine Sys2Proof.Safety Sys2Proof.Laws

/-! ## Little-endian fields (R171) -/

theorem word16_le2 (w : Word16) : word16 (byteOf w.toNat) (byteOf (w.toNat / 256)) = w := by
  have := w.isLt
  refine BitVec.eq_of_toNat_eq ?_
  simp only [word16, byteOf, BitVec.toNat_ofNat]
  omega

theorem le2_word16 (lo hi : Byte) : le2 (word16 lo hi).toNat = [lo, hi] := by
  have := lo.isLt
  have := hi.isLt
  have hlo : byteOf (word16 lo hi).toNat = lo := BitVec.eq_of_toNat_eq (by
    simp only [word16, byteOf, BitVec.toNat_ofNat]
    omega)
  have hhi : byteOf ((word16 lo hi).toNat / 256) = hi := BitVec.eq_of_toNat_eq (by
    simp only [word16, byteOf, BitVec.toNat_ofNat]
    omega)
  rw [le2, hlo, hhi]

theorem romAddr_le3 (a : RomAddr) :
    romAddr (byteOf a.toNat) (byteOf (a.toNat / 256)) (byteOf (a.toNat / 65536)) = a := by
  have := a.isLt
  refine BitVec.eq_of_toNat_eq ?_
  simp only [romAddr, byteOf, BitVec.toNat_ofNat]
  omega

theorem le3_romAddr (b0 b1 b2 : Byte) : le3 (romAddr b0 b1 b2).toNat = [b0, b1, b2] := by
  have := b0.isLt
  have := b1.isLt
  have := b2.isLt
  have h0 : byteOf (romAddr b0 b1 b2).toNat = b0 := BitVec.eq_of_toNat_eq (by
    simp only [romAddr, byteOf, BitVec.toNat_ofNat]
    omega)
  have h1 : byteOf ((romAddr b0 b1 b2).toNat / 256) = b1 := BitVec.eq_of_toNat_eq (by
    simp only [romAddr, byteOf, BitVec.toNat_ofNat]
    omega)
  have h2 : byteOf ((romAddr b0 b1 b2).toNat / 65536) = b2 := BitVec.eq_of_toNat_eq (by
    simp only [romAddr, byteOf, BitVec.toNat_ofNat]
    omega)
  rw [le3, h0, h1, h2]

/-! ## The steps of PATTERN LOAD -/

theorem stepPairs_flatMap (l : List (Byte × Byte)) : stepPairs (l.flatMap fun s => [s.1, s.2]) = some l := by
  induction l with
  | nil => rfl
  | cons p l ih => simp [stepPairs, ih]

theorem flatMap_of_stepPairs {bytes : List Byte} {l : List (Byte × Byte)} (h : stepPairs bytes = some l) :
    (l.flatMap fun s => [s.1, s.2]) = bytes := by
  induction bytes using stepPairs.induct generalizing l with
  | case1 =>
    cases h
    rfl
  | case2 level duration rest ih =>
    obtain ⟨m, hm, rfl⟩ := Option.map_eq_some_iff.1 h
    simp [ih hm]
  | case3 => nomatch h

theorem stepPairs_isSome {bytes : List Byte} (h : bytes.length % 2 = 0) : (stepPairs bytes).isSome = true := by
  induction bytes using stepPairs.induct with
  | case1 => rfl
  | case2 level duration rest ih =>
    rw [stepPairs, Option.isSome_map]
    refine ih ?_
    simp only [List.length_cons] at h
    omega
  | case3 => nomatch h

theorem length_flatMap_steps (l : List (Byte × Byte)) : (l.flatMap fun s => [s.1, s.2]).length = 2 * l.length := by
  induction l with
  | nil => rfl
  | cons p l ih =>
    simp only [List.flatMap_cons, List.length_append, ih, List.length_cons, List.length_nil]
    omega

/-! ## The frame (R164) -/

theorem foldl_add (b : Byte) (l : List Byte) : l.foldl (· + ·) b = b + byteSum l := by
  induction l generalizing b with
  | nil => exact (BitVec.add_zero b).symm
  | cons c l ih => rw [byteSum, List.foldl_cons, List.foldl_cons, ih, ih, zero_add, add_assoc]

theorem byteSum_cons (b : Byte) (l : List Byte) : byteSum (b :: l) = b + byteSum l := by
  rw [byteSum, List.foldl_cons, foldl_add, zero_add]

theorem byteSum_append (l m : List Byte) : byteSum (l ++ m) = byteSum l + byteSum m := by
  rw [byteSum, List.foldl_append, foldl_add]
  rfl

theorem frame_eq (code : Byte) (payload : List Byte) :
    frame code payload =
      code :: byteOf payload.length :: payload ++ [-(code + byteOf payload.length + byteSum payload)] := by
  rw [frame, byteSum_cons, byteSum_cons, add_assoc]

theorem checkPasses_frame (code : Byte) (payload : List Byte) : checkPasses (frame code payload) = true := by
  rw [checkPasses, frame, byteSum_append, byteSum_cons (-_), show byteSum [] = 0 from rfl, add_zero, add_neg_cancel]
  rfl

/-! ## Encoding, then decoding -/

/-- The bytes are the payload of the command under the code, of a length that the code accepts. -/
def Spells (i : Instr) (code : Byte) (payload : List Byte) : Prop :=
  decodeMessage code payload = some i ∧ acceptsLength code payload.length = true ∧ payload.length ≤ 32

theorem spells_patternLoad (pattern repeatMode : Byte) {steps : List (Byte × Byte)} (h : steps.length ≤ 15) :
    Spells (.patternLoad pattern repeatMode steps) 0x43
      ([pattern, repeatMode] ++ steps.flatMap fun s => [s.1, s.2]) := by
  refine ⟨?_, ?_, ?_⟩
  · exact congrArg (Option.map _) (stepPairs_flatMap steps)
  · rw [List.length_append, length_flatMap_steps]
    interval_cases steps.length <;> rfl
  · rw [List.length_append, length_flatMap_steps]
    simp only [List.length_cons, List.length_nil]
    omega

/-- A well-formed command's message spells it. -/
theorem spells_of_messageOf {i : Instr} {code : Byte} {payload : List Byte} (hwf : i.wellFormed = true)
    (h : messageOf i = some (code, payload)) : Spells i code payload := by
  cases i
  case patternLoad =>
    cases h
    exact spells_patternLoad _ _ (of_decide_eq_true hwf)
  case faultClear | clockSet | dateOf | dayOf | cueSet | voicePlay | voiceSet =>
    cases h
    simp only [Spells, le2, decodeMessage, List.cons_append, List.nil_append, word16_le2]
    exact ⟨rfl, rfl, by simp⟩
  case trackStart =>
    cases h
    simp only [Spells, le2, le3, decodeMessage, List.cons_append, List.nil_append, word16_le2, romAddr_le3]
    exact ⟨rfl, rfl, by simp⟩
  case mapSet | mapGet | profile | faults | irqMask | softReset | slotInfo | slotOpen | slotCommit | slotAbandon |
      slotErase | slotVerify | slotProtect | poolInfo | clockGet | clockTrim | daysSince | absence | cueGet | cueClear |
      voiceRelease | voiceStop | master | voiceInfo | trackStop | trackInfo | frameMode | rumblePlay | rumbleStop |
      rumbleRenew | rumbleInfo =>
    cases h
    exact ⟨rfl, rfl, by simp⟩
  all_goals nomatch h

/-! ## Decoding, then encoding -/

section
variable {i c : Instr} {code : Byte} {payload : List Byte} {k : Nat}

theorem eq_byteOf (h : code.toNat = k) : byteOf k = code := by
  subst h
  exact BitVec.eq_of_toNat_eq (Nat.mod_eq_of_lt code.isLt)

theorem messageOf_of_noField (hcode : code.toNat = k) (hm : messageOf c = some (byteOf k, []))
    (h : noField c payload = some i) : messageOf i = some (code, payload) := by
  unfold noField at h
  split at h
  · cases h
    rw [hm, eq_byteOf hcode]
  · nomatch h

theorem messageOf_of_oneField {f : Byte → Instr} (hcode : code.toNat = k)
    (hm : ∀ a, messageOf (f a) = some (byteOf k, [a])) (h : oneField f payload = some i) :
    messageOf i = some (code, payload) := by
  unfold oneField at h
  split at h
  · cases h
    rw [hm, eq_byteOf hcode]
  · nomatch h

theorem messageOf_of_decodeMessage (h : decodeMessage code payload = some i) :
    messageOf i = some (code, payload) := by
  unfold decodeMessage at h
  split at h
  case h_3 | h_4 | h_7 | h_15 | h_16 | h_22 | h_40 => exact messageOf_of_noField ‹_› rfl h
  case h_2 | h_6 | h_8 | h_9 | h_10 | h_11 | h_12 | h_13 | h_18 | h_21 | h_24 | h_25 | h_28 | h_29 | h_30 | h_31 |
      h_33 | h_34 | h_35 | h_37 | h_38 => exact messageOf_of_oneField ‹_› (fun _ => rfl) h
  case h_1 hcode | h_14 hcode | h_36 hcode =>
    split at h
    · cases h
      rw [← eq_byteOf hcode]
      rfl
    · nomatch h
  case h_5 hcode | h_17 hcode | h_19 hcode | h_20 hcode | h_23 hcode | h_26 hcode | h_27 hcode | h_32 hcode =>
    split at h
    · cases h
      simp only [messageOf, le2_word16, le3_romAddr, ← eq_byteOf hcode]
      rfl
    · nomatch h
  case h_39 hcode =>
    split at h
    · obtain ⟨steps, hsteps, rfl⟩ := Option.map_eq_some_iff.1 h
      rw [messageOf, flatMap_of_stepPairs hsteps, ← eq_byteOf hcode]
      rfl
    · nomatch h
  case h_41 => nomatch h

/-- The lengths that the table gives for a code of it (R171). -/
theorem acceptsLength_iff {lens : List Nat} {n : Nat} (hcode : code.toNat = k) (ht : codeTable.lookup k = some lens) :
    acceptsLength code n = true ↔ n ∈ lens := by
  rw [acceptsLength, hcode, ht, List.contains_iff_mem]

theorem code_mem_of_acceptsLength {n : Nat} (h : acceptsLength code n = true) :
    code.toNat ∈ codeTable.map Prod.fst := by
  rw [acceptsLength] at h
  cases ht : codeTable.lookup code.toNat with
  | none => rw [ht] at h; cases h
  | some lens =>
    obtain ⟨before, after, htable, -⟩ := List.lookup_eq_some_iff.1 ht
    rw [htable]
    simp

theorem noField_isSome (hcode : code.toNat = k) (ht : codeTable.lookup k = some [0])
    (h : acceptsLength code payload.length = true) : (noField c payload).isSome = true := by
  rw [acceptsLength_iff hcode ht, List.mem_singleton, List.length_eq_zero_iff] at h
  subst h
  rfl

theorem oneField_isSome {f : Byte → Instr} (hcode : code.toNat = k) (ht : codeTable.lookup k = some [1])
    (h : acceptsLength code payload.length = true) : (oneField f payload).isSome = true := by
  rw [acceptsLength_iff hcode ht, List.mem_singleton, List.length_eq_one_iff] at h
  obtain ⟨a, rfl⟩ := h
  rfl

theorem decodeMessage_isSome (h : acceptsLength code payload.length = true) :
    (decodeMessage code payload).isSome = true := by
  unfold decodeMessage
  split
  case h_3 | h_4 | h_7 | h_15 | h_16 | h_22 | h_40 => exact noField_isSome ‹_› rfl h
  case h_2 | h_6 | h_8 | h_9 | h_10 | h_11 | h_12 | h_13 | h_18 | h_21 | h_24 | h_25 | h_28 | h_29 | h_30 | h_31 |
      h_33 | h_34 | h_35 | h_37 | h_38 => exact oneField_isSome ‹_› rfl h
  case h_39 hcode =>
    have hlen := (acceptsLength_iff hcode rfl).1 h
    match payload, hlen with
    | [], hlen | [_], hlen => simp at hlen
    | pattern :: repeatMode :: rest, hlen =>
      rw [Option.isSome_map]
      refine stepPairs_isSome ?_
      simp only [List.length_cons, List.mem_cons, List.not_mem_nil, or_false] at hlen
      omega
  case h_41 =>
    have hcode := code_mem_of_acceptsLength h
    simp_all [codeTable]
  case h_5 hcode | h_19 hcode =>
    have hlen := List.mem_singleton.1 ((acceptsLength_iff hcode rfl).1 h)
    match payload, hlen with
    | [_, _], _ => rfl
  case h_14 hcode | h_36 hcode =>
    have hlen := List.mem_singleton.1 ((acceptsLength_iff hcode rfl).1 h)
    match payload, hlen with
    | [_, _, _], _ => rfl
  case h_1 hcode | h_20 hcode | h_27 hcode =>
    have hlen := List.mem_singleton.1 ((acceptsLength_iff hcode rfl).1 h)
    match payload, hlen with
    | [_, _, _, _], _ => rfl
  case h_26 hcode =>
    have hlen := List.mem_singleton.1 ((acceptsLength_iff hcode rfl).1 h)
    match payload, hlen with
    | [_, _, _, _, _], _ => rfl
  case h_17 hcode =>
    have hlen := List.mem_singleton.1 ((acceptsLength_iff hcode rfl).1 h)
    match payload, hlen with
    | [_, _, _, _, _, _, _], _ => rfl
  case h_32 hcode =>
    have hlen := List.mem_singleton.1 ((acceptsLength_iff hcode rfl).1 h)
    match payload, hlen with
    | [_, _, _, _, _, _, _, _], _ => rfl
  case h_23 hcode =>
    have hlen := List.mem_singleton.1 ((acceptsLength_iff hcode rfl).1 h)
    match payload, hlen with
    | [_, _, _, _, _, _, _, _, _, _, _, _, _, _, _, _, _], _ => rfl

end

/-- Settles O23: the two directions row by row of R171's table, and the frame's check byte. -/
theorem messagesDecodeToTheirCommands : Obligations.MessagesDecodeToTheirCommands := by
  refine ⟨fun i code payload hwf h => ?_, fun i code payload => messageOf_of_decodeMessage, fun code payload =>
    decodeMessage_isSome⟩
  obtain ⟨hdecode, haccepts, hlen⟩ := spells_of_messageOf hwf h
  have hframe : frameOf i = frame code payload := by rw [frameOf, h]
  exact ⟨hdecode, haccepts, hlen, hframe.trans (frame_eq code payload), hframe ▸ checkPasses_frame code payload⟩

end Sys2Proof.Proofs
end

section
/-! SUPPORT. How a kick ends, who is given the grant then, and what the kick rule does, as equations on the fields they
touch (R139, R145, R146, R161). WARN's cut of the kick (O57). -/

namespace Sys2Proof.Proofs

open Sys2Proof.Machine Sys2Proof.Safety Sys2Proof.Laws

section
variable {a : Active} {f : Flight} {n : Nat} {s : State}

/-! ## The release of the grant (R161) -/

theorem releaseGrant_of_quiet (hengine : s.supply.engineReq = false)
    (hkicker : s.supply.kickerReq = false ∨ s.supply.monitor = .warn) : releaseGrant s = setHolder .none s := by
  have hoffer : offerKicker (setHolder .none s) = setHolder .none s := offerKicker_quiet (by exact hkicker)
  simp only [releaseGrant, setHolder, hengine] at hoffer ⊢
  exact hoffer

/-- The engine that waited is given the grant by the kicker's release: an ERASE goes on to FILL and holds it, a COMMIT
flips and leaves it free (R56, R57, R161). -/
structure Handed (f : Flight) (s t : State) : Prop where
  supply : t.supply =
    { s.supply with holder := if f.kind = .erase then .engine else .none, engineReq := false }
  rumble : t.rumble = s.rumble
  erase : f.kind = .erase → t.engine = { s.engine with flight := some { f with stage := .fill } } ∧ t.dir = s.dir
  commit : f.kind = .commit → t.engine = { s.engine with flight := none } ∧
    t.dir.slots[f.slot] = s.dir.slots[f.slot].committed s.cal ∧
    ∀ m : SlotNo, m ≠ f.slot → t.dir.slots[m] = s.dir.slots[m]
  directory : { t.dir with slots := s.dir.slots, pool := s.dir.pool } = s.dir
  rest : { t with supply := s.supply, dir := s.dir, engine := s.engine } = s

theorem Handed.supply_of_commit {t : State} (h : Handed f s t) (hk : f.kind = .commit) :
    t.supply = { s.supply with holder := .none, engineReq := false } :=
  h.supply.trans (by rw [if_neg (by rw [hk]; exact OpKind.noConfusion)])

theorem Handed.supply_of_erase {t : State} (h : Handed f s t) (hk : f.kind = .erase) :
    t.supply = { s.supply with holder := .engine, engineReq := false } :=
  h.supply.trans (by rw [if_pos hk])

/-- The flip of the COMMIT that waited, the grant released to no kicker. -/
theorem handed_of_flipEnds {t : State} (hk : f.kind = .commit)
    (hkicker : s.supply.kickerReq = false ∨ s.supply.monitor = .warn)
    (h : FlipEnds f.slot (s.dir.slots[f.slot].committed s.cal) s.dir.slots[f.slot].current
      { s with engine := { s.engine with flight := none }, supply := { s.supply with holder := .none, engineReq := false } }
      t) :
    Handed f s t := by
  obtain ⟨hsupply, hrumble⟩ := h.quiet hkicker
  have hrest := congrArg (fun u : State => { u with supply := s.supply, engine := s.engine }) h.rest
  have hkept : ({ t with supply := s.supply, dir := s.dir, engine := s.engine } : State) =
      { t with supply := s.supply, dir := s.dir, engine := s.engine, rumble := s.rumble } :=
    congrArg (fun r : Rumble => ({ t with supply := s.supply, dir := s.dir, engine := s.engine, rumble := r } : State))
      hrumble
  refine ⟨hsupply.trans ?_, hrumble, fun hk' => (nomatch hk.symm.trans hk'), fun _ => ⟨h.engine, h.slot, h.others⟩,
    h.directory, hkept.trans hrest⟩
  rw [if_neg (by rw [hk]; exact OpKind.noConfusion)]

theorem handed_releaseGrant (hengine : s.supply.engineReq = true) (hf : s.engine.flight = some f)
    (hkind : f.kind = .commit ∨ f.kind = .erase) (hkicker : s.supply.kickerReq = false ∨ s.supply.monitor = .warn) :
    Handed f s (releaseGrant s) := by
  have hgive : releaseGrant s = giveEngine (setHolder .none s) := if_pos hengine
  rw [hgive]
  rcases hkind with hk | hk
  · rw [giveEngine_of_commit (by exact hf) hk]
    exact handed_of_flipEnds hk hkicker (flipEnds ..)
  · have herase : giveEngine (setHolder .none s) =
        setHolder .engine (setFlight (some { f with stage := .fill })
          { s with supply := { s.supply with holder := .none, engineReq := false } }) := by
      simp only [giveEngine, setHolder, hf, hk]
    rw [herase]
    refine ⟨?_, rfl, fun _ => ⟨rfl, rfl⟩, fun h => (nomatch hk.symm.trans h), rfl, rfl⟩
    rw [if_pos hk]
    rfl

/-! ## The end of a kick (R139, R146, R147) -/

theorem endKick_of_none (ha : s.rumble.active = none) : endKick s = s := by
  simp only [endKick, ha]

theorem endKick_of_still (ha : s.rumble.active = some a) (hk : a.kick = .none) : endKick s = s := by
  simp only [endKick, ha, hk]

theorem setKick_of_active (ha : s.rumble.active = some a) (k : Kick) :
    setKick k s = setActive (some { a with kick := k }) s := by
  simp only [setKick, setActive, ha, Option.map_some]

theorem endKick_of_waiting (ha : s.rumble.active = some a) (hk : a.kick = .waiting) :
    endKick s = setActive (some (unkicked a)) { s with supply := { s.supply with kickerReq := false } } := by
  simp only [endKick, ha, hk]
  exact setKick_of_active (by exact ha) .none

theorem endKick_of_kicking (ha : s.rumble.active = some a) (hk : a.kick = .kicking n) (hheld : s.supply.holder = .kicker) :
    endKick s = releaseGrant (setActive (some (unkicked a)) s) := by
  simp only [endKick, ha, hk, hheld, if_true]
  rw [setKick_of_active ha]
  rfl

/-- The supply watch that the end of the active request's kick leaves where no engine waits (R139, R161). -/
def Leaves (s : State) (a : Active) (u : Supply) : Prop :=
  (a.kick = .none ∧ u = s.supply) ∨ (a.kick = .waiting ∧ u = { s.supply with kickerReq := false }) ∨
  (((∃ n, a.kick = .kicking n) ∧ s.supply.holder = .kicker ∧
      (s.supply.kickerReq = false ∨ s.supply.monitor = .warn)) ∧
    s.supply.engineReq = false ∧ u = { s.supply with holder := .none })

theorem endKick_leaves {u : Supply} (ha : s.rumble.active = some a) (h : Leaves s a u) :
    endKick s = setActive (some (unkicked a)) { s with supply := u } := by
  obtain ⟨hk, rfl⟩ | ⟨hk, rfl⟩ | ⟨⟨⟨n, hk⟩, hheld, hkicker⟩, hengine, rfl⟩ := h
  · rw [endKick_of_still ha hk]
    have hsame : setActive (some (unkicked a)) s = setActive s.rumble.active s := by rw [ha, unkicked, ← hk]
    exact hsame.symm
  · exact endKick_of_waiting ha hk
  · rw [endKick_of_kicking ha hk hheld, releaseGrant_of_quiet (by exact hengine) (by exact hkicker)]
    rfl

theorem handed_endKick (ha : s.rumble.active = some a) (hk : ∃ n, a.kick = .kicking n) (hheld : s.supply.holder = .kicker)
    (hkicker : s.supply.kickerReq = false ∨ s.supply.monitor = .warn) (hengine : s.supply.engineReq = true)
    (hf : s.engine.flight = some f) (hkind : f.kind = .commit ∨ f.kind = .erase) :
    Handed f (setActive (some (unkicked a)) s) (endKick s) := by
  obtain ⟨n, hk⟩ := hk
  rw [endKick_of_kicking ha hk hheld]
  exact handed_releaseGrant (by exact hengine) (by exact hf) hkind (by exact hkicker)

/-! ## The kick rule (R145) -/

theorem kickRuleIf_of_not {stopped : Bool} (ha : s.rumble.active = some a) (h : kickBegins stopped s a = false) :
    kickRuleIf stopped s = s := by
  simp only [kickRuleIf, ha, h]
  rfl

theorem kickRuleIf_of_free {stopped : Bool} (ha : s.rumble.active = some a) (h : kickBegins stopped s a = true)
    (hfree : s.supply.holder = .none) :
    kickRuleIf stopped s =
      setActive (some { a with kick := .kicking 3 })
        { s with supply := { s.supply with holder := .kicker, kickerReq := false } } := by
  have hgive : kickerRequest (setKick .waiting s) = giveKicker (setKick .waiting s) := if_pos (by exact hfree)
  simp only [kickRuleIf, ha, h, if_true, hgive]
  rw [setKick_of_active ha]
  rfl

theorem kickRuleIf_of_held {stopped : Bool} (ha : s.rumble.active = some a) (h : kickBegins stopped s a = true)
    (hheld : s.supply.holder ≠ .none) :
    kickRuleIf stopped s =
      setActive (some { a with kick := .waiting }) { s with supply := { s.supply with kickerReq := true } } := by
  have hstands : kickerRequest (setKick .waiting s) =
      { setKick .waiting s with supply := { s.supply with kickerReq := true } } := if_neg (by exact hheld)
  simp only [kickRuleIf, ha, h, if_true, hstands]
  rw [setKick_of_active ha]
  rfl

end

/-! ## WARN (R156) -/

theorem exec_warnEntry_eq {s : State} (h : s.supply.monitor = .run) : exec .warnEntry s = .next (enterWarn s) := if_pos h

/-- Settles O57: WARN's entry is the end of the kick in a state that stands in WARN. -/
theorem warnCutsTheKick : Obligations.WarnCutsTheKick := by
  intro a f s
  refine ⟨fun hrun hstill => ?_, fun hrun ha hk => ?_, fun n hrun ha hk hheld hengine => ?_,
    fun n hrun ha hk hheld hengine hf hkind => ?_, fun hwarn => if_pos hwarn⟩
  · rw [exec_warnEntry_eq hrun]
    obtain ha | ⟨ha, hk⟩ := hstill
    · exact congrArg _ (endKick_of_none (by exact ha))
    · exact congrArg _ (endKick_of_still (by exact ha) hk)
  · rw [exec_warnEntry_eq hrun]
    exact congrArg _ (endKick_of_waiting (by exact ha) hk)
  · rw [exec_warnEntry_eq hrun]
    exact congrArg _ (endKick_leaves (by exact ha) (.inr (.inr ⟨⟨⟨n, hk⟩, hheld, .inr rfl⟩, hengine, rfl⟩)))
  · have hhand : Handed f _ (enterWarn s) :=
      handed_endKick (a := a) (by exact ha) ⟨n, hk⟩ (by exact hheld) (.inr rfl) (by exact hengine) (by exact hf)
        (.inl hkind)
    obtain ⟨hflight, hslot, -⟩ := hhand.commit hkind
    refine ⟨_, exec_warnEntry_eq hrun, hflight, hhand.supply_of_commit hkind, hhand.rumble, ?_, ?_, ?_⟩
    all_goals
      rw [hslot]
      rfl

end Sys2Proof.Proofs
end

section
/-! SUPPORT. The end of the active request, the level the motor sees, its PWM slots and the stall (O54); the battery
domain and the start delay (O55). -/

namespace Sys2Proof.Proofs

open Sys2Proof.Machine Sys2Proof.Safety Sys2Proof.Laws

section
variable {a : Active} {s : State}

/-! ## The end of the active request (R139) -/

/-- The interrupt unit after RUMBLE END's event (R175). -/
def endLatched (s : State) : CauseUnit :=
  { s.cause with latches := { s.cause.latches with rumbleEnd := s.cause.latches.rumbleEnd || enabled .rumble s } }

theorem latchRumbleEnd_eq (s : State) : latchRumbleEnd s = { s with cause := endLatched s } := by
  unfold latchRumbleEnd endLatched
  split
  next h => rw [h, Bool.or_true]
  next h => rw [eq_false_of_ne_true h, Bool.or_false]

/-- The interrupt unit after the end of a request: RUMBLE END comes with every reason but PREEMPTED (R139). -/
def closedCause (e : EndReason) (s : State) : CauseUnit := if e = .preempted then s.cause else endLatched s

theorem closeRequest_rumble (e : EndReason) (s : State) :
    (closeRequest e s).rumble = { s.rumble with active := none, lastEnd := e } := by
  have hkick := congrArg (fun u : State => { u.rumble with active := none })
    (outsideGrant_endKick { s with rumble := { s.rumble with lastEnd := e } })
  unfold closeRequest
  simp only
  split
  · exact hkick
  · rw [latchRumbleEnd_eq]
    exact hkick

theorem closeRequest_cause (e : EndReason) (s : State) : (closeRequest e s).cause = closedCause e s := by
  have hkick : (endKick { s with rumble := { s.rumble with lastEnd := e } }).cause = s.cause :=
    congrArg (·.cause) (outsideGrant_endKick { s with rumble := { s.rumble with lastEnd := e } })
  unfold closeRequest closedCause
  simp only
  split
  · exact hkick
  · rw [latchRumbleEnd_eq]
    simp only [endLatched, enabled, setActive, hkick]

/-- The end of a request touches the drive, the interrupt unit, and what the end of its kick touches. -/
theorem closeRequest_eq (e : EndReason) (s : State) :
    closeRequest e s =
      { s with
        rumble := { s.rumble with active := none, lastEnd := e }, cause := closedCause e s,
        supply := (closeRequest e s).supply, dir := (closeRequest e s).dir, engine := (closeRequest e s).engine } := by
  have hkick := endKick_eq { s with rumble := { s.rumble with lastEnd := e } }
  have hframe : closeRequest e s =
      { s with rumble := (closeRequest e s).rumble, cause := (closeRequest e s).cause,
               supply := (closeRequest e s).supply, dir := (closeRequest e s).dir, engine := (closeRequest e s).engine } := by
    unfold closeRequest
    simp only
    rw [hkick]
    split
    · rfl
    · rw [latchRumbleEnd_eq]
      rfl
  rw [← closeRequest_rumble e s, ← closeRequest_cause e s]
  exact hframe

/-! ## The level the motor sees (R143) -/

theorem motorDrive_of_stopped
    (h : s.supply.monitor ≠ .run ∨ hasFault .stall s = true ∨ s.profile.motor = false ∨ s.rumble.active = none) :
    motorDrive s = (0, .off) := by
  unfold motorDrive
  split
  · rfl
  next hmotor =>
    split
    · rfl
    next hrun =>
      split
      · rfl
      next hstall =>
        obtain h | h | h | h := h
        · exact absurd h hrun
        · exact absurd h hstall
        · rw [h] at hmotor
          exact absurd rfl hmotor
        · rw [h]

theorem motorDrive_of_waiting (hrun : s.supply.monitor = .run) (hstall : hasFault .stall s = false)
    (hmotor : s.profile.motor = true) (ha : s.rumble.active = some a) (hk : a.kick = .waiting) :
    motorDrive s = (0, .off) := by
  simp [motorDrive, hrun, hstall, hmotor, ha, hk]

theorem motorDrive_of_kicking {n : Nat} (hrun : s.supply.monitor = .run) (hstall : hasFault .stall s = false)
    (hmotor : s.profile.motor = true) (ha : s.rumble.active = some a) (hk : a.kick = .kicking n) :
    motorDrive s = (16, .drive) := by
  simp [motorDrive, hrun, hstall, hmotor, ha, hk]

theorem motorDrive_of_brake (hrun : s.supply.monitor = .run) (hstall : hasFault .stall s = false)
    (hmotor : s.profile.motor = true) (ha : s.rumble.active = some a) (hk : a.kick = .none)
    (hl : activeLevel s a = .brake) : motorDrive s = (0, .brake) := by
  simp [motorDrive, hrun, hstall, hmotor, ha, hk, hl]

theorem motorDrive_of_drive {n : Nat} (hrun : s.supply.monitor = .run) (hstall : hasFault .stall s = false)
    (hmotor : s.profile.motor = true) (ha : s.rumble.active = some a) (hk : a.kick = .none)
    (hl : activeLevel s a = .drive n) : motorDrive s = (if s.rumble.hot then min n 6 else n, .drive) := by
  simp [motorDrive, hrun, hstall, hmotor, ha, hk, hl]

theorem activeLevel_of_step {st : Machine.Step} (h : s.rumble.patterns[a.request.pattern].steps[a.stepIndex]? = some st) :
    activeLevel s a = st.level := by
  simp only [activeLevel, patternOf, h]

/-- Outside a kick the level is at most the step's, 0 at a BRAKE step, and at most 6 while HOT. -/
theorem effectiveLevel_le (ha : s.rumble.active = some a) (hk : ∀ n, a.kick ≠ .kicking n) :
    (∀ n, activeLevel s a = .drive n → effectiveLevel s ≤ n) ∧ (activeLevel s a = .brake → effectiveLevel s = 0) ∧
      (s.rumble.hot = true → effectiveLevel s ≤ 6) := by
  have hzero {b : Bridge} (hdrive : motorDrive s = (0, b)) :
      (∀ n, activeLevel s a = .drive n → effectiveLevel s ≤ n) ∧ (activeLevel s a = .brake → effectiveLevel s = 0) ∧
        (s.rumble.hot = true → effectiveLevel s ≤ 6) := by
    have hlevel : effectiveLevel s = 0 := congrArg Prod.fst hdrive
    exact ⟨fun _ _ => hlevel.trans_le (Nat.zero_le _), fun _ => hlevel, fun _ => hlevel.trans_le (Nat.zero_le 6)⟩
  by_cases hstop : s.supply.monitor ≠ .run ∨ hasFault .stall s = true ∨ s.profile.motor = false ∨ s.rumble.active = none
  · exact hzero (motorDrive_of_stopped hstop)
  simp only [not_or, not_not, Bool.not_eq_true, Bool.not_eq_false] at hstop
  obtain ⟨hrun, hstall, hmotor, -⟩ := hstop
  cases hkick : a.kick with
  | kicking n => exact absurd hkick (hk n)
  | waiting => exact hzero (motorDrive_of_waiting hrun hstall hmotor ha hkick)
  | none =>
    obtain hlevel | ⟨n, hlevel⟩ : activeLevel s a = .brake ∨ ∃ n, activeLevel s a = .drive n := by
      cases activeLevel s a <;> simp
    · exact hzero (motorDrive_of_brake hrun hstall hmotor ha hkick hlevel)
    · have hn : effectiveLevel s = if s.rumble.hot then min n 6 else n :=
        congrArg Prod.fst (motorDrive_of_drive hrun hstall hmotor ha hkick hlevel)
      refine ⟨fun m hm => ?_, fun hbrake => absurd (hlevel.symm.trans hbrake) Level.noConfusion, fun hhot => ?_⟩
      · cases hlevel.symm.trans hm
        rw [hn]
        split
        · exact Nat.min_le_left ..
        · exact Nat.le_refl n
      · rw [hn, if_pos hhot]
        exact Nat.min_le_right ..

end

theorem ticking_iff {s : State} : ticking s = true ↔ powered s = true ∧ s.crystal.running = true :=
  Bool.and_eq_true_iff

theorem setFault_rumbleEnd (f : FaultFlag) (s : State) :
    endLatched (setFault f s) = { (setFault f s).cause with
      latches := { (setFault f s).cause.latches with
        rumbleEnd := s.cause.latches.rumbleEnd || enabled .rumble s } } := by
  unfold setFault endLatched
  split <;> rfl

theorem hasFault_closeRequest (f : FaultFlag) (e : EndReason) (s : State) :
    hasFault f (closeRequest e s) = hasFault f s := by
  rw [hasFault, closeRequest_cause]
  unfold closedCause
  split <;> rfl

theorem exec_stallLatch_eq {s : State} (hpow : powered s = true) (hinput : s.rumble.stallInput = true)
    (hlevel : 0 < effectiveLevel s) : exec .stallLatch s = .next (latchStall s) :=
  if_pos (by simp [hpow, stallRuns, hinput, hlevel])

theorem hasFault_latchStall (s : State) : hasFault .stall (latchStall s) = true := by
  have hset : hasFault .stall (setFault .stall s) = true := by rw [hasFault_setFault]; rfl
  exact (hasFault_closeRequest ..).trans hset

/-- Settles O54: the branches of R143, the slots of a period, and the end of the request at a stall. -/
theorem motorLevelSlotsAndStall : Obligations.MotorLevelSlotsAndStall := by
  intro asserted s
  refine ⟨motorDrive_of_stopped, rfl, fun a hrun hstall hmotor ha => ?_, fun a ha hk => ?_, fun hpow hruns => ?_, rfl,
    fun hpow hinput hlevel => ?_⟩
  · refine ⟨motorDrive_of_waiting hrun hstall hmotor ha, fun n => motorDrive_of_kicking hrun hstall hmotor ha,
      fun st hk hst => ?_⟩
    rw [← activeLevel_of_step hst]
    exact ⟨motorDrive_of_brake hrun hstall hmotor ha hk, fun n => motorDrive_of_drive hrun hstall hmotor ha hk⟩
  · obtain ⟨hdriven, hbrake, hhot⟩ := effectiveLevel_le ha hk
    refine ⟨fun st hst => ?_, hhot⟩
    rw [activeLevel_of_step hst] at hdriven hbrake
    exact ⟨hdriven, hbrake⟩
  · refine ⟨pwmSlot s, if_pos (ticking_iff.2 ⟨hpow, hruns⟩), rfl, rfl, rfl, fun h => ?_, fun h => ?_, fun h => ?_, rfl, rfl⟩
    all_goals
      simp only [pwmSlot]
      rw [h]
      exact ⟨rfl, rfl⟩
  · have hstall := hasFault_latchStall s
    have hcause := closeRequest_cause .stall { setFault .stall s with
      rumble := { (setFault .stall s).rumble with queue := [], stallTimer := 0 } }
    refine ⟨_, exec_stallLatch_eq hpow hinput hlevel, hstall, ?_, ?_, motorDrive_of_stopped (.inr (.inl hstall)), ?_⟩
    · refine (closeRequest_rumble ..).trans ?_
      rw [setFault_eq]
    · refine (congrArg (·.latches.rumbleEnd) hcause).trans ?_
      exact congrArg (·.latches.rumbleEnd) (setFault_rumbleEnd .stall s)
    · rw [latchStall]
      simp only
      rw [closeRequest_eq, setFault_eq]

/-! ## The battery domain and the start delay (R155, R158) -/

/-- Settles O55: each row's branch. -/
theorem batteryAttachAndStartDelay : Obligations.BatteryAttachAndStartDelay := by
  intro s
  refine ⟨fun hlost => ?_, fun hvalid => if_pos hvalid, fun hbattery hvalid => ?_, fun hbattery hlost => ?_,
    fun hstarting => if_pos hstarting, fun hbattery => ?_⟩
  · exact if_neg (by rw [hlost]; exact Bool.noConfusion)
  · refine (if_pos hbattery).trans ?_
    rw [if_pos hvalid]
    rfl
  · refine (if_pos hbattery).trans ?_
    rw [if_neg (by rw [hlost]; exact Bool.noConfusion)]
    rfl
  · have hsame : collapse s = s := by simp only [collapse, hbattery]
    exact ⟨loseDomain s, congrArg (fun u => Host.Outcome.next (loseDomain u)) hsame, rfl, rfl, rfl, rfl, rfl⟩

end Sys2Proof.Proofs
end

section
/-! SUPPORT. What the part does by itself when no command waits: the step that the rules make at once, in their order, and
otherwise the crystal edge with its ticks (O22). -/

namespace Sys2Proof.Proofs

open Sys2Proof.Machine Sys2Proof.Safety Sys2Proof.Laws

section
variable {c : Instr} {code len : Byte} {body rest : List Byte} {s : State}

theorem step_of_due (hempty : s.pending = []) (h : dueStep s = some c) : step s = exec c s := by
  simp only [step, hempty, idle, h]

theorem step_of_no_due (hempty : s.pending = []) (h : dueStep s = none) :
    step s = .next (if s.crystal.running then crystalEdge s else s) := by
  simp only [step, hempty, idle, h]

theorem dueStep_of_powered (hpow : powered s = true) :
    dueStep s = (dueEnd s).or ((dueStart s).or ((dueGrant s).or (standingMessage s))) := if_pos hpow

theorem dueStep_of_end (hpow : powered s = true) (h : dueEnd s = some c) : dueStep s = some c := by
  rw [dueStep_of_powered hpow, h, Option.some_or]

/-! ## The end of the operation in flight -/

/-- The operation in flight has work left (R53, R57). -/
def Working (s : State) : Prop :=
  ∀ f, s.engine.flight = some f → (f.kind = .open ∨ f.kind = .verify → f.position < 4096) ∧
    (f.kind = .erase → f.stage = .grantWait ∨
      f.stage = .fill ∧ ∃ b, s.dir.slots[f.slot].current = some b ∧ b < s.profile.blocks)

theorem dueEnd_of_no_flight (h : s.engine.flight = none) : dueEnd s = none := by
  simp only [dueEnd, h]

theorem scannedAll_iff {f : Flight} : scannedAll f = true ↔ 4096 ≤ f.position := decide_eq_true_iff

theorem eraseReady_of_working {f : Flight}
    (h : f.stage = .grantWait ∨ f.stage = .fill ∧ ∃ b, s.dir.slots[f.slot].current = some b ∧ b < s.profile.blocks) :
    eraseReady f s = false := by
  obtain hwait | ⟨hfill, b, hb, hlt⟩ := h
  · simp [eraseReady, hwait]
  · have hinside : s.dir.slots[f.slot].current.filter (insideProfile s) = some b := by
      rw [hb, Option.filter_some, insideProfile, if_pos (decide_eq_true hlt)]
    rw [eraseReady, hinside, hfill]
    exact Bool.and_false _

theorem dueEnd_of_working (h : Working s) : dueEnd s = none := by
  cases hf : s.engine.flight with
  | none => exact dueEnd_of_no_flight hf
  | some f =>
    obtain ⟨hscan, herase⟩ := h f hf
    simp only [dueEnd, hf]
    split
    case h_1 hk => exact if_neg fun hall => absurd (scannedAll_iff.1 hall) (Nat.not_le.2 (hscan (.inl hk)))
    case h_2 hk => exact if_neg fun hall => absurd (scannedAll_iff.1 hall) (Nat.not_le.2 (hscan (.inr hk)))
    case h_3 hk => exact if_neg (by rw [eraseReady_of_working (herase hk)]; exact Bool.noConfusion)
    case h_4 => rfl

/-! ## The start of the engine and the grant of the port -/

/-- The engine has nothing to do at once. -/
def EngineQuiet (s : State) : Prop :=
  Working s ∧ (s.engine.flight = none → s.engine.queue = [] ∧ s.engine.sweep = 8)

/-- The ROM port has nobody to grant. -/
def PortQuiet (s : State) : Prop :=
  s.port.grant.isSome = true ∨ (∀ v, voiceRequests s v = false) ∧ ∀ k, trackRequests s k = false

theorem dueStart_of_busy (h : engineIdle s = false) : dueStart s = none := by
  simp [dueStart, h]

theorem engineIdle_iff : engineIdle s = true ↔ answered s = true ∧ s.engine.flight = none := by
  simp [engineIdle]

theorem dueStart_of_quiet (h : EngineQuiet s) : dueStart s = none := by
  cases hidle : engineIdle s with
  | false => exact dueStart_of_busy hidle
  | true =>
    obtain ⟨hqueue, hsweep⟩ := h.2 (engineIdle_iff.1 hidle).2
    simp [dueStart, hidle, hqueue, sweepDue, hsweep]

theorem fewest_eq_none {α : Type} {count : α → Nat} {l : List α} : fewest count l = none ↔ l = [] := by
  cases l with
  | nil => exact ⟨fun _ => rfl, fun _ => rfl⟩
  | cons a l =>
    refine ⟨fun h => ?_, fun h => nomatch h⟩
    simp only [fewest] at h
    split at h
    · split at h <;> nomatch h
    · nomatch h

theorem mem_allTracks (k : TrackNo) : k ∈ allTracks := by
  fin_cases k <;> simp [allTracks]

theorem nextHolder_eq_none :
    nextHolder s = none ↔ (∀ v, voiceRequests s v = false) ∧ ∀ k, trackRequests s k = false := by
  have hvoices : fewest (fun v => s.voices[v].buffer.length) (allVoices.filter (voiceRequests s)) = none ↔
      ∀ v, voiceRequests s v = false := by
    rw [fewest_eq_none, List.filter_eq_nil_iff]
    exact ⟨fun h v => eq_false_of_ne_true (h v (mem_allVoices v)), fun h v _ => ne_true_of_eq_false (h v)⟩
  have htracks : fewest (fun t => s.tracks[t].buffer.length) (allTracks.filter (trackRequests s)) = none ↔
      ∀ k, trackRequests s k = false := by
    rw [fewest_eq_none, List.filter_eq_nil_iff]
    exact ⟨fun h k => eq_false_of_ne_true (h k (mem_allTracks k)), fun h k _ => ne_true_of_eq_false (h k)⟩
  unfold nextHolder
  split
  next v hv =>
    exact ⟨fun h => (nomatch h), fun ⟨hnone, _⟩ => nomatch hv.symm.trans (hvoices.2 hnone)⟩
  next hv => rw [Option.map_eq_none_iff, htracks, and_iff_right (hvoices.1 hv)]

theorem dueGrant_of_quiet (h : PortQuiet s) : dueGrant s = none := by
  refine if_neg fun hdue => ?_
  obtain ⟨hidle, hnext⟩ := Bool.and_eq_true_iff.1 hdue
  obtain hheld | hnone := h
  · obtain ⟨-, hfree⟩ := Bool.and_eq_true_iff.1 hidle
    rw [Option.isNone_iff_eq_none] at hfree
    rw [hfree] at hheld
    nomatch hheld
  · rw [nextHolder_eq_none.2 hnone] at hnext
    nomatch hnext

theorem dueGrant_of_request (hans : answered s = true) (hfree : s.port.grant = none)
    (h : (∃ v, voiceRequests s v = true) ∨ ∃ k, trackRequests s k = true) : dueGrant s = some .romArbitration := by
  have hnext : (nextHolder s).isSome = true := by
    rw [Option.isSome_iff_ne_none]
    intro hnone
    obtain ⟨hvoices, htracks⟩ := nextHolder_eq_none.1 hnone
    obtain ⟨v, hv⟩ | ⟨k, hk⟩ := h
    · exact nomatch hv.symm.trans (hvoices v)
    · exact nomatch hk.symm.trans (htracks k)
  exact if_pos (by simp [portIdle, hans, hfree, hnext])

/-! ## The message that stands ready (R165) -/

theorem standingMessage_of_overLong (hcan : canTake s = true) (hfifo : s.cmd.fifo = code :: len :: rest)
    (hlen : 32 < len.toNat) : standingMessage s = some (.messageRefused [code, len]) := by
  simp [standingMessage, hcan, hfifo, hlen]

theorem standingMessage_of_message (hcan : canTake s = true) (hfifo : s.cmd.fifo = code :: len :: body ++ rest)
    (hlen : len.toNat ≤ 32) (hbody : body.length = len.toNat + 1) :
    standingMessage s =
      (refusalOf (code :: len :: body)).elim (decodeMessage code (body.take len.toNat))
        fun _ => some (.messageRefused (code :: len :: body)) := by
  have htake : (body ++ rest).take (len.toNat + 1) = body := by rw [← hbody, List.take_left]
  have hroom : len.toNat + 1 ≤ (body ++ rest).length := by rw [List.length_append]; omega
  have hmsg : (code :: len :: (body ++ rest)).take (3 + len.toNat) = code :: len :: body := by
    rw [show 3 + len.toNat = len.toNat + 1 + 1 + 1 by omega, List.take_succ_cons, List.take_succ_cons, htake]
  have hpayload : (body ++ rest).take len.toNat = body.take len.toNat := List.take_append_of_le_length (by omega)
  simp only [standingMessage, hcan, if_true, hfifo, List.cons_append, hmsg]
  rw [if_neg (Nat.not_lt.2 hlen), if_pos hroom, hpayload]
  cases refusalOf (code :: len :: body) <;> rfl

theorem standingMessage_of_refusal {r : ReplyStatus × Bool} (hcan : canTake s = true)
    (hfifo : s.cmd.fifo = code :: len :: body ++ rest) (hlen : len.toNat ≤ 32) (hbody : body.length = len.toNat + 1)
    (href : refusalOf (code :: len :: body) = some r) :
    standingMessage s = some (.messageRefused (code :: len :: body)) := by
  rw [standingMessage_of_message hcan hfifo hlen hbody, href, Option.elim_some]

theorem toNat_byteOf {n : Nat} (h : n ≤ 32) : (byteOf n).toNat = n := by
  simp [byteOf]
  omega

theorem standingMessage_of_frame (hcan : canTake s = true) (hfifo : s.cmd.fifo = frameOf c ++ rest)
    (hwf : c.wellFormed = true) (hmsg : (messageOf c).isSome = true) : standingMessage s = some c := by
  obtain ⟨⟨code, payload⟩, hcode⟩ := Option.isSome_iff_exists.1 hmsg
  obtain ⟨hdecode, haccepts, hlen⟩ := spells_of_messageOf hwf hcode
  have hframe : frameOf c = frame code payload := by rw [frameOf, hcode]
  have htoNat := toNat_byteOf hlen
  have hcheck := checkPasses_frame code payload
  rw [hframe, frame_eq] at hfifo
  rw [frame_eq] at hcheck
  have hknown : knownCode code = true := by
    rw [acceptsLength] at haccepts
    rw [knownCode]
    split at haccepts
    next hlens => rw [hlens]; rfl
    next => nomatch haccepts
  have hrefuse : refusalOf (code :: byteOf payload.length :: payload ++ [-(code + byteOf payload.length + byteSum payload)]) =
      none := by
    simp only [List.cons_append] at hcheck ⊢
    simp only [refusalOf, htoNat, Nat.not_lt.2 hlen, hcheck, hknown, haccepts, if_false, Bool.not_true,
      Bool.false_eq_true]
  rw [standingMessage_of_message (body := payload ++ [-(code + byteOf payload.length + byteSum payload)]) hcan hfifo
    (htoNat.trans_le hlen) (by rw [htoNat]; simp)]
  rw [List.cons_append, List.cons_append] at hrefuse
  rw [hrefuse, htoNat, List.take_left]
  exact hdecode

/-- No message stands ready: too few bytes, no room for a reply, or a message that has not all come. -/
theorem standingMessage_of_none
    (h : s.cmd.fifo.length < 2 ∨ 29 < s.cmd.reply.length ∨
      (len.toNat ≤ 32 ∧ body.length ≤ len.toNat ∧ s.cmd.fifo = code :: len :: body)) : standingMessage s = none := by
  unfold standingMessage
  split
  next hcan =>
    obtain hshort | hroom | ⟨hlen, hbody, hfifo⟩ := h
    · split
      next hfifo =>
        rw [hfifo] at hshort
        simp at hshort
      next => rfl
    · have := (canTake_iff.1 hcan).2
      omega
    · simp only [hfifo]
      rw [if_neg (Nat.not_lt.2 hlen), if_neg (by omega)]
  next => rfl

theorem standingMessage_of_unanswered (h : answered s = false) : standingMessage s = none :=
  if_neg (by simp [canTake, h])

/-! ## The crystal edge -/

theorem crystalEdge_of_powered (hpow : powered s = true) :
    crystalEdge s =
      (rearrange (Config.edgeOrder s.freeIndex) (edgeTicks s)).foldl (fun t k => k.act t)
        { s with
          crystal := { s.crystal with divider := (s.crystal.divider + 1) % 512 }, freeIndex := s.freeIndex + 1,
          cal := if s.supply.domainValid = true ∧ s.cal.endsSecond = false then s.cal.countEdge else s.cal } := by
  have hcounted : dividerEdge (calendarEdge { s with freeIndex := s.freeIndex + 1 }) =
      { s with
        crystal := { s.crystal with divider := (s.crystal.divider + 1) % 512 }, freeIndex := s.freeIndex + 1,
        cal := if s.supply.domainValid = true ∧ s.cal.endsSecond = false then s.cal.countEdge else s.cal } := by
    simp only [calendarEdge, Bool.and_eq_true, Bool.not_eq_true']
    split
    all_goals exact if_pos hpow
  rw [← hcounted]
  rfl

theorem crystalEdge_of_unpowered (hpow : powered s = false) (hvalid : s.supply.domainValid = true)
    (hends : s.cal.endsSecond = false) :
    crystalEdge s = { s with cal := s.cal.countEdge, freeIndex := s.freeIndex + 1 } := by
  have hticks : edgeTicks s = [] := by simp [edgeTicks, hends, hpow]
  have hcount : calendarEdge { s with freeIndex := s.freeIndex + 1 } =
      setCal s.cal.countEdge { s with freeIndex := s.freeIndex + 1 } := if_pos (by simp [hvalid, hends])
  unfold crystalEdge
  simp only
  rw [hticks, hcount]
  exact if_neg (by simp [powered, setCal] at hpow ⊢; exact hpow)

theorem countEdge_of_lt {c : Calendar} (h : c.prescaler < 32767) :
    c.countEdge = { c with prescaler := c.prescaler + 1 } := if_neg (Nat.not_le.2 h)

theorem endsSecond_of_lt {c : Calendar} (hsec : c.sec % 60 ≠ 0) (h : c.prescaler < 32767) : c.endsSecond = false := by
  rw [Calendar.endsSecond, if_pos hsec, decide_eq_false_iff_not]
  exact Nat.not_le.2 h

end

/-- Settles O22: the due step is the first that stands in the order end, start, grant, message; the edge's ticks are a
rearrangement of the list that R66 and R69 give. -/
theorem idleStepTakesMessagesOrCountsEdge : Obligations.IdleStepTakesMessagesOrCountsEdge := by
  intro c code len body rest e q s hempty working engineQuiet portQuiet msg noMessage n counted ticks
  refine ⟨fun f hpow hf => ?_, fun hans hf hq => ?_, fun hans hf hq hsweep => ?_, fun hans hquiet hfree hreq => ?_,
    fun hans hquiet hport hroom => ?_, fun h => ?_, fun hoff => ?_, fun hpow hruns => ?_⟩
  · refine ⟨fun hk hall => ?_, fun hk hall => ?_, fun hk hflip => ?_⟩
    all_goals refine step_of_due hempty (dueStep_of_end hpow ?_)
    · simp only [dueEnd, hf, hk]
      exact if_pos (scannedAll_iff.2 hall)
    · simp only [dueEnd, hf, hk]
      exact if_pos (scannedAll_iff.2 hall)
    · simp only [dueEnd, hf, hk]
      exact if_pos (by simp [eraseReady, hk, hflip])
  · refine step_of_due hempty ?_
    have hstart : dueStart s = some .engineStart := by
      simp [dueStart, engineIdle_iff.2 ⟨hans, hf⟩, hq]
    rw [dueStep_of_powered (powered_of_answered hans), dueEnd_of_no_flight hf, hstart]
    rfl
  · refine step_of_due hempty ?_
    have hstart : dueStart s = some .sweepStep := by
      simp [dueStart, engineIdle_iff.2 ⟨hans, hf⟩, hq, sweepDue, hsweep]
    rw [dueStep_of_powered (powered_of_answered hans), dueEnd_of_no_flight hf, hstart]
    rfl
  · refine step_of_due hempty ?_
    rw [dueStep_of_powered (powered_of_answered hans), dueEnd_of_working hquiet.1, dueStart_of_quiet hquiet,
      dueGrant_of_request hans hfree hreq]
    rfl
  · have hcan : canTake s = true := canTake_iff.2 ⟨hans, hroom⟩
    have hdue : dueStep s = standingMessage s := by
      rw [dueStep_of_powered (powered_of_answered hans), dueEnd_of_working hquiet.1, dueStart_of_quiet hquiet,
        dueGrant_of_quiet hport]
      rfl
    refine ⟨fun hfifo hwf hmsg => ?_, fun hfifo hlen => ?_, fun hfifo hlen hbody hbad => ?_⟩
    · exact step_of_due hempty (hdue.trans (standingMessage_of_frame hcan hfifo hwf hmsg))
    · exact step_of_due hempty (hdue.trans (standingMessage_of_overLong hcan hfifo hlen))
    · obtain ⟨r, hr⟩ : ∃ r, refusalOf msg = some r := by
        by_cases hsum : byteSum msg = 0
        · obtain hne | hcode | ⟨lens, hcode, hlens⟩ := hbad
          · exact absurd hsum hne
          · exact ⟨_, refusalOf_unknown hlen hsum hcode⟩
          · exact ⟨_, refusalOf_badLength hlen hsum hcode hlens⟩
        · exact ⟨_, refusalOf_badCheck hlen hsum⟩
      exact step_of_due hempty (hdue.trans (standingMessage_of_refusal hcan hfifo hlen hbody hr))
  · obtain ⟨hpow, hdue⟩ : powered s = true ∧ dueStep s = none := by
      obtain ⟨hans, hquiet, hport, hnone⟩ | ⟨hpow, hcrst, hworking⟩ := h
      · have hpow := powered_of_answered hans
        rw [dueStep_of_powered hpow, dueEnd_of_working hquiet.1, dueStart_of_quiet hquiet, dueGrant_of_quiet hport,
          standingMessage_of_none hnone]
        exact ⟨hpow, rfl⟩
      · have hans : answered s = false := by simp [answered, hcrst]
        have hbusy : engineIdle s = false := by simp [engineIdle, hans]
        have hport : dueGrant s = none := if_neg (by simp [portIdle, hans])
        rw [dueStep_of_powered hpow, dueEnd_of_working hworking, dueStart_of_busy hbusy, hport,
          standingMessage_of_unanswered hans]
        exact ⟨hpow, rfl⟩
    have hstep := step_of_no_due hempty hdue
    refine ⟨fun hstopped => ?_, fun hruns =>
      ⟨_, rearrange_perm (Config.edgeOrder s.freeIndex) ticks, ?_⟩⟩
    · rw [hstep, if_neg (by rw [hstopped]; exact Bool.noConfusion)]
    · rw [hstep, if_pos hruns, crystalEdge_of_powered hpow]
      have hticks : edgeTicks s = ticks := by
        rw [edgeTicks, if_pos hpow, dividerTicks]
        simp only [ticks, n, Bool.and_eq_true, List.append_assoc]
      rw [hticks]
  · have hdue : dueStep s = none := if_neg (by rw [hoff]; exact Bool.noConfusion)
    have hstep := step_of_no_due hempty hdue
    refine ⟨fun hstopped => ?_, fun hruns hvalid hends => ?_, fun hruns hvalid hsec hlt => ?_⟩
    · rw [hstep, if_neg (by rw [hstopped]; exact Bool.noConfusion)]
    · rw [hstep, if_pos hruns, crystalEdge_of_unpowered hoff hvalid hends]
    · rw [hstep, if_pos hruns, crystalEdge_of_unpowered hoff hvalid (endsSecond_of_lt hsec hlt), countEdge_of_lt hlt]
  · have htick := ticking_iff.2 ⟨hpow, hruns⟩
    exact ⟨fun hvalid => exec_secondTick_eq hvalid hruns, if_pos htick, if_pos htick, if_pos htick, if_pos htick⟩

end Sys2Proof.Proofs
end

section
/-! SUPPORT. TRACK START and TRACK STOP with their refusals, and the track tick that acts on no event (O49). -/

namespace Sys2Proof.Proofs

open Sys2Proof.Machine Sys2Proof.Safety Sys2Proof.Laws

/-! ## Commands that answer with a state they make of the taken message -/

/-- A command's effect on the taken message is a reply to a state u that kept the command unit: the console's view of it is
u with the command unit as before the message. -/
theorem answers_of_effect {c : Instr} {e : State → State} {rest payload : List Byte} {st : ReplyStatus} {s u : State}
    (hready : Ready c rest s) (hexec : exec c s = command c s e) (he : e (taken rest s) = replied st payload u)
    (hcmd : u.cmd = (taken rest s).cmd) : Answers c rest s st payload { u with cmd := s.cmd } := by
  have hkept : taken rest { u with cmd := s.cmd } = u := congrArg (fun m => ({ u with cmd := m } : State)) hcmd.symm
  exact hexec.trans ((command_of_ready hready e).trans (congrArg _ (he.trans (congrArg _ hkept.symm))))

theorem answers_of_same {c : Instr} {e : State → State} {rest payload : List Byte} {st : ReplyStatus} {s t : State}
    (hready : Ready c rest s) (hexec : exec c s = command c s e) (he : e (taken rest s) = replied st payload (taken rest t)) :
    Answers c rest s st payload t := hexec.trans ((command_of_ready hready e).trans (congrArg _ he))

/-! ## The fields of TRACK START (R120) -/

section
variable {b mask source : Byte} {address : RomAddr} {period : Word16} {k : TrackNo}

theorem sourceOf_of_gt (h : 1 < source.toNat) : sourceOf source = none := by
  unfold sourceOf
  rw [if_neg (fun h0 => by rw [h0] at h; exact absurd h (by decide)),
    if_neg (fun h1 => by rw [h1] at h; exact absurd h (by decide))]

theorem sourceOf_of_le (h : source.toNat ≤ 1) : sourceOf source = some (if source = 0 then .time else .frame) := by
  obtain h | h := Nat.le_one_iff_eq_zero_or_eq_one.1 h
  · rw [show source = 0 from BitVec.eq_of_toNat_eq h]
    rfl
  · rw [show source = 1 from BitVec.eq_of_toNat_eq h]
    rfl

/-- What TRACK START refuses with BAD_ARG (R120 order 1). -/
def BadStart (b mask source : Byte) (period : Word16) : Prop :=
  1 < b.toNat ∨ 63 < mask.toNat ∨ 1 < source.toNat ∨ (source = 0 ∧ period.toNat < 16) ∨
    (source = 1 ∧ (period.toNat = 0 ∨ 16 < period.toNat))

theorem periodAllowed_iff {p : Nat} (h : source.toNat ≤ 1) :
    periodAllowed (if source = 0 then .time else .frame) p = true ↔
      ¬(source = 0 ∧ p < 16) ∧ ¬(source = 1 ∧ (p = 0 ∨ 16 < p)) := by
  obtain h | h := Nat.le_one_iff_eq_zero_or_eq_one.1 h
  · rw [show source = 0 from BitVec.eq_of_toNat_eq h]
    simp [periodAllowed]
  · rw [show source = 1 from BitVec.eq_of_toNat_eq h]
    simp [periodAllowed]
    omega

theorem trackStartFields_of_bad (h : BadStart b mask source period) :
    trackStartFields b address mask source period = none := by
  by_cases hb : 1 < b.toNat
  · rw [trackStartFields, indexOf_eq_none.2 hb]
  by_cases hsource : 1 < source.toNat
  · rw [trackStartFields, sourceOf_of_gt hsource]
    cases indexOf 2 b <;> rfl
  have hlt : b.toNat < 2 := by omega
  have hle := Nat.not_lt.1 hsource
  have hindex : indexOf 2 b = some ⟨b.toNat, hlt⟩ := indexOf_eq_some.2 rfl
  rw [trackStartFields, hindex, sourceOf_of_le hle]
  refine if_neg fun ⟨hmask, hperiod⟩ => ?_
  obtain ⟨htime, hframe⟩ := (periodAllowed_iff hle).1 hperiod
  obtain h | h | h | h | h := h
  · exact hb h
  · omega
  · exact hsource h
  · exact htime h
  · exact hframe h

theorem trackStartFields_of_good (h : ¬BadStart b mask source period) (hb : b.toNat = k.val) :
    trackStartFields b address mask source period =
      some (k, .started address (mask.setWidth 6) (if source = 0 then .time else .frame) period.toNat) := by
  simp only [BadStart, not_or] at h
  obtain ⟨-, hmask, hsource, htime, hframe⟩ := h
  have hle := Nat.not_lt.1 hsource
  rw [trackStartFields, indexOf_eq_some.2 hb, sourceOf_of_le hle]
  exact if_pos ⟨by omega, (periodAllowed_iff hle).2 ⟨htime, hframe⟩⟩

end

theorem active_iff {r : Track} : r.active = true ↔ r.state ≠ .stopped := bne_iff_ne

theorem inMask_setWidth (mask : Byte) (v : VoiceNo) : inMask (mask.setWidth 6) v = mask.getLsbD v.val := by
  rw [inMask, BitVec.getLsbD_setWidth, decide_eq_true v.isLt, Bool.true_and]

/-! ## A started track -/

section
variable {k : TrackNo} {r : Track} {s : State}

theorem halting_of_stopped (h : s.tracks[k].state = .stopped) : halting k s = s :=
  if_neg fun hactive => active_iff.1 hactive h

theorem halting_eq (k : TrackNo) (s : State) :
    halting k s = { s with voices := (halting k s).voices, port := (halting k s).port, tracks := (halting k s).tracks } := by
  unfold halting
  split
  · rw [stopTrack_eq]
  · rfl

theorem flushFetch_partials (k : TrackNo) (s : State) : (flushFetch k s).port.partials[k] = [] := by
  rw [flushFetch, endGrant_eq]
  exact Vector.getElem_set_self ..

theorem flushFetch_grant (k : TrackNo) (s : State) : ∀ g ∈ (flushFetch k s).port.grant, g.holder ≠ .track k := by
  intro g hg
  rw [flushFetch, endGrant_eq] at hg
  exact of_decide_eq_true (Option.mem_filter_iff.1 hg).2

theorem startTrack_port (k : TrackNo) (r : Track) (s : State) :
    (startTrack k r s).port = (flushFetch k (setTrack k r (halting k s))).port :=
  congrArg (·.port) (startTrack_eq k r s)

theorem startTrack_outside (k : TrackNo) (r : Track) (s : State) :
    startTrack k r s =
      { s with tracks := (startTrack k r s).tracks, voices := (startTrack k r s).voices,
               port := (startTrack k r s).port } := by
  have hhalt := congrArg
    (fun u : State => ({ u with tracks := (startTrack k r s).tracks, voices := (startTrack k r s).voices,
                                port := (startTrack k r s).port } : State)) (halting_eq k s)
  have hstart := congrArg
    (fun u : State => ({ u with tracks := (startTrack k r s).tracks, voices := (startTrack k r s).voices,
                                port := (startTrack k r s).port } : State)) (startTrack_eq k r s)
  exact hstart.trans hhalt

theorem startTrack_home (k : TrackNo) (r : Track) (s : State) {v : VoiceNo} (h : inMask r.mask v = true) :
    (startTrack k r s).voices[v].home = some k := by
  rw [startTrack_voices, adopted_home, if_pos h]

theorem startTrack_voices_of_stopped (h : s.tracks[k].state = .stopped) (v : VoiceNo) :
    (startTrack k r s).voices[v] = if inMask r.mask v then s.voices[v].homed k else s.voices[v] := by
  rw [startTrack_voices, halting_of_stopped h, adopted]

/-! ## The tick that acts on no event (R124, R125) -/

theorem setTrack_setTrack (k : TrackNo) (q r : Track) (s : State) : setTrack k r (setTrack k q s) = setTrack k r s := by
  simp only [setTrack, Vector.set_set]

theorem setFault_of_same_cause (f : FaultFlag) {s t : State} (h : t.cause = s.cause) :
    setFault f t = { t with cause := (setFault f s).cause } :=
  (setFault_eq f t).trans (congrArg (fun c => ({ t with cause := c } : State)) (setFault_cause_congr f h))

theorem trackTick_of_waiting (h : s.tracks[k].state = .waiting) : trackTick k s = setFault .seqLate s := by
  simp only [trackTick, h]

theorem trackTick_of_wait {w : Nat} (h : s.tracks[k].state = .running) (hw : s.tracks[k].wait = some (w + 2)) :
    trackTick k s = setTrack k { s.tracks[k] with wait := some (w + 1) } s := by
  simp only [trackTick, h, hw]
  exact if_neg (by omega)

theorem canTick_of (hpow : powered s = true) (hactive : s.tracks[k].state ≠ .stopped) (hsource : sourceRuns s k = true) :
    canTick s k = true := by
  rw [canTick, hpow, active_iff.2 hactive, hsource]
  rfl

/-- The track as its divider has come to the end. -/
def divided (k : TrackNo) (s : State) : State := setTrack k { s.tracks[k] with divider := 0 } s

theorem divided_track (k : TrackNo) (s : State) : (divided k s).tracks[k] = { s.tracks[k] with divider := 0 } :=
  getElem_setTrack_self ..

theorem fullTick_def (k : TrackNo) (s : State) : fullTick k s = trackTick k (divided k s) := rfl

theorem fullTick_of_waiting (h : s.tracks[k].state = .waiting) :
    fullTick k s =
      { s with tracks := s.tracks.set k.val { s.tracks[k] with divider := 0 } k.isLt, cause := (setFault .seqLate s).cause } := by
  have hstate : (divided k s).tracks[k].state = .waiting := by rw [divided_track]; exact h
  rw [fullTick_def, trackTick_of_waiting hstate]
  exact setFault_of_same_cause .seqLate rfl

theorem fullTick_of_wait {w : Nat} (h : s.tracks[k].state = .running) (hw : s.tracks[k].wait = some (w + 2)) :
    fullTick k s = setTrack k { s.tracks[k] with divider := 0, wait := some (w + 1) } s := by
  have htrack := divided_track k s
  have hstate : (divided k s).tracks[k].state = .running := by rw [htrack]; exact h
  have hwait : (divided k s).tracks[k].wait = some (w + 2) := by rw [htrack]; exact hw
  rw [fullTick_def, trackTick_of_wait hstate hwait, htrack]
  exact setTrack_setTrack ..

end

/-- Settles O49: the refusals by the fields, and what start, stop and a tick without an event leave. -/
theorem tracksStartStopAndTick : Obligations.TracksStartStopAndTick := by
  intro b address mask source period k rest s start other bad shared begun r
  refine ⟨fun h => ⟨fun hbad => ?_, fun hgood hb hshared => ?_, fun hgood hb hshared => ?_⟩,
    fun h => ⟨fun hbad => ?_, fun hb hstopped => ?_, fun hb hactive => ?_⟩, fun hpow hsource => ⟨fun w hrun hwait => ?_, fun hwait => ?_⟩⟩
  · refine answers_of_same h rfl ?_
    rw [trackStartEffect, trackStartFields_of_bad hbad]
    rfl
  · refine answers_of_same h rfl ?_
    rw [trackStartEffect, trackStartFields_of_good hgood hb]
    exact if_pos ⟨active_iff.2 hshared.1, hshared.2⟩
  · have heffect : trackStartEffect b address mask source period (taken rest s) =
        replied .ok [] (startTrack k begun (taken rest s)) := by
      rw [trackStartEffect, trackStartFields_of_good hgood hb]
      exact if_neg fun ⟨hactive, hmask⟩ => hshared ⟨active_iff.1 hactive, hmask⟩
    have hframe := startTrack_outside k begun (taken rest s)
    have hrest := congrArg
      (fun u : State => ({ u with tracks := s.tracks, voices := s.voices, port := s.port, cmd := s.cmd } : State)) hframe
    refine ⟨_, answers_of_effect h rfl heffect (congrArg (·.cmd) hframe), startTrack_tracks_self .., ?_, ?_, ?_, ?_, ?_, ?_⟩
    · exact startTrack_tracks_ne (otherTrack_ne k) ..
    · exact (congrArg (·.partials[k]) (startTrack_port k begun (taken rest s))).trans (flushFetch_partials ..)
    · intro g hg
      have hg : g ∈ (startTrack k begun (taken rest s)).port.grant := hg
      rw [startTrack_port] at hg
      exact flushFetch_grant _ _ g hg
    · exact fun v hv => startTrack_home k begun _ ((inMask_setWidth mask v).trans hv)
    · intro hstopped v w owner
      have hv := startTrack_voices_of_stopped (r := begun) (s := taken rest s) hstopped v
      exact ⟨fun hin => hv.trans (if_pos ((inMask_setWidth mask v).trans hin)),
        fun hout => hv.trans (if_neg (ne_true_of_eq_false ((inMask_setWidth mask v).trans hout)))⟩
    · exact hrest
  · refine answers_of_same h rfl ?_
    rw [trackStopEffect, indexOf_eq_none.2 hbad]
    rfl
  · refine answers_of_same h rfl ?_
    rw [trackStopEffect, indexOf_eq_some.2 hb]
    exact congrArg (answer .ok) (if_neg fun hactive => active_iff.1 hactive hstopped)
  · have heffect : trackStopEffect b (taken rest s) = replied .ok [] (stopTrack k (taken rest s)) := by
      rw [trackStopEffect, indexOf_eq_some.2 hb]
      exact congrArg (answer .ok) (if_pos (active_iff.2 hactive))
    have hframe := stopTrack_eq k (taken rest s)
    have hgrant := stopTrack_grant k (taken rest s)
    have hpartials := stopTrack_partials k (taken rest s)
    have hvoices := stopTrack_voices k (taken rest s)
    generalize stopTrack k (taken rest s) = u at *
    have hcmd := congrArg (·.cmd) hframe
    have htracks := congrArg (·.tracks) hframe
    have hrest := congrArg
      (fun u : State => ({ u with tracks := s.tracks, voices := s.voices, port := s.port, cmd := s.cmd } : State)) hframe
    refine ⟨_, answers_of_effect h rfl heffect hcmd, htracks, ?_, fun g hg => (hgrant g hg).2, hvoices, hrest⟩
    exact (congrArg (·[k]) hpartials).trans (Vector.getElem_set_self ..)
  · refine (if_pos (canTick_of hpow (by rw [hrun]; exact TrackState.noConfusion) hsource)).trans ?_
    exact congrArg _ (fullTick_of_wait hrun hwait)
  · refine (if_pos (canTick_of hpow (by rw [hwait]; exact TrackState.noConfusion) hsource)).trans ?_
    exact congrArg _ (fullTick_of_waiting hwait)

end Sys2Proof.Proofs
end

section
/-! SUPPORT. An event is acted on at the tick that makes it due, and what follows it is loaded (O50). -/

namespace Sys2Proof.Proofs

open Sys2Proof.Machine Sys2Proof.Safety Sys2Proof.Laws

/-! ## What stands behind an event is loaded (R125) -/

section
variable {k : TrackNo} {e : Event} {tail : List Event} {n : Nat} {s : State}

/-- A track that runs on with its buffer's head to wait for, or WAITING where it has none. -/
def loaded (r : Track) : Track :=
  { r with wait := r.buffer.head?.map (fun f => f.delta.toNat), state := if r.buffer = [] then .waiting else .running }

theorem loadHead_of_stopped (h : s.tracks[k].state = .stopped) : loadHead n k s = s := by
  unfold loadHead
  exact if_pos h

theorem loadHead_of_empty (hactive : s.tracks[k].state ≠ .stopped) (h : s.tracks[k].buffer = []) :
    loadHead n k s = changeTrack k (fun r => { r with state := .waiting, wait := none }) s := by
  unfold loadHead
  rw [if_neg hactive, h]

theorem loadHead_of_delta {rest : List Event} (hactive : s.tracks[k].state ≠ .stopped) (h : s.tracks[k].buffer = e :: rest)
    (hdelta : e.delta ≠ 0) :
    loadHead n k s = changeTrack k (fun r => { r with state := .running, wait := some e.delta.toNat }) s := by
  unfold loadHead
  simp only [h, if_neg hactive, if_neg hdelta]

theorem loadHead_of_zero {rest : List Event} (hactive : s.tracks[k].state ≠ .stopped) (h : s.tracks[k].buffer = e :: rest)
    (hdelta : e.delta = 0) : loadHead (n + 1) k s = loadHead n k (actOnEvent k e rest s) := by
  rw [loadHead]
  simp only [h, if_neg hactive, if_pos hdelta]

theorem loadHead_of_settled (hactive : s.tracks[k].state ≠ .stopped) (h : ∀ f ∈ s.tracks[k].buffer.head?, f.delta ≠ 0) :
    loadHead n k s = setTrack k (loaded s.tracks[k]) s := by
  cases hbuffer : s.tracks[k].buffer with
  | nil =>
    rw [loadHead_of_empty hactive hbuffer]
    simp only [changeTrack, loaded, hbuffer]
    rfl
  | cons f rest =>
    rw [loadHead_of_delta hactive hbuffer (h f (by rw [hbuffer]; rfl))]
    simp only [changeTrack, loaded, hbuffer]
    rfl

/-! ## The tick that makes the head due -/

/-- The head event is due at the next tick (R125). -/
def HeadDue (k : TrackNo) (e : Event) (tail : List Event) (s : State) : Prop :=
  powered s = true ∧ sourceRuns s k = true ∧ s.tracks[k].state = .running ∧ s.tracks[k].wait = some 1 ∧
    s.tracks[k].buffer = e :: tail

/-- The track as the event is taken from its buffer. -/
def headTaken (r : Track) : Track :=
  { r with divider := 0, buffer := r.buffer.tail, nextAddr := r.nextAddr + 6, wait := none }

theorem fullTick_of_due (hrun : s.tracks[k].state = .running) (hwait : s.tracks[k].wait = some 1)
    (hbuffer : s.tracks[k].buffer = e :: tail) :
    fullTick k s = loadHead tail.length k (performEvent k e (setTrack k (headTaken s.tracks[k]) s)) := by
  rw [fullTick_def]
  simp only [trackTick, hrun, hwait, Nat.le_refl, if_true, actOnHead, setTrack, changeTrack, actOnEvent,
    getElem_setTrack_self, hbuffer, divided, Vector.set_set, headTaken, List.tail_cons]

theorem dueEvent_of_due {kind : Event → Bool} (h : HeadDue k e tail s) (hkind : kind e = true) :
    dueEvent k kind s = .next (fullTick k s) := by
  obtain ⟨hpow, hsource, hrun, hwait, hbuffer⟩ := h
  have hcan := canTick_of hpow (by rw [hrun]; exact TrackState.noConfusion) hsource
  refine if_pos ?_
  simp only [headDue, hcan, hrun, hwait, hbuffer, hkind, beq_self_eq_true, Bool.and_self]

theorem exec_trackTick_of_due (h : HeadDue k e tail s) : exec (.trackTick k) s = .next (fullTick k s) := by
  obtain ⟨hpow, hsource, hrun, -⟩ := h
  exact if_pos (canTick_of hpow (by rw [hrun]; exact TrackState.noConfusion) hsource)

/-- The rows of the known kinds. -/
def eventRows (k : TrackNo) : List (Byte × Instr) :=
  [(0, .endEvent k), (1, .noteEvent k), (2, .offEvent k), (3, .instrEvent k), (4, .volEvent k), (5, .pitchEvent k),
   (6, .tempoEvent k), (7, .loopEvent k), (8, .backEvent k), (9, .markerEvent k)]

theorem exec_row_of_due {c : Instr} (hrow : (e.kind, c) ∈ eventRows k) (h : HeadDue k e tail s) :
    exec c s = .next (fullTick k s) := by
  simp only [eventRows, List.mem_cons, Prod.mk.injEq, List.not_mem_nil, or_false] at hrow
  rcases hrow with ⟨hk, rfl⟩ | ⟨hk, rfl⟩ | ⟨hk, rfl⟩ | ⟨hk, rfl⟩ | ⟨hk, rfl⟩ | ⟨hk, rfl⟩ | ⟨hk, rfl⟩ | ⟨hk, rfl⟩ |
    ⟨hk, rfl⟩ | ⟨hk, rfl⟩
  all_goals exact dueEvent_of_due h (beq_iff_eq.2 hk)

theorem kind_le_of_row {c : Instr} (hrow : (e.kind, c) ∈ eventRows k) : e.kind.toNat ≤ 9 := by
  simp only [eventRows, List.mem_cons, Prod.mk.injEq, List.not_mem_nil, or_false] at hrow
  rcases hrow with ⟨hk, -⟩ | ⟨hk, -⟩ | ⟨hk, -⟩ | ⟨hk, -⟩ | ⟨hk, -⟩ | ⟨hk, -⟩ | ⟨hk, -⟩ | ⟨hk, -⟩ | ⟨hk, -⟩ | ⟨hk, -⟩
  all_goals
    rw [hk]
    decide

theorem exec_unknownEvent_of_due (hkind : 9 < e.kind.toNat) (h : HeadDue k e tail s) :
    exec (.unknownEvent k) s = .next (fullTick k s) := dueEvent_of_due h (decide_eq_true hkind)

end

/-! ## What each kind does (R126 to R129) -/

section
variable {k : TrackNo} {e : Event} {s : State}

theorem performEvent_end (h : e.kind = 0) : performEvent k e s = stopTrack k s := by
  simp [performEvent, h]

theorem performEvent_note (h : e.kind = 1) : performEvent k e s = voiceRequest k e (noteRequest e) s := by
  simp [performEvent, h]

theorem performEvent_off (h : e.kind = 2) : performEvent k e s = voiceRequest k e releaseVoice s := by
  simp [performEvent, h]

/-- A voice's record changed in place. -/
def tuneVoice (g : Voice → Voice) (n : VoiceNo) (s : State) : State := setVoice n (g s.voices[n]) s

theorem performEvent_instr (h : e.kind = 3) :
    performEvent k e s = voiceRequest k e (tuneVoice fun v => { v with selected := e.value.toNat % 16 }) s := by
  simp [performEvent, h, voiceRequest, tuneVoice]

theorem performEvent_vol (h : e.kind = 4) :
    performEvent k e s = voiceRequest k e (tuneVoice fun v => { v with volume := min e.extra.toNat 15 }) s := by
  simp [performEvent, h, voiceRequest, tuneVoice]

theorem performEvent_pitch (h : e.kind = 5) :
    performEvent k e s = voiceRequest k e (tuneVoice fun v => { v with increment := e.value.toNat }) s := by
  simp [performEvent, h, voiceRequest, tuneVoice]

theorem performEvent_tempo (h : e.kind = 6) :
    performEvent k e s = changeTrack k (fun r => { r with period := tempoPeriod r.source e.value.toNat }) s := by
  simp [performEvent, h]

theorem performEvent_loop (h : e.kind = 7) : performEvent k e s = changeTrack k (loopRequest e) s := by
  simp [performEvent, h]

theorem performEvent_back (h : e.kind = 8) : performEvent k e s = backRequest k s := by
  simp [performEvent, h]

theorem performEvent_marker (h : e.kind = 9) : performEvent k e s = markerRequest k e s := by
  simp [performEvent, h]

theorem performEvent_unknown (h : 9 < e.kind.toNat) : performEvent k e s = stopTrack k (setFault .badEvent s) := by
  unfold performEvent
  split
  case h_11 => rfl
  all_goals omega

end

/-! ## An event's work and the track's record -/

section
variable {k : TrackNo} {q : Track} {e : Event} {s : State}

theorem setTrack_get (k : TrackNo) (q : Track) (s : State) : (setTrack k q s).tracks[k] = q := getElem_setTrack_self ..

theorem changeTrack_setTrack (f : Track → Track) : changeTrack k f (setTrack k q s) = setTrack k (f q) s := by
  rw [changeTrack, setTrack_get, setTrack_setTrack]

theorem setFault_setTrack (f : FaultFlag) : setFault f (setTrack k q s) = setTrack k q (setFault f s) := by
  rw [setFault_of_same_cause f (s := s) (t := setTrack k q s) rfl, setFault_eq f s]
  rfl

theorem putVoice_setTrack (n : VoiceNo) (v : Voice) : putVoice n v (setTrack k q s) = setTrack k q (putVoice n v s) := by
  unfold putVoice
  split <;> rfl

theorem releaseVoice_setTrack (n : VoiceNo) : releaseVoice n (setTrack k q s) = setTrack k q (releaseVoice n s) :=
  putVoice_setTrack n s.voices[n].releaseRequest

theorem noteRequest_setTrack (n : VoiceNo) : noteRequest e n (setTrack k q s) = setTrack k q (noteRequest e n s) := by
  cases hrecord : instrumentOf s s.voices[n].selected with
  | none =>
    have hinvalid : instrumentOf (setTrack k q s) (setTrack k q s).voices[n].selected = none := hrecord
    simp only [noteRequest, startNote_of_invalid hrecord, startNote_of_invalid hinvalid]
    exact setFault_setTrack _
  | some snap =>
    have hvalid : instrumentOf (setTrack k q s) (setTrack k q s).voices[n].selected = some snap := hrecord
    simp only [noteRequest, startNote_of_record hrecord, startNote_of_record hvalid]
    rfl

theorem voiceRequest_setTrack {request : VoiceNo → State → State}
    (h : ∀ n s, request n (setTrack k q s) = setTrack k q (request n s)) :
    voiceRequest k e request (setTrack k q s) = setTrack k q (voiceRequest k e request s) := by
  unfold voiceRequest
  split
  · exact setFault_setTrack _
  · rw [h]
    exact (apply_ite (setTrack k q) ..).symm

theorem tuneVoice_setTrack (g : Voice → Voice) (n : VoiceNo) (s : State) :
    tuneVoice g n (setTrack k q s) = setTrack k q (tuneVoice g n s) := rfl

/-- A voice event leaves the track's record to what reads it next. -/
theorem performEvent_setTrack_of_voice (hlow : 1 ≤ e.kind.toNat) (hhigh : e.kind.toNat ≤ 5) :
    performEvent k e (setTrack k q s) = setTrack k q (performEvent k e s) := by
  have hcases : e.kind = 1 ∨ e.kind = 2 ∨ e.kind = 3 ∨ e.kind = 4 ∨ e.kind = 5 := by
    simp only [← BitVec.toNat_inj]
    simp
    omega
  rcases hcases with h | h | h | h | h
  · rw [performEvent_note h, performEvent_note h, voiceRequest_setTrack fun n s => noteRequest_setTrack n]
  · rw [performEvent_off h, performEvent_off h, voiceRequest_setTrack fun n s => releaseVoice_setTrack n]
  · rw [performEvent_instr h, performEvent_instr h, voiceRequest_setTrack (tuneVoice_setTrack _)]
  · rw [performEvent_vol h, performEvent_vol h, voiceRequest_setTrack (tuneVoice_setTrack _)]
  · rw [performEvent_pitch h, performEvent_pitch h, voiceRequest_setTrack (tuneVoice_setTrack _)]

theorem dismissVoice_setTrack (n : VoiceNo) : dismissVoice k (setTrack k q s) n = setTrack k q (dismissVoice k s n) := by
  unfold dismissVoice
  simp only
  rw [releaseVoice_setTrack, show (setTrack k q s).voices = s.voices from rfl]
  rw [← apply_ite (setTrack k q)]
  generalize (if s.voices[n].owner = .track k then releaseVoice n s else s) = t
  by_cases h : t.voices[n].home = some k
  · rw [if_pos h]
    exact if_pos h
  · rw [if_neg h]
    exact if_neg h

theorem dismissAll_setTrack : dismissAll k (setTrack k q s) = setTrack k q (dismissAll k s) := by
  have hfold (l : List VoiceNo) (s : State) :
      l.foldl (dismissVoice k) (setTrack k q s) = setTrack k q (l.foldl (dismissVoice k) s) := by
    induction l generalizing s with
    | nil => rfl
    | cons n l ih => rw [List.foldl_cons, List.foldl_cons, dismissVoice_setTrack, ih]
  exact hfold allVoices s

theorem stopTrack_setTrack : stopTrack k (setTrack k q s) = flushFetch k (setTrack k (halted q) (dismissAll k s)) := by
  rw [stopTrack_def, dismissAll_setTrack, changeTrack_setTrack]

/-- The track after a BACK that jumps (R128). -/
def jumped (m : LoopMark) (r : Track) : Track :=
  { r with nextAddr := m.addr, fetchAddr := m.addr, buffer := [], wait := none,
           loopMark := some { m with remaining := if m.forever then m.remaining else m.remaining - 1 } }

theorem backRequest_of_none (h : q.loopMark = none) : backRequest k (setTrack k q s) = setTrack k q s := by
  simp only [backRequest, setTrack_get, h]

theorem backRequest_of_jump {m : LoopMark} (h : q.loopMark = some m) (hm : m.forever = true ∨ 0 < m.remaining) :
    backRequest k (setTrack k q s) = flushFetch k (setTrack k (jumped m q) s) := by
  simp only [backRequest, setTrack_get, h]
  rw [if_pos hm, jumpBack, changeTrack_setTrack]
  rfl

theorem backRequest_of_done {m : LoopMark} (h : q.loopMark = some m) (hm : ¬(m.forever = true ∨ 0 < m.remaining)) :
    backRequest k (setTrack k q s) = setTrack k { q with loopMark := none } s := by
  simp only [backRequest, setTrack_get, h]
  rw [if_neg hm, changeTrack_setTrack]

/-! ## A marker (R129) -/

theorem latchMarker_eq (k : TrackNo) (s : State) : latchMarker k s = { s with cause := (latchMarker k s).cause } := by
  unfold latchMarker
  split <;> rfl

theorem latchMarker_cause (k : TrackNo) (s : State) :
    { (latchMarker k s).cause with latches := s.cause.latches } = s.cause := by
  unfold latchMarker
  split <;> rfl

theorem latchMarker_congr (k : TrackNo) {s t : State} (h : t.cause = s.cause) :
    (latchMarker k t).cause = (latchMarker k s).cause := by
  unfold latchMarker enabled
  rw [h]
  split
  · rfl
  · exact h

theorem latchMarker_setTrack : latchMarker k (setTrack k q s) = setTrack k q (latchMarker k s) := by
  have hcause := latchMarker_congr k (s := s) (t := setTrack k q s) rfl
  rw [latchMarker_eq k (setTrack k q s), hcause, latchMarker_eq k s]
  rfl

theorem raised_latchMarker_self (k : TrackNo) (s : State) :
    (Cause.marker k).raised (latchMarker k s) = (enabled .marker s || (Cause.marker k).raised s) := by
  unfold latchMarker
  split
  next h =>
    rw [h, Bool.true_or]
    by_cases hk : k = 0
    · simp [Cause.raised, hk]
    · simp [Cause.raised, hk]
  next h => rw [eq_false_of_ne_true h, Bool.false_or]

theorem raised_latchMarker_of_ne {d : Cause} (h : d ≠ .marker k) (s : State) : d.raised (latchMarker k s) = d.raised s := by
  unfold latchMarker
  split
  next =>
    cases d with
    | marker j =>
      have hj : j = otherTrack k := eq_otherTrack fun hj => h (by rw [hj])
      subst hj
      by_cases hk : k = 0
      · simp [Cause.raised, otherTrack, hk]
      · simp [Cause.raised, otherTrack, hk]
    | fault | frameLost | rumbleEnd =>
      by_cases hk : k = 0
      · simp [Cause.raised, hk]
      · simp [Cause.raised, hk]
    | save | cue | warn => rfl
  next => rfl

theorem markerRequest_setTrack :
    markerRequest k e (setTrack k q s) = setTrack k { q with marker := e.extra } (latchMarker k s) := by
  rw [markerRequest, changeTrack_setTrack, latchMarker_setTrack]

/-! ## An event does not read what stands behind it -/

/-- The track with a buffer of its own. -/
def withBuffer (b : List Event) (r : Track) : Track := { r with buffer := b }

/-- The track's record but for what its next event changes of it. -/
def SameCourse (q g : Track) : Prop := g.state = q.state ∧ g.divider = q.divider ∧ g.source = q.source

/-- The states differ in the voices, the ROM port and the interrupt unit alone. -/
def VoiceSide (s u : State) : Prop := u = { s with voices := u.voices, port := u.port, cause := u.cause }

theorem voiceSide_of_cause {s u : State} (h : u = { s with cause := u.cause }) : VoiceSide s u := by
  rw [VoiceSide, h]

theorem voiceSide_setFault (f : FaultFlag) (s : State) : VoiceSide s (setFault f s) := voiceSide_of_cause (setFault_eq f s)

theorem voiceSide_setVoice (n : VoiceNo) (v : Voice) (s : State) : VoiceSide s (setVoice n v s) := rfl

theorem voiceSide_putVoice (n : VoiceNo) (v : Voice) (s : State) : VoiceSide s (putVoice n v s) := by
  unfold putVoice
  split <;> rfl

theorem voiceSide_noteRequest (e : Event) (n : VoiceNo) (s : State) : VoiceSide s (noteRequest e n s) := by
  cases hrecord : instrumentOf s s.voices[n].selected with
  | none =>
    simp only [noteRequest, startNote_of_invalid hrecord]
    exact voiceSide_setFault ..
  | some snap =>
    simp only [noteRequest, startNote_of_record hrecord]
    rfl

theorem voiceSide_voiceRequest {request : VoiceNo → State → State} (h : ∀ n s, VoiceSide s (request n s)) (k : TrackNo)
    (e : Event) (s : State) : VoiceSide s (voiceRequest k e request s) := by
  unfold voiceRequest
  split
  · exact voiceSide_setFault ..
  · split
    · exact h ..
    · rfl

theorem kind_voice (hlow : 1 ≤ e.kind.toNat) (hhigh : e.kind.toNat ≤ 5) :
    e.kind = 1 ∨ e.kind = 2 ∨ e.kind = 3 ∨ e.kind = 4 ∨ e.kind = 5 := by
  simp only [← BitVec.toNat_inj]
  simp
  omega

theorem kind_track (hhigh : e.kind.toNat ≤ 9) (h : ¬(1 ≤ e.kind.toNat ∧ e.kind.toNat ≤ 5)) :
    e.kind = 0 ∨ e.kind = 6 ∨ e.kind = 7 ∨ e.kind = 8 ∨ e.kind = 9 := by
  simp only [← BitVec.toNat_inj]
  simp
  omega

theorem voiceSide_performEvent_of_voice (hlow : 1 ≤ e.kind.toNat) (hhigh : e.kind.toNat ≤ 5) :
    VoiceSide s (performEvent k e s) := by
  rcases kind_voice hlow hhigh with h | h | h | h | h
  · rw [performEvent_note h]
    exact voiceSide_voiceRequest (voiceSide_noteRequest e) ..
  · rw [performEvent_off h]
    exact voiceSide_voiceRequest (fun n s => voiceSide_putVoice n s.voices[n].releaseRequest s) ..
  · rw [performEvent_instr h]
    exact voiceSide_voiceRequest (fun n s => voiceSide_setVoice n _ s) ..
  · rw [performEvent_vol h]
    exact voiceSide_voiceRequest (fun n s => voiceSide_setVoice n _ s) ..
  · rw [performEvent_pitch h]
    exact voiceSide_voiceRequest (fun n s => voiceSide_setVoice n _ s) ..

theorem flushFetch_tracks (k : TrackNo) (s : State) : (flushFetch k s).tracks = s.tracks := rfl

theorem flushed_buffer (k : TrackNo) (q : Track) (s : State) :
    (flushFetch k (setTrack k q s)).tracks[k].buffer = q.buffer := by
  rw [flushFetch_tracks, setTrack_get]

/-- Whatever stands behind an event of a known kind, it leaves the buffer as it is, or empties it. -/
theorem performEvent_buffer (hkind : e.kind.toNat ≤ 9) (k : TrackNo) (q : Track) (s : State) :
    (∃ g u, SameCourse q g ∧ VoiceSide s u ∧
      ∀ b, performEvent k e (setTrack k (withBuffer b q) s) = setTrack k (withBuffer b g) u) ∨
    ∃ w, w.tracks[k].buffer = [] ∧ ∀ b, performEvent k e (setTrack k (withBuffer b q) s) = w := by
  by_cases hvoice : 1 ≤ e.kind.toNat ∧ e.kind.toNat ≤ 5
  · obtain ⟨hlow, hhigh⟩ := hvoice
    exact .inl ⟨q, performEvent k e s, ⟨rfl, rfl, rfl⟩, voiceSide_performEvent_of_voice hlow hhigh,
      fun b => performEvent_setTrack_of_voice hlow hhigh⟩
  rcases kind_track hkind hvoice with h | h | h | h | h
  · refine .inr ⟨_, flushed_buffer k (halted q) (dismissAll k s), fun b => ?_⟩
    rw [performEvent_end h, stopTrack_setTrack]
    rfl
  · refine .inl ⟨{ q with period := tempoPeriod q.source e.value.toNat }, s, ⟨rfl, rfl, rfl⟩, rfl, fun b => ?_⟩
    rw [performEvent_tempo h, changeTrack_setTrack]
    rfl
  · refine .inl ⟨loopRequest e q, s, ⟨rfl, rfl, rfl⟩, rfl, fun b => ?_⟩
    rw [performEvent_loop h, changeTrack_setTrack]
    rfl
  · obtain hmark | ⟨m, hmark⟩ := Option.eq_none_or_eq_some q.loopMark
    · refine .inl ⟨q, s, ⟨rfl, rfl, rfl⟩, rfl, fun b => ?_⟩
      rw [performEvent_back h, backRequest_of_none (by exact hmark)]
    · by_cases hm : m.forever = true ∨ 0 < m.remaining
      · refine .inr ⟨_, flushed_buffer k (jumped m q) s, fun b => ?_⟩
        rw [performEvent_back h, backRequest_of_jump (by exact hmark) hm]
        rfl
      · refine .inl ⟨{ q with loopMark := none }, s, ⟨rfl, rfl, rfl⟩, rfl, fun b => ?_⟩
        rw [performEvent_back h, backRequest_of_done (by exact hmark) hm]
        rfl
  · refine .inl ⟨{ q with marker := e.extra }, latchMarker k s, ⟨rfl, rfl, rfl⟩, voiceSide_of_cause (latchMarker_eq k s), fun b => ?_⟩
    rw [performEvent_marker h, markerRequest_setTrack]
    rfl

theorem loadHead_buffer_of_empty {n : Nat} (h : s.tracks[k].buffer = []) : (loadHead n k s).tracks[k].buffer = [] := by
  by_cases hstopped : s.tracks[k].state = .stopped
  · rw [loadHead_of_stopped hstopped, h]
  · rw [loadHead_of_empty hstopped h, changeTrack, setTrack_get]
    exact h

/-- The sources of the tracks' ticks are not of the voice side. -/
theorem VoiceSide.canTick {u : State} {g : Track} (h : VoiceSide s u) (hpow : powered s = true)
    (hsource : sourceRuns (setTrack k q s) k = true) (hrun : g.state = .running) (hsame : g.source = q.source) :
    canTick (setTrack k g u) k = true := by
  refine canTick_of (by rw [h]; exact hpow) (by rw [setTrack_get, hrun]; exact TrackState.noConfusion) ?_
  unfold sourceRuns at hsource ⊢
  rw [setTrack_get] at hsource ⊢
  rw [hsame, h]
  exact hsource

end

end Sys2Proof.Proofs
end

section
/-! The events at the tick that makes them due (O50). -/

namespace Sys2Proof.Proofs

open Sys2Proof.Machine Sys2Proof.Safety Sys2Proof.Laws

section
variable {k : TrackNo} {e : Event} {tail : List Event} {n : VoiceNo} {s : State}

theorem sourceRuns_iff :
    sourceRuns s k = true ↔
      (s.tracks[k].source = .time ∧ powered s = true ∧ s.crystal.running = true) ∨
      (s.tracks[k].source = .frame ∧ answered s = true ∧ (s.frame.state = .present ∨
        s.frame.state = .lost ∧ s.frame.mode = .coast ∧ s.crystal.running = true)) := by
  unfold sourceRuns
  generalize s.tracks[k].source = source
  cases source with
  | time => simp [ticking]
  | frame =>
    have hpow := @powered_of_answered s
    simp only [framesGiven, ticking, Bool.and_eq_true, Bool.or_eq_true, beq_iff_eq, true_and, and_assoc]
    constructor
    · rintro ⟨hans, hpresent | ⟨hlost, hcoast, -, hruns⟩⟩
      · exact .inr ⟨hans, .inl hpresent⟩
      · exact .inr ⟨hans, .inr ⟨hlost, hcoast, hruns⟩⟩
    · rintro (⟨htime, -⟩ | ⟨hans, hpresent | ⟨hlost, hcoast, hruns⟩⟩)
      · nomatch htime
      · exact ⟨hans, .inl hpresent⟩
      · exact ⟨hans, .inr ⟨hlost, hcoast, hpow hans, hruns⟩⟩

/-! ## The event and what it leaves -/

theorem HeadDue.taken_buffer (h : HeadDue k e tail s) : (headTaken s.tracks[k]).buffer = tail := by
  obtain ⟨-, -, -, -, hbuffer⟩ := h
  rw [headTaken, hbuffer, List.tail_cons]

theorem HeadDue.fullTick (h : HeadDue k e tail s) :
    Machine.fullTick k s = loadHead tail.length k (performEvent k e (setTrack k (headTaken s.tracks[k]) s)) := by
  obtain ⟨-, -, hrun, hwait, hbuffer⟩ := h
  exact fullTick_of_due hrun hwait hbuffer

theorem HeadDue.taken_running (h : HeadDue k e tail s) : (headTaken s.tracks[k]).state = .running := by
  obtain ⟨-, -, hrun, -⟩ := h
  exact hrun

/-- An event that leaves its track running and its buffer as it is: the track goes on to what follows. -/
theorem fullTick_of_going {g : Track} {u : State} (h : HeadDue k e tail s) (hsettled : ∀ f ∈ tail.head?, f.delta ≠ 0)
    (hperform : performEvent k e (setTrack k (headTaken s.tracks[k]) s) = setTrack k g u) (hrun : g.state = .running)
    (hbuffer : g.buffer = tail) : fullTick k s = setTrack k (loaded g) u := by
  have hget := setTrack_get k g u
  rw [h.fullTick, hperform, loadHead_of_settled (by rw [hget, hrun]; exact TrackState.noConfusion)
    (by rw [hget, hbuffer]; exact hsettled), hget, setTrack_setTrack]

theorem fullTick_of_voice (h : HeadDue k e tail s) (hsettled : ∀ f ∈ tail.head?, f.delta ≠ 0)
    (hlow : 1 ≤ e.kind.toNat) (hhigh : e.kind.toNat ≤ 5) :
    fullTick k s = setTrack k (loaded (headTaken s.tracks[k])) (performEvent k e s) :=
  fullTick_of_going h hsettled (performEvent_setTrack_of_voice hlow hhigh) h.taken_running h.taken_buffer

/-- The event with a delta of 1. -/
def atOnce (f : Event) : Event := { f with delta := 1 }

/-- A next event of delta 0 is acted on as one of delta 1 is at the tick after. -/
theorem loadHead_eq_fullTick {f : Event} {rest : List Event} {g : Track} {v : State} (hrun : g.state = .running)
    (hzero : g.divider = 0) (hdelta : f.delta = 0) :
    loadHead (f :: rest).length k (setTrack k (withBuffer (f :: rest) g) v) =
      fullTick k (setTrack k (loaded (withBuffer (atOnce f :: rest) g)) v) := by
  have hnow := setTrack_get k (withBuffer (f :: rest) g) v
  have hwaits := setTrack_get k (loaded (withBuffer (atOnce f :: rest) g)) v
  have hnext : headTaken (loaded (withBuffer (atOnce f :: rest) g)) =
      { withBuffer rest g with wait := none, nextAddr := g.nextAddr + 6 } := by
    simp [headTaken, loaded, withBuffer, hzero, hrun]
  rw [fullTick_of_due (e := atOnce f) (tail := rest) (by rw [hwaits]; rfl) (by rw [hwaits]; rfl) (by rw [hwaits]; rfl),
    hwaits, setTrack_setTrack, hnext, List.length_cons,
    loadHead_of_zero (by rw [hnow]; exact fun h => nomatch hrun.symm.trans h) (by rw [hnow]; rfl) hdelta, actOnEvent,
    changeTrack_setTrack]
  rfl

theorem loadHead_atOnce {f : Event} {rest : List Event} {g : Track} {v : State} {n : Nat} (hrun : g.state = .running) :
    loadHead n k (setTrack k (withBuffer (atOnce f :: rest) g) v) =
      setTrack k (loaded (withBuffer (atOnce f :: rest) g)) v := by
  have hget := setTrack_get k (withBuffer (atOnce f :: rest) g) v
  rw [loadHead_of_settled (by rw [hget]; exact fun h => nomatch hrun.symm.trans h) ?_, hget, setTrack_setTrack]
  rw [hget]
  rintro _ ⟨⟩
  simp [atOnce]

theorem HeadDue.atOnce {f : Event} {rest : List Event} (h : HeadDue k e (f :: rest) s) :
    HeadDue k e (Proofs.atOnce f :: rest) (setTrack k (withBuffer (e :: Proofs.atOnce f :: rest) s.tracks[k]) s) := by
  obtain ⟨hpow, hsource, hrun, hwait, -⟩ := h
  have hget := setTrack_get k (withBuffer (e :: Proofs.atOnce f :: rest) s.tracks[k]) s
  refine ⟨hpow, ?_, ?_, ?_, ?_⟩
  · unfold sourceRuns at hsource ⊢
    rw [hget]
    exact hsource
  all_goals rw [hget]
  · exact hrun
  · exact hwait
  · rfl

/-- With a next event of delta 0 behind it, an event is acted on as with one of delta 1, and the next at the tick after. -/
theorem next_due_event {c : Instr} {f : Event} {rest : List Event} {u : State} (hrow : (e.kind, c) ∈ eventRows k)
    (h : HeadDue k e (f :: rest) s) (hdelta : f.delta = 0)
    (hexec : exec c (setTrack k (withBuffer (e :: atOnce f :: rest) s.tracks[k]) s) = .next u) :
    (u.tracks[k].buffer = [] → exec c s = .next u) ∧ (u.tracks[k].buffer ≠ [] → exec c s = exec (.trackTick k) u) := by
  have hget := setTrack_get k (withBuffer (e :: atOnce f :: rest) s.tracks[k]) s
  have hu := h.atOnce.fullTick.symm.trans (Host.Outcome.next.inj ((exec_row_of_due hrow h.atOnce).symm.trans hexec))
  rw [hget, setTrack_setTrack] at hu
  have htaken : headTaken s.tracks[k] = withBuffer (f :: rest) (headTaken s.tracks[k]) := by
    rw [withBuffer, ← h.taken_buffer]
  have hdelayed : headTaken (withBuffer (e :: atOnce f :: rest) s.tracks[k]) =
      withBuffer (atOnce f :: rest) (headTaken s.tracks[k]) := rfl
  rw [exec_row_of_due hrow h, h.fullTick, htaken]
  rw [hdelayed] at hu
  obtain ⟨g, v, ⟨hstate, hdivider, hsame⟩, hside, hperform⟩ | ⟨w, hempty, hperform⟩ :=
    performEvent_buffer (kind_le_of_row hrow) k (headTaken s.tracks[k]) s
  · have hrun : g.state = .running := hstate.trans h.taken_running
    rw [hperform, loadHead_atOnce hrun] at hu
    rw [hperform, loadHead_eq_fullTick hrun hdivider hdelta]
    subst hu
    have hload := setTrack_get k (loaded (withBuffer (atOnce f :: rest) g)) v
    obtain ⟨hpow, hsource, -⟩ := h.atOnce
    have hcan := hside.canTick hpow hsource (g := loaded (withBuffer (atOnce f :: rest) g)) rfl hsame
    refine ⟨fun hnil => ?_, fun _ => (if_pos hcan).symm⟩
    rw [hload] at hnil
    nomatch hnil
  · rw [hperform] at hu ⊢
    refine ⟨fun _ => congrArg _ hu, fun hne => absurd ?_ hne⟩
    rw [← hu]
    exact loadHead_buffer_of_empty hempty

theorem loaded_of_buffer {q : Track} (h : q.buffer = tail) :
    loaded q = { q with buffer := tail, wait := tail.head?.map (fun f => f.delta.toNat),
                        state := if tail = [] then .waiting else .running } := by
  subst h
  rfl

/-! ## BACK with a jump, END and the unknown kinds -/

theorem fullTick_of_jump {m : LoopMark} (h : HeadDue k e tail s) (hkind : e.kind = 8)
    (hmark : s.tracks[k].loopMark = some m) (hm : m.forever = true ∨ 0 < m.remaining) :
    fullTick k s =
      setTrack k { jumped m (headTaken s.tracks[k]) with state := .waiting }
        (flushFetch k (setTrack k (jumped m (headTaken s.tracks[k])) s)) := by
  have hget : (flushFetch k (setTrack k (jumped m (headTaken s.tracks[k])) s)).tracks[k] = jumped m (headTaken s.tracks[k]) :=
    setTrack_get ..
  have hrun := h.taken_running
  rw [h.fullTick, performEvent_back hkind, backRequest_of_jump (by exact hmark) hm,
    loadHead_of_empty (by rw [hget]; exact fun hs => nomatch hrun.symm.trans hs) (by rw [hget]; rfl), changeTrack, hget]
  rfl

theorem fullTick_of_stop {u : State} (h : HeadDue k e tail s)
    (hperform : performEvent k e (setTrack k (headTaken s.tracks[k]) s) = stopTrack k u) : fullTick k s = stopTrack k u := by
  rw [h.fullTick, hperform]
  refine loadHead_of_stopped ?_
  rw [stopTrack_tracks_self]
  rfl

/-- What the stop of the track, its event taken, leaves of the sound side. -/
structure Stopped (k : TrackNo) (s t : State) : Prop where
  tracks : t.tracks = s.tracks.set k.val (halted (headTaken s.tracks[k])) k.isLt
  voices : ∀ v : VoiceNo, t.voices[v] = leftBy k s.voices[v]
  partials : t.port.partials[k] = []
  grant : ∀ g ∈ t.port.grant, g.holder ≠ .track k

theorem stopped_stopTrack {u : State} (htracks : u.tracks = s.tracks.set k.val (headTaken s.tracks[k]) k.isLt)
    (hvoices : u.voices = s.voices) : Stopped k s (stopTrack k u) := by
  have hget : u.tracks[k] = headTaken s.tracks[k] := by
    rw [htracks]
    exact getElem_setTrack_self ..
  refine ⟨?_, fun v => ?_, ?_, fun g hg => (stopTrack_grant k u g hg).2⟩
  · refine (congrArg (·.tracks) (stopTrack_eq k u)).trans ?_
    simp only
    rw [hget, htracks, Vector.set_set]
  · rw [stopTrack_voices, hvoices]
  · exact (congrArg (·[k]) (stopTrack_partials k u)).trans (Vector.getElem_set_self ..)

/-! ## Voice events (R126) -/

theorem voiceRequest_of_bad {request : VoiceNo → State → State} (h : 5 < e.voice.toNat) :
    voiceRequest k e request s = setFault .badEvent s := by
  simp only [voiceRequest, indexOf_eq_none.2 (Nat.succ_le_of_lt h)]

theorem voiceRequest_of_other {request : VoiceNo → State → State} (hn : e.voice.toNat = n.val)
    (h : s.voices[n].owner ≠ .track k) : voiceRequest k e request s = s := by
  simp only [voiceRequest, indexOf_eq_some.2 hn, if_neg h]

theorem voiceRequest_of_mine {request : VoiceNo → State → State} (hn : e.voice.toNat = n.val)
    (h : s.voices[n].owner = .track k) : voiceRequest k e request s = request n s := by
  simp only [voiceRequest, indexOf_eq_some.2 hn, if_pos h]

/-- A voice event is a request to the voice that it names. -/
theorem performEvent_of_voice (hlow : 1 ≤ e.kind.toNat) (hhigh : e.kind.toNat ≤ 5) (k : TrackNo) :
    ∃ request, ∀ s, performEvent k e s = voiceRequest k e request s := by
  rcases kind_voice hlow hhigh with h | h | h | h | h
  · exact ⟨_, fun s => performEvent_note h⟩
  · exact ⟨_, fun s => performEvent_off h⟩
  · exact ⟨_, fun s => performEvent_instr h⟩
  · exact ⟨_, fun s => performEvent_vol h⟩
  · exact ⟨_, fun s => performEvent_pitch h⟩

theorem noteRequest_of_record {snap : Snapshot} (h : instrumentOf s s.voices[n].selected = some snap) :
    noteRequest e n s = endGrant (.voice n)
      (setVoice n (s.voices[n].noteOn s.voices[n].selected snap e.value.toNat (min e.extra.toNat 15)) s) := by
  simp only [noteRequest, startNote_of_record h]
  rfl

theorem noteRequest_of_invalid (h : instrumentOf s s.voices[n].selected = none) :
    noteRequest e n s = setFault .badEvent s := by
  simp only [noteRequest, startNote_of_invalid h]

theorem releaseVoice_of_idle (h : s.voices[n].phase = .idle) (hfree : ∀ g ∈ s.port.grant, g.holder ≠ .voice n) :
    releaseVoice n s = s := by
  have hrequest : s.voices[n].releaseRequest = s.voices[n] := by simp only [Voice.releaseRequest, h]
  rw [releaseVoice, hrequest, putVoice_of_idle h, setVoice_self, endGrant_of_not_held hfree]

theorem endGrant_ungranted (x : Holder) (s : State) :
    (∀ g ∈ (endGrant x s).port.grant, g.holder ≠ x) ∧ (endGrant x s).port.partials = s.port.partials := by
  rw [endGrant_eq]
  exact ⟨fun g hg => of_decide_eq_true (Option.mem_filter_iff.1 hg).2, rfl⟩

theorem tempoPeriod_eq (source : Source) (v : Nat) :
    tempoPeriod source v = if source = .time then max 16 v else max 1 (min 16 v) := by
  cases source <;> rfl

theorem raised_setTrack (d : Cause) (q : Track) (u : State) : d.raised (setTrack k q u) = d.raised u := by
  cases d <;> rfl

end

/-- Settles O50: the tick that makes the head due takes it (`fullTick_of_due`), the event's kind says what it does, and
what stands behind it is loaded; no known kind reads what stands behind it (`performEvent_buffer`). -/
theorem eventsActAtTheirTick : Obligations.EventsActAtTheirTick := by
  intro k e tail n s r v due settled on tempo mark stopped tracksOf put dropped mine sounds ungranted stops rows
  have hon (hdue : due) : loaded (headTaken r) = on := by
    exact loaded_of_buffer (HeadDue.taken_buffer hdue)
  have hexec {kind : Byte} {c : Instr} (hdue : due) (hrow : (kind, c) ∈ eventRows k) (hk : e.kind = kind) :
      exec c s = .next (fullTick k s) := exec_row_of_due (hk ▸ hrow) hdue
  refine ⟨sourceRuns_iff, fun hdue => ⟨fun c hrow => ?_, fun hk => ?_, fun c f rest u hrow htail hdelta hu => ?_,
    fun m hk hmark hm => ?_, fun hk => ?_, fun hk => ?_⟩, fun hdue hsettled => ?_⟩
  · exact (exec_trackTick_of_due hdue).trans (exec_row_of_due hrow hdue).symm
  · exact (exec_trackTick_of_due hdue).trans (exec_unknownEvent_of_due hk hdue).symm
  · exact next_due_event hrow (by rw [← htail]; exact hdue) hdelta hu
  · intro left jumps
    refine ⟨_, (hexec hdue (by simp [eventRows]) hk).trans (congrArg _ (fullTick_of_jump hdue hk hmark hm)), ?_,
      flushFetch_partials .., flushFetch_grant _ _, ?_⟩
    · exact Vector.set_set ..
    · rfl
  · have htick : fullTick k s = stopTrack k (setTrack k (headTaken r) s) :=
      fullTick_of_stop hdue (performEvent_end hk)
    have hstopped : Stopped k s _ := stopped_stopTrack (u := setTrack k (headTaken r) s) rfl rfl
    have hframe := stopTrack_eq k (setTrack k (headTaken r) s)
    have hrest := congrArg (fun u : State => ({ u with tracks := s.tracks, voices := s.voices, port := s.port } : State)) hframe
    exact ⟨_, (hexec hdue (by simp [eventRows]) hk).trans (congrArg _ htick),
      ⟨hstopped.tracks, hstopped.voices, hstopped.partials, hstopped.grant⟩, hrest⟩
  · have hfault := setFault_setTrack (k := k) (q := headTaken r) (s := s) .badEvent
    have htick : fullTick k s = stopTrack k (setTrack k (headTaken r) (setFault .badEvent s)) :=
      fullTick_of_stop hdue ((performEvent_unknown hk).trans (congrArg _ hfault))
    have hstopped : Stopped k s (stopTrack k (setTrack k (headTaken r) (setFault .badEvent s))) := by
      refine stopped_stopTrack ?_ ?_
      all_goals
        rw [setFault_eq]
        rfl
    have hframe := stopTrack_eq k (setTrack k (headTaken r) (setFault .badEvent s))
    have hcause := congrArg (·.cause) hframe
    have hrest := congrArg
      (fun u : State => ({ u with tracks := s.tracks, voices := s.voices, port := s.port, cause := s.cause } : State)) hframe
    have hsame : ({ setFault .badEvent s with tracks := s.tracks, voices := s.voices, port := s.port, cause := s.cause } : State) = s := by
      rw [setFault_eq]
    exact ⟨_, (exec_unknownEvent_of_due hk hdue).trans (congrArg _ htick),
      ⟨hstopped.tracks, hstopped.voices, hstopped.partials, hstopped.grant⟩, hcause, hrest.trans hsame⟩
  · have hvoice {kind : Byte} {c : Instr} (hrow : (kind, c) ∈ eventRows k) (hk : e.kind = kind) (hlow : 1 ≤ e.kind.toNat)
        (hhigh : e.kind.toNat ≤ 5) : exec c s = .next (setTrack k on (performEvent k e s)) := by
      rw [hexec hdue hrow hk, fullTick_of_voice hdue hsettled hlow hhigh, hon hdue]
    have hgoing {kind : Byte} {c : Instr} {g : Track} {u : State} (hrow : (kind, c) ∈ eventRows k) (hk : e.kind = kind)
        (hperform : performEvent k e (setTrack k (headTaken r) s) = setTrack k g u) (hrun : g.state = .running)
        (hbuffer : g.buffer = tail) :
        exec c s = .next (setTrack k { g with
          buffer := tail, wait := tail.head?.map (fun f => f.delta.toNat),
          state := if tail = [] then .waiting else .running } u) := by
      rw [hexec hdue hrow hk, fullTick_of_going hdue hsettled hperform hrun hbuffer, loaded_of_buffer hbuffer]
    have hbuffer : (headTaken r).buffer = tail := HeadDue.taken_buffer hdue
    have hrun : (headTaken r).state = .running := HeadDue.taken_running hdue
    have hfaulted : setTrack k on (setFault .badEvent s) = { dropped with cause := (setFault .badEvent s).cause } := by
      rw [setFault_eq]
      rfl
    refine ⟨fun c hrow hlow hhigh => ?_, fun snap hk hmine hrecord => ?_, fun hk hmine hrecord => ?_, fun hk hmine => ?_,
      fun hk hmine => ?_, fun hk hmine => ?_, fun hk hmine => ?_, fun hk => ?_, fun hk => ?_, fun hk hmark => ?_,
      fun m hk hmark hforever hdone => ?_, fun hk => ?_⟩
    · obtain ⟨request, hrequest⟩ := performEvent_of_voice hlow hhigh k
      refine ⟨fun hbad => ?_, fun hn howner => ?_⟩
      · rw [hvoice hrow rfl hlow hhigh, hrequest, voiceRequest_of_bad hbad, hfaulted]
      · rw [hvoice hrow rfl hlow hhigh, hrequest, voiceRequest_of_other hn howner]
        rfl
    · intro lfsr note
      refine ⟨_, hvoice (by simp [eventRows]) hk (by rw [hk]; decide) (by rw [hk]; decide), ?_⟩
      rw [performEvent_note hk, voiceRequest_of_mine hmine.1 hmine.2, noteRequest_of_record hrecord, noteOn_eq]
      exact ⟨rfl, endGrant_ungranted (.voice n) (setVoice n note s)⟩
    · rw [hvoice (by simp [eventRows]) hk (by rw [hk]; decide) (by rw [hk]; decide), performEvent_note hk,
        voiceRequest_of_mine hmine.1 hmine.2, noteRequest_of_invalid hrecord, hfaulted]
    · have hrequest : exec (.offEvent k) s = .next (setTrack k on (releaseVoice n s)) := by
        rw [hvoice (by simp [eventRows]) hk (by rw [hk]; decide) (by rw [hk]; decide), performEvent_off hk,
          voiceRequest_of_mine hmine.1 hmine.2]
      refine ⟨fun hsounds hrelease => ?_, fun hsounds hrelease => ?_, fun h => ?_⟩
      · rw [hrequest, releaseVoice_of_sounding hsounds hrelease]
        rfl
      · refine ⟨_, hrequest, ?_⟩
        rw [releaseVoice_of_no_release hsounds hrelease]
        exact ⟨endGrant_ungranted (.voice n) (setVoice n s.voices[n].toIdle s), rfl⟩
      · have hsame : releaseVoice n s = s := by
          obtain hreleased | ⟨hidle, hfree⟩ := h
          · exact releaseVoice_of_release hreleased
          · exact releaseVoice_of_idle hidle hfree
        rw [hrequest, hsame]
        rfl
    · rw [hvoice (by simp [eventRows]) hk (by rw [hk]; decide) (by rw [hk]; decide), performEvent_instr hk,
        voiceRequest_of_mine hmine.1 hmine.2]
      rfl
    · rw [hvoice (by simp [eventRows]) hk (by rw [hk]; decide) (by rw [hk]; decide), performEvent_vol hk,
        voiceRequest_of_mine hmine.1 hmine.2]
      rfl
    · rw [hvoice (by simp [eventRows]) hk (by rw [hk]; decide) (by rw [hk]; decide), performEvent_pitch hk,
        voiceRequest_of_mine hmine.1 hmine.2]
      rfl
    · rw [hgoing (by simp [eventRows]) hk ((performEvent_tempo hk).trans (changeTrack_setTrack _)) hrun hbuffer,
        tempoPeriod_eq]
      rfl
    · rw [hgoing (by simp [eventRows]) hk ((performEvent_loop hk).trans (changeTrack_setTrack _)) hrun hbuffer]
      rfl
    · rw [hgoing (by simp [eventRows]) hk ((performEvent_back hk).trans (backRequest_of_none hmark)) hrun hbuffer]
      rfl
    · have hover : ¬(m.forever = true ∨ 0 < m.remaining) := by simp [hforever, hdone]
      rw [hgoing (by simp [eventRows]) hk ((performEvent_back hk).trans (backRequest_of_done hmark hover)) hrun hbuffer]
      rfl
    · refine ⟨_, hgoing (by simp [eventRows]) hk ((performEvent_marker hk).trans markerRequest_setTrack) hrun hbuffer, ?_,
        ?_, fun d hd => ?_, latchMarker_cause k s, ?_⟩
      · rw [latchMarker_eq]
        rfl
      · exact (raised_setTrack ..).trans (raised_latchMarker_self k s)
      · exact (raised_setTrack ..).trans (raised_latchMarker_of_ne hd s)
      · rw [latchMarker_eq]
        rfl

end Sys2Proof.Proofs
end

section
/-! SUPPORT. One count of a source given to both tracks (R124), and the frames that frame capture gives (O51). -/

namespace Sys2Proof.Proofs

open Sys2Proof.Machine Sys2Proof.Safety Sys2Proof.Laws

/-! ## What a track's tick leaves alone -/

/-- What a tick of the track, with all its events, leaves alone: everything but the sequencer, the voices, the port and the
interrupt unit; the other track; the faults that stand; the latch of FRAME LOST. -/
structure TrackWorks (k : TrackNo) (s t : State) : Prop where
  frame : t = { s with tracks := t.tracks, voices := t.voices, port := t.port, cause := t.cause }
  others : ∀ j : TrackNo, j ≠ k → t.tracks[j] = s.tracks[j]
  faults : ∀ f, hasFault f s = true → hasFault f t = true
  frameLost : t.cause.latches.frameLost = s.cause.latches.frameLost

section
variable {k : TrackNo} {s t u : State}

theorem TrackWorks.refl (k : TrackNo) (s : State) : TrackWorks k s s := ⟨rfl, fun _ _ => rfl, fun _ h => h, rfl⟩

theorem TrackWorks.trans (h : TrackWorks k s t) (h' : TrackWorks k t u) : TrackWorks k s u := by
  refine ⟨?_, fun j hj => (h'.others j hj).trans (h.others j hj), fun f hf => h'.faults f (h.faults f hf),
    h'.frameLost.trans h.frameLost⟩
  have hframe := congrArg
    (fun v : State => ({ v with tracks := u.tracks, voices := u.voices, port := u.port, cause := u.cause } : State)) h.frame
  exact h'.frame.trans hframe

theorem trackWorks_setTrack (k : TrackNo) (r : Track) (s : State) : TrackWorks k s (setTrack k r s) :=
  ⟨rfl, fun _ hj => getElem_setTrack_ne hj .., fun _ h => h, rfl⟩

theorem trackWorks_changeTrack (k : TrackNo) (f : Track → Track) (s : State) : TrackWorks k s (changeTrack k f s) :=
  trackWorks_setTrack ..

theorem trackWorks_setFault (f : FaultFlag) (k : TrackNo) (s : State) : TrackWorks k s (setFault f s) := by
  refine ⟨?_, fun j _ => ?_, fun g hg => ?_, ?_⟩
  · rw [setFault_eq]
  · rw [setFault_eq]
  · rw [hasFault_setFault, hg, Bool.or_true]
  · unfold setFault
    split <;> rfl

/-- What keeps the tracks and the interrupt unit. -/
theorem trackWorks_of_port (h : t = { s with voices := t.voices, port := t.port }) : TrackWorks k s t := by
  rw [h]
  exact ⟨rfl, fun _ _ => rfl, fun _ h => h, rfl⟩

theorem trackWorks_putVoice (n : VoiceNo) (v : Voice) (s : State) : TrackWorks k s (putVoice n v s) :=
  trackWorks_of_port (by unfold putVoice; split <;> rfl)

theorem trackWorks_noteRequest (e : Event) (n : VoiceNo) (s : State) : TrackWorks k s (noteRequest e n s) := by
  cases hrecord : instrumentOf s s.voices[n].selected with
  | none =>
    rw [noteRequest_of_invalid hrecord]
    exact trackWorks_setFault ..
  | some snap =>
    rw [noteRequest_of_record hrecord]
    exact trackWorks_of_port rfl

theorem trackWorks_voiceRequest {request : VoiceNo → State → State} (h : ∀ n s, TrackWorks k s (request n s)) (e : Event)
    (s : State) : TrackWorks k s (voiceRequest k e request s) := by
  unfold voiceRequest
  split
  · exact trackWorks_setFault ..
  · split
    · exact h ..
    · exact .refl k s

theorem trackWorks_stopTrack (k : TrackNo) (s : State) : TrackWorks k s (stopTrack k s) := by
  have hframe := stopTrack_eq k s
  have hothers {j : TrackNo} (hj : j ≠ k) := stopTrack_tracks_ne hj s
  generalize stopTrack k s = u at *
  have hcause := congrArg (·.cause) hframe
  have hframe' := congrArg (fun v : State => ({ v with tracks := u.tracks, cause := u.cause } : State)) hframe
  refine ⟨hframe', fun j => hothers, fun f hf => ?_, congrArg (·.latches.frameLost) hcause⟩
  exact (congrArg (fun c : CauseUnit => c.flags.getLsbD f.bit) hcause).trans hf

theorem trackWorks_flushFetch (k : TrackNo) (s : State) : TrackWorks k s (flushFetch k s) := trackWorks_of_port rfl

theorem trackWorks_latchMarker (k : TrackNo) (s : State) : TrackWorks k s (latchMarker k s) := by
  refine ⟨?_, fun j _ => ?_, fun f hf => ?_, ?_⟩
  · rw [latchMarker_eq]
  · rw [latchMarker_eq]
  · exact (congrArg (fun c : CauseUnit => c.flags.getLsbD f.bit) (latchMarker_cause k s)).trans hf
  · unfold latchMarker
    split
    · by_cases hk : k = 0
      · rw [if_pos hk]
      · rw [if_neg hk]
    · rfl

theorem trackWorks_backRequest (k : TrackNo) (s : State) : TrackWorks k s (backRequest k s) := by
  unfold backRequest
  split
  · exact .refl k s
  · split
    · exact (trackWorks_changeTrack ..).trans (trackWorks_flushFetch ..)
    · exact trackWorks_changeTrack ..

theorem trackWorks_performEvent (k : TrackNo) (e : Event) (s : State) : TrackWorks k s (performEvent k e s) := by
  by_cases hunknown : 9 < e.kind.toNat
  · rw [performEvent_unknown hunknown]
    exact (trackWorks_setFault ..).trans (trackWorks_stopTrack ..)
  by_cases hvoice : 1 ≤ e.kind.toNat ∧ e.kind.toNat ≤ 5
  · rcases kind_voice hvoice.1 hvoice.2 with h | h | h | h | h
    · rw [performEvent_note h]
      exact trackWorks_voiceRequest (trackWorks_noteRequest e) ..
    · rw [performEvent_off h]
      exact trackWorks_voiceRequest (fun n s => trackWorks_putVoice n s.voices[n].releaseRequest s) ..
    · rw [performEvent_instr h]
      exact trackWorks_voiceRequest (fun n s => trackWorks_of_port rfl) ..
    · rw [performEvent_vol h]
      exact trackWorks_voiceRequest (fun n s => trackWorks_of_port rfl) ..
    · rw [performEvent_pitch h]
      exact trackWorks_voiceRequest (fun n s => trackWorks_of_port rfl) ..
  rcases kind_track (Nat.not_lt.1 hunknown) hvoice with h | h | h | h | h
  · rw [performEvent_end h]
    exact trackWorks_stopTrack ..
  · rw [performEvent_tempo h]
    exact trackWorks_changeTrack ..
  · rw [performEvent_loop h]
    exact trackWorks_changeTrack ..
  · rw [performEvent_back h]
    exact trackWorks_backRequest ..
  · rw [performEvent_marker h]
    exact (trackWorks_changeTrack ..).trans (trackWorks_latchMarker ..)

theorem trackWorks_actOnEvent (k : TrackNo) (e : Event) (rest : List Event) (s : State) :
    TrackWorks k s (actOnEvent k e rest s) := (trackWorks_changeTrack ..).trans (trackWorks_performEvent ..)

theorem trackWorks_loadHead (n : Nat) (k : TrackNo) (s : State) : TrackWorks k s (loadHead n k s) := by
  induction n generalizing s with
  | zero =>
    unfold loadHead
    split
    · exact .refl k s
    · split
      · exact trackWorks_changeTrack ..
      · split
        · exact .refl k s
        · exact trackWorks_changeTrack ..
  | succ n ih =>
    unfold loadHead
    split
    · exact .refl k s
    · split
      · exact trackWorks_changeTrack ..
      · split
        · exact (trackWorks_actOnEvent ..).trans (ih _)
        · exact trackWorks_changeTrack ..

theorem trackWorks_actOnHead (k : TrackNo) (s : State) : TrackWorks k s (actOnHead k s) := by
  unfold actOnHead
  split
  · exact .refl k s
  · exact (trackWorks_actOnEvent ..).trans (trackWorks_loadHead ..)

theorem trackWorks_trackTick (k : TrackNo) (s : State) : TrackWorks k s (trackTick k s) := by
  unfold trackTick
  simp only
  split
  · exact .refl k s
  · exact trackWorks_setFault ..
  · split
    · split
      · exact (trackWorks_setTrack ..).trans (trackWorks_actOnHead ..)
      · exact trackWorks_setTrack ..
    · exact .refl k s

theorem trackWorks_countTrack (k : TrackNo) (s : State) : TrackWorks k s (countTrack k s) := by
  unfold countTrack
  simp only
  split
  · exact (trackWorks_setTrack ..).trans (trackWorks_trackTick ..)
  · exact trackWorks_setTrack ..

/-! ## One count of a source -/

/-- A source's count to one track (R124). -/
def countSource (source : Source) (s : State) (k : TrackNo) : State :=
  if s.tracks[k].active && s.tracks[k].source == source then countTrack k s else s

theorem trackWorks_countSource (source : Source) (s : State) (k : TrackNo) : TrackWorks k s (countSource source s k) := by
  unfold countSource
  split
  · exact trackWorks_countTrack ..
  · exact .refl k s

theorem countTrack_of_lt (h : s.tracks[k].divider + 1 < s.tracks[k].period) :
    countTrack k s = setTrack k { s.tracks[k] with divider := s.tracks[k].divider + 1 } s := if_neg (Nat.not_le.2 h)

theorem countTrack_of_full (h : s.tracks[k].period ≤ s.tracks[k].divider + 1) : countTrack k s = fullTick k s := if_pos h

/-- What one count of the source makes of a track (R124, R125). -/
def Counts (source : Source) (r r' : Track) (t : State) : Prop :=
  (r.source ≠ source ∨ r.state = .stopped → r' = r) ∧
  (r.source = source → r.state ≠ .stopped → r.divider + 1 < r.period → r' = { r with divider := r.divider + 1 }) ∧
  (∀ w, r.source = source → r.state = .running → r.period ≤ r.divider + 1 → r.wait = some (w + 2) →
    r' = { r with divider := 0, wait := some (w + 1) }) ∧
  (r.source = source → r.state = .waiting → r.period ≤ r.divider + 1 →
    r' = { r with divider := 0 } ∧ hasFault .seqLate t = true)

theorem countSource_of_counting {source : Source} (hsource : s.tracks[k].source = source)
    (hactive : s.tracks[k].state ≠ .stopped) : countSource source s k = countTrack k s :=
  if_pos (by rw [active_iff.2 hactive, hsource]; exact beq_self_eq_true _)

theorem countSource_of_still {source : Source} (h : s.tracks[k].source ≠ source ∨ s.tracks[k].state = .stopped) :
    countSource source s k = s := by
  refine if_neg fun hcount => ?_
  obtain ⟨hactive, hsource⟩ := Bool.and_eq_true_iff.1 hcount
  exact h.elim (fun hne => hne (beq_iff_eq.1 hsource)) (active_iff.1 hactive)

theorem counts_countSource (source : Source) (s : State) (k : TrackNo) :
    Counts source s.tracks[k] (countSource source s k).tracks[k] (countSource source s k) := by
  refine ⟨fun hstill => ?_, fun hsource hactive hlt => ?_, fun w hsource hrun hfull hwait => ?_,
    fun hsource hwaiting hfull => ?_⟩
  · rw [countSource_of_still hstill]
  · rw [countSource_of_counting hsource hactive, countTrack_of_lt hlt, setTrack_get]
  · have hactive : s.tracks[k].state ≠ .stopped := fun h => nomatch hrun.symm.trans h
    rw [countSource_of_counting hsource hactive, countTrack_of_full hfull, fullTick_of_wait hrun hwait, setTrack_get]
  · have hactive : s.tracks[k].state ≠ .stopped := fun h => nomatch hwaiting.symm.trans h
    rw [countSource_of_counting hsource hactive, countTrack_of_full hfull, fullTick_of_waiting hwaiting]
    refine ⟨getElem_setTrack_self .., ?_⟩
    have hset : hasFault .seqLate (setFault .seqLate s) = true := by rw [hasFault_setFault]; rfl
    exact hset

theorem track_cases (k : TrackNo) : k = 0 ∨ k = 1 := by
  revert k
  decide

/-- A source's count to both tracks (R124). -/
def countBoth (source : Source) (s : State) : State := countSource source (countSource source s 0) 1

theorem sourceCounts_countBoth (source : Source) (s : State) : SourceCounts source s (countBoth source s) := by
  have hfirst := trackWorks_countSource source s 0
  have hsecond := trackWorks_countSource source (countSource source s 0) 1
  intro k
  obtain rfl | rfl := track_cases k
  · obtain ⟨hstill, hcount, hwait, hlate⟩ := counts_countSource source s 0
    have hkept : (countBoth source s).tracks[(0 : TrackNo)] = (countSource source s 0).tracks[(0 : TrackNo)] :=
      hsecond.others 0 (by decide)
    rw [← hkept] at hstill hcount hwait hlate
    refine ⟨hstill, hcount, hwait, fun hsource hwaiting hfull => ?_⟩
    obtain ⟨htrack, hfault⟩ := hlate hsource hwaiting hfull
    exact ⟨htrack, hsecond.faults _ hfault⟩
  · have hkept : (countSource source s 0).tracks[(1 : TrackNo)] = s.tracks[(1 : TrackNo)] := hfirst.others 1 (by decide)
    have hcounts := counts_countSource source (countSource source s 0) 1
    rw [hkept] at hcounts
    exact hcounts

end

/-- What a source's count to both tracks leaves alone. -/
structure CountWorks (s t : State) : Prop where
  frame : t = { s with tracks := t.tracks, voices := t.voices, port := t.port, cause := t.cause }
  frameLost : t.cause.latches.frameLost = s.cause.latches.frameLost
  faults : ∀ f, hasFault f s = true → hasFault f t = true

theorem countWorks_countBoth (source : Source) (s : State) : CountWorks s (countBoth source s) := by
  have hfirst := trackWorks_countSource source s 0
  have hsecond := trackWorks_countSource source (countSource source s 0) 1
  have hframe := congrArg (fun v : State => ({ v with
    tracks := (countBoth source s).tracks, voices := (countBoth source s).voices, port := (countBoth source s).port,
    cause := (countBoth source s).cause } : State)) hfirst.frame
  exact ⟨hsecond.frame.trans hframe, hsecond.frameLost.trans hfirst.frameLost,
    fun f hf => hsecond.faults f (hfirst.faults f hf)⟩

theorem countBoth_of_stopped {source : Source} {s : State} (h : ∀ k : TrackNo, s.tracks[k].state = .stopped) :
    countBoth source s = s := by
  rw [countBoth, countSource_of_still (.inr (h 0)), countSource_of_still (.inr (h 1))]

/-- Where the other track does not count, the source's count is the track's. -/
theorem countBoth_of_one {source : Source} {s : State} {k : TrackNo} (hsource : s.tracks[k].source = source)
    (hactive : s.tracks[k].state ≠ .stopped)
    (hother : s.tracks[otherTrack k].source ≠ source ∨ s.tracks[otherTrack k].state = .stopped) :
    countBoth source s = countTrack k s := by
  obtain rfl | rfl := track_cases k
  · have hkept : (countTrack 0 s).tracks[(1 : TrackNo)] = s.tracks[(1 : TrackNo)] :=
      (trackWorks_countTrack 0 s).others 1 (by decide)
    rw [countBoth, countSource_of_counting hsource hactive, countSource_of_still (by rw [hkept]; exact hother)]
  · have hstill : countSource source s 0 = s := countSource_of_still hother
    rw [countBoth, hstill, countSource_of_counting hsource hactive]

end Sys2Proof.Proofs
end

section
/-! Frame capture: strobes, losses, synthetic frames, the frame capture count and FRAME MODE (O51). -/

namespace Sys2Proof.Proofs

open Sys2Proof.Machine Sys2Proof.Safety Sys2Proof.Laws

section
variable {s : State} {f : FrameCapture}

/-! ## A frame given -/

theorem giveFrame_frame (s : State) : (giveFrame s).frame = s.frame :=
  congrArg (·.frame) (countWorks_countBoth .frame s).frame

/-- A frame given after frame capture has changed: what the FRAME tracks become is what they become of s. -/
theorem sourceCounts_giveFrame {u : State} (h : u.tracks = s.tracks) : SourceCounts .frame s (giveFrame u) := by
  have hcounts : ∀ k : TrackNo, Counts .frame u.tracks[k] (giveFrame u).tracks[k] (giveFrame u) :=
    sourceCounts_countBoth .frame u
  rw [h] at hcounts
  exact hcounts

/-- Only frame capture, the tracks and what their ticks touch differ. -/
def FrameSide (s t : State) : Prop :=
  { t with frame := s.frame, tracks := s.tracks, voices := s.voices, port := s.port, cause := s.cause } = s

theorem frameSide_giveFrame {t : State} (h : FrameSide s t) : FrameSide s (giveFrame t) := by
  have hgive := congrArg (fun v : State => ({ v with
    frame := s.frame, tracks := s.tracks, voices := s.voices, port := s.port, cause := s.cause } : State))
    (countWorks_countBoth .frame t).frame
  exact hgive.trans h

theorem frameSide_setFrame (f : FrameCapture) (s : State) : FrameSide s (setFrame f s) := rfl

/-! ## Strobes (R130) -/

theorem exec_frmStrobe_eq (hans : answered s = true) : exec .frmStrobe s = .next (strobe s) := if_pos hans

theorem strobe_of_first (h : s.frame.state = .waitingFirst ∨ s.frame.state = .lost) :
    strobe s = giveFrame (setFrame s.frame.capture s) := by
  rcases h with h | h <;> simp only [strobe, h]

theorem strobe_of_present {c : BitVec 16} (h : s.frame.state = .present) (hlast : s.frame.last = some c) :
    strobe s =
      if (s.frame.counter - c).toNat < 137 then s
      else giveFrame (setFrame { s.frame.capture with
        period := if (s.frame.counter - c).toNat ≤ 1638 then some (s.frame.counter - c).toNat else s.frame.period } s) := by
  simp only [strobe, h, FrameCapture.distance, hlast]

/-! ## Losses (R131) -/

/-- The interrupt unit after FRAME LOST's event (R175). -/
def lossLatched (s : State) : CauseUnit :=
  { s.cause with latches := { s.cause.latches with frameLost := enabled .frame s || s.cause.latches.frameLost } }

theorem latchFrameLost_eq (s : State) : latchFrameLost s = { s with cause := lossLatched s } := by
  unfold latchFrameLost lossLatched
  split
  next h => rw [h, Bool.true_or]
  next h => rw [eq_false_of_ne_true h, Bool.false_or]

/-- Frame capture at a loss. -/
def frameLostAt (f : FrameCapture) : FrameCapture :=
  { f with state := .lost, synth := if f.mode = .coast then 0 else f.synth }

/-- The state at a loss before a synthetic frame. -/
def lossNoted (s : State) : State := { s with frame := frameLostAt s.frame, cause := lossLatched s }

theorem loseFrame_eq (s : State) : loseFrame s = if s.frame.mode = .coast then giveFrame (lossNoted s) else lossNoted s := by
  unfold loseFrame
  simp only
  rw [latchFrameLost_eq]
  rfl

theorem loseFrame_of_coast (h : s.frame.mode = .coast) : loseFrame s = giveFrame (lossNoted s) := by
  rw [loseFrame_eq, if_pos h]

theorem loseFrame_of_hold (h : s.frame.mode = .hold) : loseFrame s = lossNoted s := by
  rw [loseFrame_eq, if_neg (by rw [h]; exact FrameMode.noConfusion)]

theorem loseFrame_frame (s : State) : (loseFrame s).frame = frameLostAt s.frame := by
  rw [loseFrame_eq]
  split
  · exact giveFrame_frame _
  · rfl

theorem loseFrame_latch (s : State) :
    (loseFrame s).cause.latches.frameLost = (enabled .frame s || s.cause.latches.frameLost) := by
  rw [loseFrame_eq]
  split
  · exact (countWorks_countBoth .frame (lossNoted s)).frameLost
  · rfl

theorem frameSide_loseFrame (f : FrameCapture) (s : State) : FrameSide s (loseFrame (setFrame f s)) := by
  rw [loseFrame_eq]
  split
  · exact frameSide_giveFrame rfl
  · rfl

theorem silent_iff : f.silent = true ↔ f.state ≠ .lost := by
  unfold FrameCapture.silent
  cases f.state <;> simp

theorem exec_frameLost_eq (hans : answered s = true) (hruns : s.crystal.running = true) (hstate : s.frame.state ≠ .lost) :
    exec .frameLost s = .next (loseFrame (setFrame
      { s.frame.counted (s.frame.deadline - s.frame.silence) with silence := s.frame.deadline } s)) :=
  if_pos (by
    rw [capturing, hans, ticking_iff.2 ⟨powered_of_answered hans, hruns⟩, silent_iff.2 hstate]
    rfl)

theorem exec_syntheticFrame_eq (hans : answered s = true) (hruns : s.crystal.running = true)
    (hstate : s.frame.state = .lost) (hmode : s.frame.mode = .coast) :
    exec .syntheticFrame s =
      .next (synthesize (setFrame (s.frame.counted (s.frame.synthPeriod - s.frame.synth)) s)) :=
  if_pos (by
    rw [capturing, hans, ticking_iff.2 ⟨powered_of_answered hans, hruns⟩, hstate, hmode]
    rfl)

theorem synthesize_setFrame (f : FrameCapture) (s : State) :
    synthesize (setFrame f s) = giveFrame (setFrame { f with synth := 0 } s) := rfl

/-! ## The frame capture count -/

theorem captureCount_of_silent (hans : answered s = true) (hstate : s.frame.state ≠ .lost) :
    captureCount s =
      if s.frame.deadline ≤ s.frame.silence + 1 then
        loseFrame (setFrame { s.frame.counted 1 with silence := s.frame.silence + 1 } s)
      else setFrame { s.frame.counted 1 with silence := s.frame.silence + 1 } s := by
  have hsilent : (s.frame.counted 1).silent = true := silent_iff.2 hstate
  unfold captureCount
  simp only [capturing, hans, hsilent, Bool.not_true, Bool.false_eq_true, if_false, if_true]
  rfl

theorem captureCount_of_coast (hans : answered s = true) (hstate : s.frame.state = .lost) (hmode : s.frame.mode = .coast) :
    captureCount s =
      if s.frame.synthPeriod ≤ s.frame.synth + 1 then synthesize (setFrame (s.frame.counted 1) s)
      else setFrame { s.frame.counted 1 with synth := s.frame.synth + 1 } s := by
  have hsilent : ¬(s.frame.counted 1).silent = true := fun h => silent_iff.1 h hstate
  have hcoast : (s.frame.counted 1).mode = .coast := hmode
  unfold captureCount
  simp only [capturing, hans, hsilent, hcoast, Bool.not_true, Bool.false_eq_true, if_false, if_true]
  rfl

theorem captureCount_of_hold (hans : answered s = true) (hstate : s.frame.state = .lost) (hmode : s.frame.mode = .hold) :
    captureCount s = setFrame (s.frame.counted 1) s := by
  have hsilent : ¬(s.frame.counted 1).silent = true := fun h => silent_iff.1 h hstate
  have hhold : ¬(s.frame.counted 1).mode = .coast := fun h => nomatch hmode.symm.trans h
  unfold captureCount
  simp only [capturing, hans, hsilent, hhold, Bool.not_true, Bool.false_eq_true, if_false]

theorem captureCount_of_unanswered (hans : answered s = false) : captureCount s = setFrame (s.frame.counted 1) s := by
  unfold captureCount
  simp only [capturing, hans, Bool.not_false, if_true]

/-! ## FRAME MODE (R133) -/

theorem frameModeOf_of_gt {b : Byte} (h : 1 < b.toNat) : frameModeOf b = none := by
  unfold frameModeOf
  rw [if_neg (fun h0 => by rw [h0] at h; exact absurd h (by decide)),
    if_neg (fun h1 => by rw [h1] at h; exact absurd h (by decide))]

theorem frameModeOf_of_le {b : Byte} (h : b.toNat ≤ 1) :
    frameModeOf b = some (if b = 0 then .coast else .hold) ∧
      byteOf (if b = 0 then FrameMode.coast else FrameMode.hold).code = b := by
  obtain h | h := Nat.le_one_iff_eq_zero_or_eq_one.1 h
  · rw [show b = 0 from BitVec.eq_of_toNat_eq h]
    exact ⟨rfl, rfl⟩
  · rw [show b = 1 from BitVec.eq_of_toNat_eq h]
    exact ⟨rfl, rfl⟩

/-- Frame capture as FRAME MODE leaves it. -/
def frameModed (mode : Byte) (f : FrameCapture) : FrameCapture :=
  { f with mode := if mode = 0 then .coast else .hold,
           synth := if f.state = .lost ∧ f.mode = .hold ∧ mode = 0 then 0 else f.synth }

theorem frameModeEffect_of_le {mode : Byte} (h : mode.toNat ≤ 1) :
    frameModeEffect mode s =
      reply .ok (frameModePayload (frameModed mode s.frame)) (setFrame (frameModed mode s.frame) s) := by
  have hrestart : (s.frame.state == .lost && s.frame.mode == .hold &&
      (if mode = 0 then FrameMode.coast else FrameMode.hold) == .coast) =
      decide (s.frame.state = .lost ∧ s.frame.mode = .hold ∧ mode = 0) := by
    rw [Bool.eq_iff_iff]
    simp only [Bool.and_eq_true, beq_iff_eq, decide_eq_true_eq, and_assoc]
    by_cases hm : mode = 0 <;> simp [hm]
  rw [frameModeEffect, (frameModeOf_of_le h).1]
  simp only [hrestart, decide_eq_true_eq]
  rfl

theorem frameModePayload_moded {mode : Byte} (h : mode.toNat ≤ 1) (f : FrameCapture) :
    frameModePayload (frameModed mode f) =
      [byteOf f.state.code, mode, flagByte f.period.isSome, byteOf (f.period.getD 0), byteOf (f.period.getD 0 / 256),
       flagByte f.last.isSome, byteOf ((f.last.map BitVec.toNat).getD 0), byteOf ((f.last.map BitVec.toNat).getD 0 / 256)] := by
  obtain ⟨-, hcode⟩ := frameModeOf_of_le h
  simp only [frameModePayload, frameModed, hcode, le2, List.cons_append, List.nil_append]

end

/-- Settles O51: what each row makes of frame capture, and the frame it gives (`sourceCounts_giveFrame`). -/
theorem frameCaptureFollowsStrobes : Obligations.FrameCaptureFollowsStrobes := by
  intro mode rest s f captured others deadline synthPeriod count withFrame
  refine ⟨fun hans hfirst => ?_, fun c hans hpresent hlast => ?_, fun hans hruns hstate => ?_, fun hans hruns hlost hcoast => ?_,
    fun hans => ⟨fun hstate => ⟨fun hlt => ?_, fun hend hruns => ?_⟩, fun hlost hcoast => ⟨fun hlt => ?_, fun hend hruns => ?_⟩,
      fun hlost hhold => captureCount_of_hold hans hlost hhold⟩, fun hans => captureCount_of_unanswered hans,
    fun h => ⟨fun hbad => ?_, fun hle => ?_⟩⟩
  · refine ⟨_, (exec_frmStrobe_eq hans).trans (congrArg _ (strobe_of_first hfirst)), giveFrame_frame _,
      sourceCounts_giveFrame rfl, frameSide_giveFrame (frameSide_setFrame _ s)⟩
  · have hstrobe := strobe_of_present hpresent hlast
    refine ⟨fun hnear => ?_, fun hfar => ?_⟩
    · rw [exec_frmStrobe_eq hans, hstrobe, if_pos hnear]
    · rw [if_neg (Nat.not_lt.2 hfar)] at hstrobe
      exact ⟨_, (exec_frmStrobe_eq hans).trans (congrArg _ hstrobe), sourceCounts_giveFrame rfl,
        frameSide_giveFrame (frameSide_setFrame _ s), giveFrame_frame _⟩
  · have hframe := loseFrame_frame (setFrame
      { s.frame.counted (s.frame.deadline - s.frame.silence) with silence := s.frame.deadline } s)
    have hlatch := loseFrame_latch (setFrame
      { s.frame.counted (s.frame.deadline - s.frame.silence) with silence := s.frame.deadline } s)
    have hside := frameSide_loseFrame
      { s.frame.counted (s.frame.deadline - s.frame.silence) with silence := s.frame.deadline } s
    refine ⟨_, exec_frameLost_eq hans hruns hstate, congrArg (·.state) hframe, congrArg (·.silence) hframe,
      congrArg (·.last) hframe, congrArg (·.period) hframe, congrArg (·.mode) hframe, fun hon => ?_, fun hoff => ?_,
      congrArg (·.synth) hframe, hside, fun hcoast => ?_, fun hhold => ?_⟩
    · exact hlatch.trans ((congrArg (· || _) hon).trans (Bool.true_or _))
    · exact hlatch.trans ((congrArg (· || _) hoff).trans (Bool.false_or _))
    · rw [loseFrame_of_coast (by exact hcoast)]
      exact sourceCounts_giveFrame rfl
    · rw [loseFrame_of_hold (by exact hhold)]
      exact ⟨rfl, rfl, rfl⟩
  · have hexec := exec_syntheticFrame_eq hans hruns hlost hcoast
    rw [synthesize_setFrame] at hexec
    have hframe := giveFrame_frame (setFrame
      { s.frame.counted (s.frame.synthPeriod - s.frame.synth) with synth := 0 } s)
    exact ⟨_, hexec, (congrArg (·.state) hframe).trans hlost, congrArg (·.synth) hframe, congrArg (·.last) hframe,
      congrArg (·.period) hframe, sourceCounts_giveFrame rfl, frameSide_giveFrame (frameSide_setFrame _ s)⟩
  · exact (captureCount_of_silent hans hstate).trans (if_neg (Nat.not_le.2 hlt))
  · rw [exec_frameLost_eq hans hruns hstate]
    have hone : s.frame.deadline - s.frame.silence = 1 := by
      have : s.frame.silence + 1 = s.frame.deadline := hend
      omega
    have hcount := (captureCount_of_silent hans hstate).trans (if_pos (Nat.le_of_eq hend.symm))
    rw [hone, ← show s.frame.silence + 1 = s.frame.deadline from hend]
    exact congrArg _ hcount.symm
  · exact (captureCount_of_coast hans hlost hcoast).trans (if_neg (Nat.not_le.2 hlt))
  · rw [exec_syntheticFrame_eq hans hruns hlost hcoast]
    have hone : s.frame.synthPeriod - s.frame.synth = 1 := by
      have : s.frame.synth + 1 = s.frame.synthPeriod := hend
      omega
    rw [hone]
    exact congrArg _ ((captureCount_of_coast hans hlost hcoast).trans (if_pos (Nat.le_of_eq hend.symm))).symm
  · refine answers_of_same h rfl ?_
    rw [frameModeEffect, frameModeOf_of_gt hbad]
    rfl
  · intro m p c synth
    refine answers_of_same h rfl ((frameModeEffect_of_le hle).trans ?_)
    exact congrArg (fun payload => replied .ok payload (taken rest { s with frame := frameModed mode s.frame }))
      (frameModePayload_moded hle s.frame)

end Sys2Proof.Proofs
end

section
/-! The sample clock: the six samples and their voices' advance, the DAC code, and the TIME tracks' count (O46). -/

namespace Sys2Proof.Proofs

open Sys2Proof.Machine Sys2Proof.Safety Sys2Proof.Laws

/-! ## The fold over the voices -/

/-- One voice gives its sample and advances, by the bytes of a given sound RAM. -/
def advanceWith (sound : Nat → Byte) (s : State) (n : VoiceNo) : State :=
  setFaultIf (s.voices[n].sample sound).underrun .underrun (putVoice n (s.voices[n].sample sound).voice s)

theorem hasFault_setFaultIf (b : Bool) (f g : FaultFlag) (s : State) :
    hasFault g (setFaultIf b f s) = (b && decide (g = f) || hasFault g s) := by
  cases b with
  | false => rfl
  | true => exact hasFault_setFault f g s

section
variable {sound : Nat → Byte} {n m : VoiceNo} {l : List VoiceNo} {s : State}

theorem putVoice_cause (n : VoiceNo) (v : Voice) (c : CauseUnit) (s : State) :
    putVoice n v { s with cause := c } = { putVoice n v s with cause := c } := by
  unfold putVoice
  split <;> rfl

theorem mapVoices_cause (f : Voice → Voice) (l : List VoiceNo) (c : CauseUnit) (s : State) :
    mapVoices f l { s with cause := c } = { mapVoices f l s with cause := c } := by
  induction l generalizing s with
  | nil => rfl
  | cons n l ih =>
    rw [mapVoices_cons, mapVoices_cons, ← ih, ← putVoice_cause]

/-- Outside the interrupt unit the voices' advance is the replacement of every record by its advance. -/
theorem foldl_advanceWith_eq (sound : Nat → Byte) (l : List VoiceNo) (s : State) :
    l.foldl (advanceWith sound) s =
      { mapVoices (fun v => (v.sample sound).voice) l s with cause := (l.foldl (advanceWith sound) s).cause } := by
  induction l generalizing s with
  | nil => rfl
  | cons n l ih =>
    rw [List.foldl_cons, mapVoices_cons]
    refine (ih _).trans ?_
    generalize (l.foldl (advanceWith sound) (advanceWith sound s n)).cause = c
    rw [advanceWith, setFaultIf_eq, mapVoices_cause]

theorem foldl_advanceVoice (l : List VoiceNo) (s : State) :
    l.foldl advanceVoice s = l.foldl (advanceWith (soundByte s)) s := by
  induction l generalizing s with
  | nil => rfl
  | cons n l ih =>
    have hsound : (advanceVoice s n).sound = s.sound := by
      rw [advanceVoice, setFaultIf_eq, putVoice_eq]
    have hread : soundByte (advanceVoice s n) = soundByte s := by
      funext a
      rw [soundByte, soundByte, hsound]
    rw [List.foldl_cons, ih, hread]
    rfl

theorem hasFault_putVoice (f : FaultFlag) (n : VoiceNo) (v : Voice) (s : State) :
    hasFault f (putVoice n v s) = hasFault f s := by
  rw [putVoice_eq]
  rfl

/-- The advance of the voices sets no flag but UNDERRUN, and clears none. -/
theorem hasFault_foldl_advance {f : FaultFlag} (hf : f ≠ .underrun) (l : List VoiceNo) (s : State) :
    hasFault f (l.foldl (advanceWith sound) s) = hasFault f s := by
  induction l generalizing s with
  | nil => rfl
  | cons n l ih =>
    rw [List.foldl_cons, ih, advanceWith, hasFault_setFaultIf, hasFault_putVoice, decide_eq_false hf, Bool.and_false,
      Bool.false_or]

theorem underrun_of_stands (h : hasFault .underrun s = true) (l : List VoiceNo) :
    hasFault .underrun (l.foldl (advanceWith sound) s) = true := by
  induction l generalizing s with
  | nil => exact h
  | cons n l ih =>
    refine ih ?_
    rw [advanceWith, hasFault_setFaultIf, hasFault_putVoice, h, Bool.or_true]

theorem underrun_of_voice (hmem : n ∈ l) (hl : l.Nodup) (h : (s.voices[n].sample sound).underrun = true) :
    hasFault .underrun (l.foldl (advanceWith sound) s) = true := by
  induction l generalizing s with
  | nil => nomatch hmem
  | cons m l ih =>
    obtain ⟨hm, hl⟩ := List.nodup_cons.1 hl
    rcases List.mem_cons.1 hmem with rfl | hrest
    · refine underrun_of_stands ?_ l
      rw [advanceWith, hasFault_setFaultIf, h]
      rfl
    · refine ih hrest hl ?_
      have hne : m ≠ n := fun e => hm (e ▸ hrest)
      have hkept : (advanceWith sound s m).voices[n] = s.voices[n] := by
        rw [advanceWith, setFaultIf_eq]
        exact getElem_putVoice_of_ne hne ..
      rw [hkept]
      exact h

end

/-! ## The voices' tick -/

section
variable {n : VoiceNo} {s : State}

/-- The sum of R116 step 3, before the clamp. -/
def mixed (s : State) : Int := mixScale (mixSum s) s.mixer.master

/-- The mixer's DAC code replaced. -/
def withDac (c : Nat) (s : State) : State := { s with mixer := { s.mixer with dac := some c } }

/-- The six voices' samples taken and the voices advanced. -/
def advanced (s : State) : State := allVoices.foldl (advanceWith (soundByte s)) s

theorem sampleVoices_def (s : State) :
    sampleVoices s = setFaultIf (clips (mixed s)) .clip (withDac (dacCode (mixed s)) (advanced s)) := by
  rw [advanced, ← foldl_advanceVoice]
  rfl

theorem advanced_map (s : State) :
    advanced s =
      { mapVoices (fun v => (v.sample (soundByte s)).voice) allVoices s with cause := (advanced s).cause } := by
  rw [advanced]
  exact foldl_advanceWith_eq (soundByte s) allVoices s

theorem advanced_eq (s : State) :
    advanced s =
      { s with voices := (advanced s).voices, port := (advanced s).port, cause := (advanced s).cause } := by
  have hfold := advanced_map s
  have hmap := mapVoices_frame (fun v => (v.sample (soundByte s)).voice) allVoices s
  generalize advanced s = t at *
  generalize mapVoices _ _ s = u at *
  have hframe := congrArg (fun v : State => ({ v with voices := u.voices, port := u.port, cause := t.cause } : State)) hmap
  rw [hfold]
  exact hframe

theorem advanced_voices (n : VoiceNo) (s : State) :
    (advanced s).voices[n] = (s.voices[n].sample (soundByte s)).voice := by
  have hvoices := congrArg (·.voices) (advanced_map s)
  have hmap := getElem_mapVoices_of_mem nodup_allVoices (mem_allVoices n)
    (f := fun v => (v.sample (soundByte s)).voice) s
  generalize advanced s = t at *
  generalize mapVoices _ _ s = u at *
  rw [hvoices]
  exact hmap

theorem advanced_grant (h : (s.voices[n].sample (soundByte s)).voice.phase = .idle) :
    ∀ g ∈ (advanced s).port.grant, g.holder ≠ .voice n := by
  have hport := congrArg (·.port) (advanced_map s)
  have hidle := mapVoices_grant_of_idle nodup_allVoices (mem_allVoices n)
    (f := fun v => (v.sample (soundByte s)).voice) (s := s) h
  generalize advanced s = t at *
  generalize mapVoices _ _ s = u at *
  rw [hport]
  exact hidle

theorem sampleVoices_eq (s : State) :
    sampleVoices s =
      { s with voices := (advanced s).voices, port := (advanced s).port, cause := (sampleVoices s).cause,
               mixer := { s.mixer with dac := some (dacCode (mixed s)) } } := by
  have hadvanced := advanced_eq s
  rw [sampleVoices_def]
  generalize advanced s = t at *
  rw [setFaultIf_eq]
  generalize (setFaultIf _ _ _).cause = c
  rw [hadvanced]
  rfl

theorem hasFault_sampleVoices (f : FaultFlag) (s : State) :
    hasFault f (sampleVoices s) = (clips (mixed s) && decide (f = .clip) || hasFault f (advanced s)) := by
  rw [sampleVoices_def]
  generalize advanced s = t
  exact hasFault_setFaultIf ..

theorem hasFault_clip_sampleVoices (s : State) :
    hasFault .clip (sampleVoices s) = (clips (mixed s) || hasFault .clip s) := by
  have hclip : hasFault .clip (advanced s) = hasFault .clip s := hasFault_foldl_advance FaultFlag.noConfusion _ s
  rw [hasFault_sampleVoices, hclip]
  simp

theorem hasFault_underrun_sampleVoices (h : (s.voices[n].sample (soundByte s)).underrun = true) :
    hasFault .underrun (sampleVoices s) = true := by
  have hunder : hasFault .underrun (advanced s) = true := underrun_of_voice (mem_allVoices n) nodup_allVoices h
  rw [hasFault_sampleVoices, hunder, Bool.or_true]

end

/-! ## One voice's sample, mode by mode (R106, R107, R109) -/

section
variable {v : Voice} {sound : Nat → Byte} {s : State}

theorem sample_of_idle (h : v.phase = .idle) : v.sample sound = ⟨0, v, false⟩ := if_pos h

theorem sample_of_wave (h : v.phase ≠ .idle) (hmode : v.snapshot.mode = .wave) : v.sample sound = v.sampleWave sound := by
  rw [Voice.sample, if_neg h, hmode]

theorem sample_of_stream (h : v.phase ≠ .idle) (hmode : v.snapshot.mode = .stream) : v.sample sound = v.sampleStream := by
  rw [Voice.sample, if_neg h, hmode]

theorem sample_of_noise (h : v.phase ≠ .idle) (hmode : v.snapshot.mode = .noiseLong ∨ v.snapshot.mode = .noiseShort) :
    v.sample sound = v.sampleNoise := by
  rw [Voice.sample, if_neg h]
  rcases hmode with hmode | hmode <;> rw [hmode]

/-- The bytes by which a STREAM voice moves at a sample. -/
def streamCount (v : Voice) : Nat := (v.fraction + v.increment) / 4096

theorem sampleStream_of_unprimed (h : v.primed = false) : v.sampleStream = ⟨v.last, v, false⟩ := by
  simp [Voice.sampleStream, h]

theorem sampleStream_of_short (h : v.primed = true) (hshort : v.buffer.length < v.streamNeed (streamCount v)) :
    v.sampleStream = ⟨v.last, v, true⟩ := by
  simp only [Voice.sampleStream, h, Bool.not_true, Bool.false_eq_true, if_false]
  exact if_pos hshort

theorem sampleStream_of_fed (h : v.primed = true) (hfed : v.streamNeed (streamCount v) ≤ v.buffer.length) :
    v.sampleStream = ⟨sampleOf (v.buffer.headD 0), v.streamAdvance (streamCount v) (sampleOf (v.buffer.headD 0)), false⟩ := by
  simp only [Voice.sampleStream, h, Bool.not_true, Bool.false_eq_true, if_false]
  exact if_neg (Nat.not_lt.2 hfed)

theorem drop_min_length (k : Nat) (l : List Byte) : l.drop (min k l.length) = l.drop k := by
  rcases Nat.le_total k l.length with h | h
  · rw [Nat.min_eq_left h]
  · rw [Nat.min_eq_right h, List.drop_length, List.drop_eq_nil_of_le h]

/-- A STREAM voice moved on by k bytes, before its end or loop (R107 step 3). -/
def streamMoved (v : Voice) (k : Nat) (x : Int) : Voice :=
  { v with last := x, buffer := v.buffer.drop k, fraction := (v.fraction + v.increment) % 4096, position := v.position + k }

theorem streamAdvance_eq (v : Voice) (k : Nat) (x : Int) :
    v.streamAdvance k x =
      if v.snapshot.length ≤ v.position + k then
        if v.snapshot.loop = 0 then (streamMoved v k x).toIdle
        else { streamMoved v k x with position := loopBack v.snapshot (v.position + k) }
      else streamMoved v k x := by
  unfold Voice.streamAdvance streamMoved
  rw [drop_min_length]

theorem loopBack_spec {snap : Snapshot} {p : Nat} (hloop : snap.loop ≠ 0) (hle : snap.loop ≤ snap.length)
    (hp : snap.length ≤ p) :
    ∃ j, loopBack snap p + j * snap.loop = p ∧ loopBack snap p < snap.length ∧ snap.length ≤ loopBack snap p + snap.loop := by
  have hmod := Nat.mod_lt (p - snap.length) (Nat.pos_of_ne_zero hloop)
  have hdiv := Nat.div_add_mod (p - snap.length) snap.loop
  refine ⟨(p - snap.length) / snap.loop + 1, ?_⟩
  rw [loopBack, if_neg (Nat.not_lt.2 hp), Nat.add_one_mul, Nat.mul_comm ((p - snap.length) / snap.loop)]
  omega

theorem lfsrSteps_eq (mode : Mode) (c l : Nat) : lfsrSteps mode c l = (lfsrStep mode)^[c] l := by
  induction c generalizing l with
  | zero => rfl
  | succ c ih => rw [lfsrSteps, ih, Function.iterate_succ_apply]

end

/-! ## The mix (R116) -/

theorem dacCode_eq (z : Int) : dacCode z = (max (-512) (min 511 z) + 512).toNat := by
  unfold dacCode mixClamp
  split
  · omega
  · split <;> omega

theorem clips_iff {z : Int} : clips z = true ↔ z < -512 ∨ 511 < z := by
  simp [clips]

theorem mixSum_eq {s : State} {y : VoiceNo → Int}
    (h : ∀ n : VoiceNo, s.voices[n].contribution (s.voices[n].sample (soundByte s)).x = y n) :
    mixSum s = y 0 + y 1 + y 2 + y 3 + y 4 + y 5 := by
  unfold mixSum
  simp only [h]
  simp only [allVoices, List.foldl_cons, List.foldl_nil, zero_add]

/-- The sample of a voice that is not IDLE (R106, R107, R109). -/
def heard (s : State) (v : Voice) : Int :=
  match v.snapshot.mode with
  | .wave => sampleOf (soundByte s (32 * v.snapshot.wave + v.acc / 4096))
  | .stream =>
    if v.primed = true ∧ v.streamNeed (streamCount v) ≤ v.buffer.length then sampleOf (v.buffer.headD 0) else v.last
  | .noiseLong => if v.lfsr % 2 = 1 then 127 else -128
  | .noiseShort => if v.lfsr % 2 = 1 then 127 else -128

section
variable {v : Voice} {n : VoiceNo} {s : State}

theorem sample_x (hphase : v.phase ≠ .idle) : (v.sample (soundByte s)).x = heard s v := by
  cases hmode : v.snapshot.mode with
  | wave =>
    rw [sample_of_wave hphase hmode]
    simp only [heard, hmode]
    rfl
  | stream =>
    rw [sample_of_stream hphase hmode]
    simp only [heard, hmode]
    split
    next hfed => rw [sampleStream_of_fed hfed.1 hfed.2]
    next hstarved =>
      cases hprimed : v.primed with
      | false => rw [sampleStream_of_unprimed hprimed]
      | true => rw [sampleStream_of_short hprimed (Nat.not_le.1 fun hle => hstarved ⟨hprimed, hle⟩)]
  | noiseLong =>
    rw [sample_of_noise hphase (.inl hmode)]
    simp only [heard, hmode]
    rfl
  | noiseShort =>
    rw [sample_of_noise hphase (.inr hmode)]
    simp only [heard, hmode]
    rfl

/-- A voice's y (R116 step 1). -/
def heardMixed (s : State) (n : VoiceNo) : Int :=
  if s.voices[n].phase = .idle then 0 else heard s s.voices[n] * s.voices[n].env * s.voices[n].volume / 128

theorem mixed_eq (s : State) :
    mixed s = (heardMixed s 0 + heardMixed s 1 + heardMixed s 2 + heardMixed s 3 + heardMixed s 4 + heardMixed s 5) *
      s.mixer.master / 64 := by
  refine congrArg (mixScale · s.mixer.master) (mixSum_eq fun n => ?_)
  by_cases hidle : s.voices[n].phase = .idle
  · exact (if_pos hidle).trans (if_pos hidle).symm
  · rw [sample_x hidle]
    exact (if_neg hidle).trans (if_neg hidle).symm

theorem mixed_of_silent (h : (∀ n : VoiceNo, s.voices[n].phase = .idle) ∨ s.mixer.master = 0) : mixed s = 0 := by
  rw [mixed_eq]
  obtain hidle | hmaster := h
  · have hzero (n : VoiceNo) : heardMixed s n = 0 := if_pos (hidle n)
    simp [hzero]
  · simp [hmaster]

/-! ## One voice's record after a sample -/

theorem sample_voice_of_wave (hphase : v.phase ≠ .idle) (hmode : v.snapshot.mode = .wave) :
    (v.sample (soundByte s)).voice = { v with last := heard s v, acc := (v.acc + v.increment) % 131072 } := by
  rw [← sample_x hphase, sample_of_wave hphase hmode]
  rfl

theorem sample_voice_of_noise (hphase : v.phase ≠ .idle)
    (hmode : v.snapshot.mode = .noiseLong ∨ v.snapshot.mode = .noiseShort) :
    (v.sample (soundByte s)).voice =
      { v with last := heard s v, acc := (v.acc % 4096 + v.increment) % 4096,
               lfsr := (lfsrStep v.snapshot.mode)^[(v.acc % 4096 + v.increment) / 4096] v.lfsr } := by
  rw [← sample_x hphase, sample_of_noise hphase hmode, ← lfsrSteps_eq]
  rfl

theorem sample_voice_of_fed (hphase : v.phase ≠ .idle) (hmode : v.snapshot.mode = .stream) (hprimed : v.primed = true)
    (hfed : v.streamNeed (streamCount v) ≤ v.buffer.length) :
    (v.sample (soundByte s)).voice = v.streamAdvance (streamCount v) (heard s v) := by
  rw [← sample_x hphase, sample_of_stream hphase hmode, sampleStream_of_fed hprimed hfed]

/-- What a sample makes of a fed STREAM voice: it moves on, ends, or goes back by its loop (R107 steps 3 and 4). -/
structure StreamMoves (v : Voice) (x : Int) (v' : Voice) : Prop where
  on : v.position + streamCount v < v.snapshot.length → v' = streamMoved v (streamCount v) x
  ends : v.snapshot.length ≤ v.position + streamCount v → v.snapshot.loop = 0 →
    v' = (streamMoved v (streamCount v) x).toIdle
  loops : v.snapshot.length ≤ v.position + streamCount v → v.snapshot.loop ≠ 0 → v.snapshot.loop ≤ v.snapshot.length →
    ∃ p j, v' = { streamMoved v (streamCount v) x with position := p } ∧
      p + j * v.snapshot.loop = v.position + streamCount v ∧ p < v.snapshot.length ∧
      v.snapshot.length ≤ p + v.snapshot.loop

theorem streamMoves_streamAdvance (v : Voice) (x : Int) : StreamMoves v x (v.streamAdvance (streamCount v) x) := by
  rw [streamAdvance_eq]
  refine ⟨fun hlt => if_neg (Nat.not_le.2 hlt), fun hend hloop => (if_pos hend).trans (if_pos hloop),
    fun hend hloop hle => ?_⟩
  obtain ⟨j, hj⟩ := loopBack_spec hloop hle hend
  exact ⟨loopBack v.snapshot (v.position + streamCount v), j, (if_pos hend).trans (if_neg hloop), hj⟩

/-! ## The row -/

/-- The state the sample clock leaves. -/
def sampled (s : State) : State := countBoth .time (sampleVoices s)

theorem sampleVoices_tracks (s : State) : (sampleVoices s).tracks = s.tracks := by rw [sampleVoices_eq]

theorem sampled_of_stopped (h : ∀ k : TrackNo, s.tracks[k].state = .stopped) : sampled s = sampleVoices s :=
  countBoth_of_stopped (by rw [sampleVoices_tracks]; exact h)

theorem sampleVoices_sound (s : State) :
    (sampleVoices s).voices = (advanced s).voices ∧ (sampleVoices s).port = (advanced s).port := by
  have hwas := sampleVoices_eq s
  generalize advanced s = t at *
  generalize sampleVoices s = u at *
  rw [hwas]
  exact ⟨rfl, rfl⟩

theorem sampleVoices_voices (n : VoiceNo) (s : State) :
    (sampleVoices s).voices[n] = (s.voices[n].sample (soundByte s)).voice := by
  rw [(sampleVoices_sound s).1, advanced_voices]

theorem sampleVoices_grant (h : (s.voices[n].sample (soundByte s)).voice.phase = .idle) :
    ∀ g ∈ (sampleVoices s).port.grant, g.holder ≠ .voice n := by
  rw [(sampleVoices_sound s).2]
  exact advanced_grant h

theorem sampled_mixer (s : State) : (sampled s).mixer = { s.mixer with dac := some (dacCode (mixed s)) } := by
  have hkept : (sampled s).mixer = (sampleVoices s).mixer :=
    congrArg (·.mixer) (countWorks_countBoth .time (sampleVoices s)).frame
  rw [hkept, sampleVoices_eq]

theorem sampled_frame (s : State) :
    { sampled s with voices := s.voices, port := s.port, mixer := s.mixer, cause := s.cause, tracks := s.tracks } = s := by
  have hcount := congrArg (fun t : State => ({ t with
    voices := s.voices, port := s.port, mixer := s.mixer, cause := s.cause, tracks := s.tracks } : State))
    (countWorks_countBoth .time (sampleVoices s)).frame
  have hsample := congrArg (fun t : State => ({ t with
    voices := s.voices, port := s.port, mixer := s.mixer, cause := s.cause, tracks := s.tracks } : State)) (sampleVoices_eq s)
  exact hcount.trans hsample

theorem sampled_fault (f : FaultFlag) (h : hasFault f (sampleVoices s) = true) : hasFault f (sampled s) = true :=
  (countWorks_countBoth .time (sampleVoices s)).faults f h

theorem sourceCounts_sampled (s : State) : SourceCounts .time s (sampled s) := by
  have hcounts : ∀ k : TrackNo, Counts .time (sampleVoices s).tracks[k] (sampled s).tracks[k] (sampled s) :=
    sourceCounts_countBoth .time (sampleVoices s)
  rw [sampleVoices_tracks] at hcounts
  exact hcounts

/-- With one TIME track that comes to the end of its divider, the rest of the row is that track's tick. -/
theorem sampled_eq_trackTick {k : TrackNo} (hpow : powered s = true) (hruns : s.crystal.running = true)
    (hsource : s.tracks[k].source = .time) (hactive : s.tracks[k].state ≠ .stopped)
    (hfull : s.tracks[k].period ≤ s.tracks[k].divider + 1)
    (hother : s.tracks[otherTrack k].source ≠ .time ∨ s.tracks[otherTrack k].state = .stopped) :
    exec (.trackTick k) (sampleVoices s) = .next (sampled s) := by
  have hsupply : (sampleVoices s).supply = s.supply := congrArg (·.supply) (sampleVoices_eq s)
  have hcrystal : (sampleVoices s).crystal = s.crystal := congrArg (·.crystal) (sampleVoices_eq s)
  have htracks := sampleVoices_tracks s
  rw [sampled]
  generalize sampleVoices s = u at *
  rw [← htracks] at hsource hactive hfull hother
  have hpow' : powered u = true := by rw [powered, hsupply]; exact hpow
  have hruns' : u.crystal.running = true := by rw [hcrystal]; exact hruns
  have hcan : canTick u k = true := by
    refine canTick_of hpow' hactive ?_
    rw [sourceRuns, hsource]
    exact ticking_iff.2 ⟨hpow', hruns'⟩
  rw [countBoth_of_one hsource hactive hother, countTrack_of_full hfull]
  exact if_pos hcan

end

theorem exec_sampleClock_eq {s : State} (hpow : powered s = true) (hruns : s.crystal.running = true) :
    exec .sampleClock s = .next (sampled s) := if_pos (ticking_iff.2 ⟨hpow, hruns⟩)

/-- Settles O46: each voice's sample by its mode, their sum, and the count of the TIME tracks after them. -/
theorem sampleClockMakesDacCode : Obligations.SampleClockMakesDacCode := by
  intro s hpow hruns count need fed noise x y z stopped
  have hz : mixed s = z := mixed_eq s
  have hdac : (sampled s).mixer.dac = some (dacCode z) := by rw [sampled_mixer, hz]
  refine ⟨sampled s, exec_sampleClock_eq hpow hruns, hdac.trans (by rw [dacCode_eq]), by rw [sampled_mixer], fun hclip => ?_,
    fun hstopped hlow hhigh => ?_, fun hsilent => ?_, fun hstopped n => ?_, sampled_frame s, fun hstopped => ?_,
    sourceCounts_sampled s, fun k hsource hactive hfull hother => ?_⟩
  · refine sampled_fault .clip ?_
    rw [hasFault_clip_sampleVoices, hz, clips_iff.2 hclip, Bool.true_or]
  · have hstill : clips z = false := by
      rw [← Bool.not_eq_true, clips_iff]
      omega
    rw [sampled_of_stopped hstopped, hasFault_clip_sampleVoices, hz, hstill, Bool.false_or]
  · rw [hdac, ← hz, mixed_of_silent hsilent]
    rfl
  · intro v length loop ahead moved shifted
    have hvoice : (sampleVoices s).voices[n] = (v.sample (soundByte s)).voice := sampleVoices_voices n s
    rw [sampled_of_stopped hstopped, hvoice]
    refine ⟨fun hidle => ?_, fun hphase hmode => sample_voice_of_wave hphase hmode, fun hphase hmode => ?_,
      fun hphase hmode => sample_voice_of_noise hphase hmode⟩
    · rw [sample_of_idle hidle]
    · have hsample := sample_of_stream (sound := soundByte s) hphase hmode
      have hmoves (hfed : fed v) : StreamMoves v (x v) (v.sample (soundByte s)).voice := by
        rw [sample_voice_of_fed hphase hmode hfed.1 hfed.2]
        exact streamMoves_streamAdvance v (heard s v)
      refine ⟨fun hunprimed => ?_, fun hprimed hshort => ⟨?_, ?_⟩, fun hfed => (hmoves hfed).on, fun hfed hend hloop => ?_,
        fun hfed => (hmoves hfed).loops⟩
      · rw [hsample, sampleStream_of_unprimed hunprimed]
      · rw [hsample, sampleStream_of_short hprimed hshort]
      · refine hasFault_underrun_sampleVoices (n := n) ?_
        exact (congrArg (·.underrun) (hsample.trans (sampleStream_of_short hprimed hshort)))
      · have hended := (hmoves hfed).ends hend hloop
        exact ⟨hended, sampleVoices_grant (congrArg Voice.phase hended)⟩
  · rw [sampled_of_stopped hstopped, sampleVoices_tracks]
  · have hother : s.tracks[otherTrack k].source ≠ .time ∨ s.tracks[otherTrack k].state = .stopped :=
      hother.imp_left fun hframe htime => nomatch hframe.symm.trans htime
    exact (exec_sampleClock_eq hpow hruns).trans (sampled_eq_trackTick hpow hruns hsource hactive hfull hother).symm

end Sys2Proof.Proofs
end

section
/-! The ROM port: who stands in request, whom it grants, and what each byte read delivers (O48). -/

namespace Sys2Proof.Proofs

open Sys2Proof.Machine Sys2Proof.Safety Sys2Proof.Laws

/-! ## Whom the port grants (R18) -/

/-- Of a rising list the first with the smallest count is taken. -/
theorem fewest_eq_some {n : Nat} {count : Fin n → Nat} {l : List (Fin n)} {a : Fin n} (hsorted : l.Pairwise (· < ·))
    (hmem : a ∈ l) (hleast : ∀ u ∈ l, count a < count u ∨ count a = count u ∧ a ≤ u) : fewest count l = some a := by
  induction l with
  | nil => nomatch hmem
  | cons b l ih =>
    obtain ⟨hfirst, hsorted⟩ := List.pairwise_cons.1 hsorted
    simp only [fewest]
    rcases List.mem_cons.1 hmem with rfl | hrest
    · split
      next c hc =>
        have hle := hleast c (List.mem_cons_of_mem _ (fewest_mem hc))
        exact if_neg (by omega)
      next => rfl
    · rw [ih hsorted hrest fun u hu => hleast u (List.mem_cons_of_mem _ hu)]
      have hlt := hleast b (List.mem_cons_self ..)
      have hbefore := hfirst a hrest
      exact if_pos (by omega)

section
variable {v : VoiceNo} {k : TrackNo} {s : State}

theorem nextHolder_of_voice (hv : voiceRequests s v = true)
    (h : ∀ u, voiceRequests s u = true → s.voices[v].buffer.length < s.voices[u].buffer.length ∨
      s.voices[v].buffer.length = s.voices[u].buffer.length ∧ v ≤ u) : nextHolder s = some (.voice v) := by
  have hfew : fewest (fun v => s.voices[v].buffer.length) (allVoices.filter (voiceRequests s)) = some v := by
    refine fewest_eq_some (List.Pairwise.filter _ (by decide)) (List.mem_filter.2 ⟨mem_allVoices v, hv⟩) fun u hu => ?_
    exact h u (List.mem_filter.1 hu).2
  rw [nextHolder, hfew]

theorem nextHolder_of_track (hvoices : ∀ u, voiceRequests s u = false) (hk : trackRequests s k = true)
    (h : ∀ u, trackRequests s u = true → s.tracks[k].buffer.length < s.tracks[u].buffer.length ∨
      s.tracks[k].buffer.length = s.tracks[u].buffer.length ∧ k ≤ u) : nextHolder s = some (.track k) := by
  have hnone : allVoices.filter (voiceRequests s) = [] :=
    List.filter_eq_nil_iff.2 fun u _ => ne_true_of_eq_false (hvoices u)
  have hfew : fewest (fun t => s.tracks[t].buffer.length) (allTracks.filter (trackRequests s)) = some k := by
    refine fewest_eq_some (List.Pairwise.filter _ (by decide)) (List.mem_filter.2 ⟨mem_allTracks k, hk⟩) fun u hu => ?_
    exact h u (List.mem_filter.1 hu).2
  rw [nextHolder, hnone, hfew]
  rfl

theorem exec_romArbitration_eq {h : Holder} (hans : answered s = true) (hfree : s.port.grant = none)
    (hnext : nextHolder s = some h) :
    exec .romArbitration s = .next { s with port := { s.port with grant := some ⟨h, 0, true⟩ } } := by
  have hidle : portIdle s = true := by simp [portIdle, hans, hfree]
  simp only [exec, execRomArbitration, hidle, hnext, if_true]

theorem voiceRequests_iff :
    voiceRequests s v = true ↔ s.voices[v].phase ≠ .idle ∧ s.voices[v].snapshot.mode = .stream ∧
      s.voices[v].fetch < s.voices[v].snapshot.length ∧ s.voices[v].buffer.length ≤ 8 := by
  simp only [voiceRequests, Bool.and_eq_true, bne_iff_ne, beq_iff_eq, decide_eq_true_eq, and_assoc]

theorem goesOn_iff {e : Event} : e.goesOn = true ↔ 1 ≤ e.kind.toNat ∧ e.kind.toNat ≤ 9 := by
  simp only [Event.goesOn, Bool.and_eq_true, decide_eq_true_eq]

theorem trackRequests_iff :
    trackRequests s k = true ↔ s.tracks[k].state ≠ .stopped ∧ s.tracks[k].buffer.length < 4 ∧
      ∀ e ∈ s.tracks[k].buffer, 1 ≤ e.kind.toNat ∧ e.kind.toNat ≤ 9 := by
  simp only [trackRequests, Config.eventBufferSize, Bool.and_eq_true, bne_iff_ne, List.all_eq_true, goesOn_iff]
  exact ⟨fun ⟨⟨hactive, hgoes⟩, hroom⟩ => ⟨hactive, of_decide_eq_true hroom, hgoes⟩,
    fun ⟨hactive, hroom, hgoes⟩ => ⟨⟨hactive, hgoes⟩, decide_eq_true hroom⟩⟩

end

/-! ## A byte to a voice (R19, R108) -/

section
variable {v : VoiceNo} {k : TrackNo} {g : Grant} {s : State}

theorem afterByte_none {last : Bool} (h : 3 ≤ g.delivered ∨ last = true) : g.afterByte last = none := by
  refine if_pos ?_
  rcases h with h | h
  · exact .inr (by omega)
  · exact .inl h

theorem afterByte_some {last : Bool} (h : g.delivered < 3) (hlast : last = false) :
    g.afterByte last = some { g with delivered := g.delivered + 1, reading := true } := by
  refine if_neg ?_
  rw [hlast]
  rintro (h' | h')
  · nomatch h'
  · omega

theorem exec_romByteRead_of_voice (hans : answered s = true) (hg : s.port.grant = some g) (hv : g.holder = .voice v) :
    exec .romByteRead s = .next (deliverVoice g v s) := by
  simp only [exec, execRomByteRead, hans, hg, hv, if_true]

theorem exec_romByteRead_of_track (hans : answered s = true) (hg : s.port.grant = some g) (hk : g.holder = .track k) :
    exec .romByteRead s = .next (deliverTrack g k s) := by
  simp only [exec, execRomByteRead, hans, hg, hk, if_true]

/-- The voice's record with one more stream byte (R107, R108). -/
theorem receive_eq (w : Voice) (b : Byte) :
    w.receive b =
      { w with
        buffer := w.buffer ++ [b],
        fetch := if w.fetch + 1 = w.snapshot.length ∧ w.snapshot.loop ≠ 0 then w.snapshot.length - w.snapshot.loop
          else w.fetch + 1,
        primed := w.primed || decide (8 ≤ w.buffer.length + 1) ||
          decide (w.snapshot.loop = 0 ∧ w.snapshot.length ≤ w.buffer.length + 1) } := by
  simp only [Voice.receive, nextFetch, primes, Nat.pos_iff_ne_zero, beq_eq_decide, Bool.or_assoc, Bool.decide_and]

/-- The voice's fetching ends with this byte: its buffer is full, or its stream is fetched (R19). -/
def lastFetched (w : Voice) : Bool :=
  decide (Config.streamBufferSize ≤ w.buffer.length) || decide (w.snapshot.length ≤ w.fetch)

theorem deliverVoice_eq (g : Grant) (v : VoiceNo) (s : State) :
    deliverVoice g v s =
      setGrant (g.afterByte (lastFetched (s.voices[v].receive (romByte s s.voices[v].fetchAddr))))
        (setVoice v (s.voices[v].receive (romByte s s.voices[v].fetchAddr)) s) := rfl

theorem lastFetched_iff {w : Voice} : lastFetched w = true ↔ 16 ≤ w.buffer.length ∨ w.snapshot.length ≤ w.fetch := by
  rw [lastFetched, Bool.or_eq_true, decide_eq_true_iff, decide_eq_true_iff]
  exact Iff.rfl

/-! ## A byte to a track (R19, R123) -/

theorem eventOf_length {l : List Byte} {e : Event} (h : eventOf l = some e) : l.length = 6 := by
  unfold eventOf at h
  split at h
  · rfl
  · nomatch h

/-- The byte that arrives for a track. -/
def arrivedByte (s : State) (k : TrackNo) : Byte :=
  romByte s (s.tracks[k].fetchAddr + BitVec.ofNat 24 s.port.partials[k].length)

theorem deliverTrack_of_part (h : s.port.partials[k].length < 5) :
    deliverTrack g k s =
      setGrant (g.afterByte false) { s with port := { s.port with
        partials := s.port.partials.set k.val (s.port.partials[k] ++ [arrivedByte s k]) k.isLt } } := by
  have hnone : eventOf (s.port.partials[k] ++ [arrivedByte s k]) = none := by
    rw [Option.eq_none_iff_forall_ne_some]
    intro e he
    have hlen := eventOf_length he
    rw [List.length_append, List.length_singleton] at hlen
    omega
  unfold deliverTrack
  rw [arrivedByte] at hnone
  simp only [hnone]
  rfl

/-- The port after an event is complete. -/
def completedPort (k : TrackNo) (s : State) : State :=
  { s with port := { grant := none, partials := s.port.partials.set k.val [] k.isLt } }

theorem deliverTrack_of_event {e : Event} (h : eventOf (s.port.partials[k] ++ [arrivedByte s k]) = some e) :
    deliverTrack g k s = joinEvent k e (completedPort k s) := by
  unfold deliverTrack
  rw [arrivedByte] at h
  simp only [h]
  rfl

/-- The track with an event joined to its buffer (R123). -/
def joinedTrack (e : Event) (r : Track) : Track := { r with buffer := r.buffer ++ [e], fetchAddr := r.fetchAddr + 6 }

theorem joinEvent_of_running {e : Event} (h : s.tracks[k].state = .running) :
    joinEvent k e s = setTrack k (joinedTrack e s.tracks[k]) s := by
  have hwaits : (s.tracks[k].state == .waiting) = false := by rw [h]; rfl
  simp only [joinEvent, hwaits]
  rfl

theorem joinEvent_of_waiting {e : Event} (h : s.tracks[k].state = .waiting) (hempty : s.tracks[k].buffer = []) :
    joinEvent k e s = loadHead 1 k (setTrack k (joinedTrack e s.tracks[k]) s) := by
  have hwaits : (s.tracks[k].state == .waiting) = true := by rw [h]; rfl
  have hget := setTrack_get k (joinedTrack e s.tracks[k]) s
  have hlen : (joinedTrack e s.tracks[k]).buffer.length = 1 := by rw [joinedTrack, hempty]; rfl
  simp only [joinEvent, hwaits, if_true]
  rw [← hget] at hlen
  exact congrArg (fun n => loadHead n k (setTrack k (joinedTrack e s.tracks[k]) s)) hlen

end

/-! ## An event acted on at its arrival -/

/-- The state with another crystal and another frame capture, which no event reads. -/
def withClocks (c : Crystal) (f : FrameCapture) (s : State) : State := { s with crystal := c, frame := f }

section
variable {k : TrackNo} {c : Crystal} {f : FrameCapture} {e : Event} {q : Track} {s : State}

theorem setFault_withClocks (x : FaultFlag) : setFault x (withClocks c f s) = withClocks c f (setFault x s) := by
  rw [setFault_of_same_cause x (s := s) (t := withClocks c f s) rfl, setFault_eq x s]
  rfl

theorem putVoice_withClocks (n : VoiceNo) (v : Voice) :
    putVoice n v (withClocks c f s) = withClocks c f (putVoice n v s) := by
  unfold putVoice
  split <;> rfl

theorem releaseVoice_withClocks (n : VoiceNo) :
    releaseVoice n (withClocks c f s) = withClocks c f (releaseVoice n s) :=
  putVoice_withClocks n s.voices[n].releaseRequest

theorem noteRequest_withClocks (n : VoiceNo) :
    noteRequest e n (withClocks c f s) = withClocks c f (noteRequest e n s) := by
  cases hrecord : instrumentOf s s.voices[n].selected with
  | none =>
    have hinvalid : instrumentOf (withClocks c f s) (withClocks c f s).voices[n].selected = none := hrecord
    rw [noteRequest_of_invalid hrecord, noteRequest_of_invalid hinvalid, setFault_withClocks]
  | some snap =>
    have hvalid : instrumentOf (withClocks c f s) (withClocks c f s).voices[n].selected = some snap := hrecord
    rw [noteRequest_of_record hrecord, noteRequest_of_record hvalid]
    rfl

theorem voiceRequest_withClocks {request : VoiceNo → State → State}
    (h : ∀ n s, request n (withClocks c f s) = withClocks c f (request n s)) :
    voiceRequest k e request (withClocks c f s) = withClocks c f (voiceRequest k e request s) := by
  unfold voiceRequest
  split
  · exact setFault_withClocks _
  · rw [h]
    exact (apply_ite (withClocks c f) ..).symm

theorem dismissVoice_withClocks (n : VoiceNo) :
    dismissVoice k (withClocks c f s) n = withClocks c f (dismissVoice k s n) := by
  unfold dismissVoice
  simp only
  rw [releaseVoice_withClocks, show (withClocks c f s).voices = s.voices from rfl]
  rw [← apply_ite (withClocks c f)]
  generalize (if s.voices[n].owner = .track k then releaseVoice n s else s) = t
  by_cases h : t.voices[n].home = some k
  · rw [if_pos h]
    exact if_pos h
  · rw [if_neg h]
    exact if_neg h

theorem dismissAll_withClocks : dismissAll k (withClocks c f s) = withClocks c f (dismissAll k s) := by
  have hfold (l : List VoiceNo) (s : State) :
      l.foldl (dismissVoice k) (withClocks c f s) = withClocks c f (l.foldl (dismissVoice k) s) := by
    induction l generalizing s with
    | nil => rfl
    | cons n l ih => rw [List.foldl_cons, List.foldl_cons, dismissVoice_withClocks, ih]
  exact hfold allVoices s

theorem latchMarker_withClocks : latchMarker k (withClocks c f s) = withClocks c f (latchMarker k s) := by
  have hcause := latchMarker_congr k (s := s) (t := withClocks c f s) rfl
  rw [latchMarker_eq k (withClocks c f s), hcause, latchMarker_eq k s]
  rfl

theorem tuneVoice_withClocks (g : Voice → Voice) (n : VoiceNo) (s : State) :
    tuneVoice g n (withClocks c f s) = withClocks c f (tuneVoice g n s) := rfl

/-- The voice side of a voice event does not read the clocks. -/
theorem performEvent_withClocks_of_voice (hlow : 1 ≤ e.kind.toNat) (hhigh : e.kind.toNat ≤ 5) :
    performEvent k e (withClocks c f s) = withClocks c f (performEvent k e s) := by
  rcases kind_voice hlow hhigh with h | h | h | h | h
  · rw [performEvent_note h, performEvent_note h, voiceRequest_withClocks fun n s => noteRequest_withClocks n]
  · rw [performEvent_off h, performEvent_off h, voiceRequest_withClocks fun n s => releaseVoice_withClocks n]
  · rw [performEvent_instr h, performEvent_instr h, voiceRequest_withClocks (tuneVoice_withClocks _)]
  · rw [performEvent_vol h, performEvent_vol h, voiceRequest_withClocks (tuneVoice_withClocks _)]
  · rw [performEvent_pitch h, performEvent_pitch h, voiceRequest_withClocks (tuneVoice_withClocks _)]

/-- The track's record with a state and a divider of its own. -/
def inState (x : TrackState) (d : Nat) (r : Track) : Track := { r with state := x, divider := d }

theorem flushFetch_halted (x : TrackState) (d : Nat) (u : State) :
    flushFetch k (setTrack k (halted (inState x d q)) (withClocks c f u)) =
      setTrack k (inState .stopped d (halted q)) (withClocks c f (flushFetch k u)) := rfl

/-- An event's work as a record and a state, whatever the track's state and divider and whatever the clocks: it stops the
track or leaves its state, and it keeps the divider and an empty buffer. -/
theorem performEvent_course (e : Event) (k : TrackNo) (q : Track) (s : State) (hempty : q.buffer = []) :
    ∃ (g : Track) (u : State) (stops : Bool), g.buffer = [] ∧
      ∀ x d c f, performEvent k e (setTrack k (inState x d q) (withClocks c f s)) =
        setTrack k (inState (if stops then .stopped else x) d g) (withClocks c f u) := by
  by_cases hunknown : 9 < e.kind.toNat
  · refine ⟨halted q, flushFetch k (dismissAll k (setFault .badEvent s)), true, rfl, fun x d c f => ?_⟩
    rw [performEvent_unknown hunknown, setFault_setTrack, stopTrack_setTrack, setFault_withClocks, dismissAll_withClocks,
      flushFetch_halted]
    rfl
  by_cases hvoice : 1 ≤ e.kind.toNat ∧ e.kind.toNat ≤ 5
  · obtain ⟨hlow, hhigh⟩ := hvoice
    refine ⟨q, performEvent k e s, false, hempty, fun x d c f => ?_⟩
    rw [performEvent_setTrack_of_voice hlow hhigh, performEvent_withClocks_of_voice hlow hhigh]
    rfl
  rcases kind_track (Nat.not_lt.1 hunknown) hvoice with h | h | h | h | h
  · refine ⟨halted q, flushFetch k (dismissAll k s), true, rfl, fun x d c f => ?_⟩
    rw [performEvent_end h, stopTrack_setTrack, dismissAll_withClocks, flushFetch_halted]
    rfl
  · refine ⟨{ q with period := tempoPeriod q.source e.value.toNat }, s, false, hempty, fun x d c f => ?_⟩
    rw [performEvent_tempo h, changeTrack_setTrack]
    rfl
  · refine ⟨loopRequest e q, s, false, hempty, fun x d c f => ?_⟩
    rw [performEvent_loop h, changeTrack_setTrack]
    rfl
  · obtain hmark | ⟨m, hmark⟩ := Option.eq_none_or_eq_some q.loopMark
    · refine ⟨q, s, false, hempty, fun x d c f => ?_⟩
      rw [performEvent_back h, backRequest_of_none (by exact hmark)]
      rfl
    · by_cases hm : m.forever = true ∨ 0 < m.remaining
      · refine ⟨jumped m q, flushFetch k s, false, rfl, fun x d c f => ?_⟩
        rw [performEvent_back h, backRequest_of_jump (by exact hmark) hm]
        rfl
      · refine ⟨{ q with loopMark := none }, s, false, hempty, fun x d c f => ?_⟩
        rw [performEvent_back h, backRequest_of_done (by exact hmark) hm]
        rfl
  · refine ⟨{ q with marker := e.extra }, latchMarker k s, false, hempty, fun x d c f => ?_⟩
    rw [performEvent_marker h, markerRequest_setTrack, latchMarker_withClocks]
    rfl

/-- A track whose event has been acted on, with nothing behind it. -/
def atRest (stops : Bool) (d : Nat) (g : Track) : Track :=
  if stops then inState .stopped d g else { inState .waiting d g with wait := none }

theorem loadHead_atRest {g : Track} {x : TrackState} {n d : Nat} (hempty : g.buffer = []) (hx : x ≠ .stopped) (stops : Bool)
    (u : State) :
    loadHead n k (setTrack k (inState (if stops then .stopped else x) d g) u) = setTrack k (atRest stops d g) u := by
  have hget := setTrack_get k (inState (if stops then .stopped else x) d g) u
  cases stops with
  | true => rw [loadHead_of_stopped (by rw [hget]; rfl)]; rfl
  | false =>
    rw [loadHead_of_empty (by rw [hget]; exact hx) (by rw [hget]; exact hempty), changeTrack, hget, setTrack_setTrack]
    rfl

theorem atRest_divider (stops : Bool) (d d' : Nat) (g : Track) :
    { atRest stops d g with divider := d' } = atRest stops d' g := by
  cases stops <;> rfl

/-- The track as an event of delta 0 that has arrived is taken from its buffer. -/
def arrivalTaken (r : Track) : Track :=
  { r with buffer := [], fetchAddr := r.fetchAddr + 6, nextAddr := r.nextAddr + 6, wait := none }

theorem loadHead_joined (hwaiting : s.tracks[k].state = .waiting) (hempty : s.tracks[k].buffer = []) (hdelta : e.delta = 0) :
    joinEvent k e s =
      loadHead 0 k (performEvent k e (setTrack k (inState .waiting s.tracks[k].divider (arrivalTaken s.tracks[k])) s)) := by
  have hget := setTrack_get k (joinedTrack e s.tracks[k]) s
  have htaken : inState .waiting s.tracks[k].divider (arrivalTaken s.tracks[k]) =
      { joinedTrack e s.tracks[k] with
        buffer := [], wait := none, nextAddr := (joinedTrack e s.tracks[k]).nextAddr + 6 } := by
    simp only [inState, ← hwaiting]
    rfl
  rw [joinEvent_of_waiting hwaiting hempty, loadHead_of_zero (rest := []) (by rw [hget]; exact fun h => nomatch hwaiting.symm.trans h)
    (by rw [hget, joinedTrack, hempty]; rfl) hdelta, actOnEvent, changeTrack_setTrack, htaken]

/-- The track with the arrived event due at the next tick. -/
def dueTrack (e : Event) (r : Track) : Track :=
  { r with buffer := [e], fetchAddr := r.fetchAddr + 6, state := .running, wait := some 1 }

theorem fullTick_dueTrack (e : Event) (r : Track) (u : State) :
    fullTick k (setTrack k (dueTrack e r) u) =
      loadHead 0 k (performEvent k e (setTrack k (inState .running 0 (arrivalTaken r)) u)) := by
  have hget := setTrack_get k (dueTrack e r) u
  rw [fullTick_of_due (e := e) (tail := []) (by rw [hget]; rfl) (by rw [hget]; rfl) (by rw [hget]; rfl), hget,
    setTrack_setTrack]
  rfl

theorem exec_trackTick_dueTrack (hans : answered s = true) {r : Track} (c : Crystal) (f : FrameCapture)
    (hruns : c.running = true) (hpresent : f.state = .present) :
    exec (.trackTick k) (setTrack k (dueTrack e r) (withClocks c f s)) =
      .next (fullTick k (setTrack k (dueTrack e r) (withClocks c f s))) := by
  have hget := setTrack_get k (dueTrack e r) (withClocks c f s)
  have hpow := powered_of_answered hans
  refine if_pos (canTick_of (s := setTrack k (dueTrack e r) (withClocks c f s)) hpow
    (by rw [hget]; exact TrackState.noConfusion) (sourceRuns_iff.2 ?_))
  cases hsource : r.source with
  | time => exact .inl ⟨by rw [hget]; exact hsource, hpow, hruns⟩
  | frame => exact .inr ⟨by rw [hget]; exact hsource, hans, .inl hpresent⟩

theorem joinEvent_of_delta (hwaiting : s.tracks[k].state = .waiting) (hempty : s.tracks[k].buffer = [])
    (hdelta : e.delta ≠ 0) :
    joinEvent k e s =
      setTrack k { s.tracks[k] with
        buffer := [e], fetchAddr := s.tracks[k].fetchAddr + 6, state := .running, wait := some e.delta.toNat } s := by
  have hget := setTrack_get k (joinedTrack e s.tracks[k]) s
  rw [joinEvent_of_waiting hwaiting hempty,
    loadHead_of_delta (rest := []) (by rw [hget]; exact fun h => nomatch hwaiting.symm.trans h)
      (by rw [hget, joinedTrack, hempty]; rfl) hdelta, changeTrack_setTrack, joinedTrack, hempty]
  rfl

/-- An event of delta 0 is acted on at its arrival as at the tick that makes it due, the divider and the clocks untouched. -/
theorem joinEvent_eq_fullTick (hwaiting : s.tracks[k].state = .waiting) (hempty : s.tracks[k].buffer = [])
    (hdelta : e.delta = 0) {c : Crystal} {f : FrameCapture} {u : State}
    (hu : fullTick k (setTrack k (dueTrack e s.tracks[k]) (withClocks c f s)) = u) :
    joinEvent k e s = { u with
      crystal := s.crystal, frame := s.frame,
      tracks := u.tracks.set k.val { u.tracks[k] with divider := s.tracks[k].divider } k.isLt } := by
  obtain ⟨g, v, stops, hg, hcourse⟩ := performEvent_course e k (arrivalTaken s.tracks[k]) s rfl
  have hnow := hcourse .waiting s.tracks[k].divider s.crystal s.frame
  have hdue := hcourse .running 0 c f
  have harrival : joinEvent k e s = setTrack k (atRest stops s.tracks[k].divider g) (withClocks s.crystal s.frame v) := by
    rw [loadHead_joined hwaiting hempty hdelta, show s = withClocks s.crystal s.frame s from rfl]
    exact (congrArg (loadHead 0 k) hnow).trans (loadHead_atRest hg TrackState.noConfusion stops _)
  have htick : fullTick k (setTrack k (dueTrack e s.tracks[k]) (withClocks c f s)) =
      setTrack k (atRest stops 0 g) (withClocks c f v) := by
    rw [fullTick_dueTrack]
    exact (congrArg (loadHead 0 k) hdue).trans (loadHead_atRest hg TrackState.noConfusion stops _)
  have hget := setTrack_get k (atRest stops 0 g) (withClocks c f v)
  rw [harrival, ← hu, htick, hget, atRest_divider]
  simp only [setTrack, withClocks, Vector.set_set]

end

/-- Settles O48: the requests, the grant to the first of the least, and the byte's way to its holder. -/
theorem romPortGrantsAndDelivers : Obligations.RomPortGrantsAndDelivers := by
  intro v k g s hans byteAt w r part arrived
  refine ⟨voiceRequests_iff, trackRequests_iff, fun hfree hv hleast => ?_, fun hfree hvoices hk hleast => ?_,
    fun hg hv => ?_, fun hg hk => ⟨fun hpart => ?_, fun b0 b1 b2 b3 b4 hpart => ?_⟩⟩
  · exact exec_romArbitration_eq hans hfree (nextHolder_of_voice hv hleast)
  · exact exec_romArbitration_eq hans hfree (nextHolder_of_track hvoices hk hleast)
  · intro b held fetch primed fed
    have hfed : w.receive (romByte s w.fetchAddr) = fed := receive_eq ..
    have hlength : fed.buffer.length = held := by simp [fed, held]
    have hdeliver := deliverVoice_eq g v s
    rw [show s.voices[v].receive (romByte s s.voices[v].fetchAddr) = fed from hfed] at hdeliver
    refine ⟨_, (exec_romByteRead_of_voice hans hg hv).trans (congrArg _ hdeliver), rfl, fun h => ?_, fun hless hroom hmore => ?_,
      rfl, rfl⟩
    · refine afterByte_none (h.imp_right fun h => lastFetched_iff.2 ?_)
      rw [hlength]
      exact h
    · refine afterByte_some hless ?_
      rw [← Bool.not_eq_true, lastFetched_iff, hlength]
      exact not_or.2 ⟨Nat.not_le.2 hroom, Nat.not_le.2 hmore⟩
  · have hdeliver := deliverTrack_of_part (g := g) (k := k) (s := s) hpart
    refine ⟨_, (exec_romByteRead_of_track hans hg hk).trans (congrArg _ hdeliver), rfl, fun h => afterByte_none (.inl h),
      fun h => afterByte_some h rfl, rfl⟩
  · intro e loaded joined port
    have hevent : eventOf (s.port.partials[k] ++ [arrivedByte s k]) = some e := by
      rw [show s.port.partials[k] = [b0, b1, b2, b3, b4] from hpart]
      rfl
    have hexec := (exec_romByteRead_of_track hans hg hk).trans (congrArg _ (deliverTrack_of_event (g := g) hevent))
    refine ⟨fun hwaiting hempty hdelta => ?_, fun hwaiting hempty hdelta => ?_, fun hrun => ?_⟩
    · exact hexec.trans (congrArg _ (joinEvent_of_delta (s := completedPort k s) hwaiting hempty hdelta))
    · intro due
      obtain ⟨u, hu⟩ : ∃ u, fullTick k (setTrack k (dueTrack e s.tracks[k])
          (withClocks { s.crystal with running := true } { s.frame with state := .present } (completedPort k s))) = u :=
        ⟨_, rfl⟩
      have hjoin := joinEvent_eq_fullTick (s := completedPort k s) (e := e) hwaiting hempty hdelta hu
      have htick := exec_trackTick_dueTrack (k := k) (e := e) (s := completedPort k s) (r := s.tracks[k]) hans
        { s.crystal with running := true } { s.frame with state := .present } rfl rfl
      rw [hu] at htick
      exact ⟨u, htick, hexec.trans (congrArg _ hjoin)⟩
    · exact hexec.trans (congrArg _ (joinEvent_of_running (s := completedPort k s) hrun))

end Sys2Proof.Proofs
end

section
/-! SUPPORT. How a request ends and how one starts, as equations on the drive and the supply watch (R138, R139, R145,
R161). -/

namespace Sys2Proof.Proofs

open Sys2Proof.Machine Sys2Proof.Safety Sys2Proof.Laws

section
variable {a : Active} {e : EndReason} {f : Flight} {r : Request} {s t : State} {u : Supply}

/-! ## The end of a request -/

/-- What the end of its kick leaves in place of the ended request (R139). -/
def closed (e : EndReason) (s : State) : Rumble := { s.rumble with active := none, lastEnd := e }

/-- A request that ends is its kick that ends, then the closed drive and RUMBLE END's latch. -/
theorem closeRequest_of_endKick (e : EndReason) (s : State) :
    closeRequest e s =
      { endKick { s with rumble := { s.rumble with lastEnd := e } } with rumble := closed e s, cause := closedCause e s } := by
  have hrumble := closeRequest_rumble e s
  have hcause := closeRequest_cause e s
  rw [closed, ← hrumble, ← hcause]
  unfold closeRequest
  simp only
  split
  · rfl
  · rw [latchRumbleEnd_eq]
    rfl

theorem closeRequest_of_leaves (ha : s.rumble.active = some a) (h : Leaves s a u) :
    closeRequest e s = { s with rumble := closed e s, cause := closedCause e s, supply := u } := by
  rw [closeRequest_of_endKick, endKick_leaves (s := { s with rumble := { s.rumble with lastEnd := e } }) (by exact ha) h]
  rfl

/-- The drive and the interrupt unit do not matter to the engine that is given the grant. -/
theorem Handed.beside (h : Handed f s t) (x : Rumble) (c : CauseUnit) :
    Handed f { s with rumble := x, cause := c } { t with rumble := x, cause := c } where
  supply := h.supply
  rumble := rfl
  erase := h.erase
  commit := h.commit
  directory := h.directory
  rest := by
    have hrest := congrArg (fun u : State => ({ u with rumble := x, cause := c } : State)) h.rest
    exact hrest

theorem handed_closeRequest (ha : s.rumble.active = some a) (hk : ∃ n, a.kick = .kicking n)
    (hheld : s.supply.holder = .kicker) (hkicker : s.supply.kickerReq = false) (hengine : s.supply.engineReq = true)
    (hf : s.engine.flight = some f) (hkind : f.kind = .commit ∨ f.kind = .erase) :
    Handed f { s with rumble := closed e s, cause := closedCause e s } (closeRequest e s) := by
  have hend : Handed f _ (endKick { s with rumble := { s.rumble with lastEnd := e } }) :=
    handed_endKick (a := a) (by exact ha) hk (by exact hheld) (.inl hkicker) (by exact hengine) (by exact hf) hkind
  rw [closeRequest_of_endKick]
  exact hend.beside ..

/-- The flight that waited has done what the grant lets it do at once (R56, R57). -/
def Worked (f : Flight) (s t : State) : Prop :=
  (f.kind = .erase → t.engine = { s.engine with flight := some { f with stage := .fill } } ∧ t.dir = s.dir) ∧
  (f.kind = .commit → t.engine = { s.engine with flight := none } ∧ t.dir.slots[f.slot].state = .valid ∧
    t.dir.slots[f.slot].current = s.dir.slots[f.slot].working ∧
    t.dir.slots[f.slot].stored = s.dir.slots[f.slot].workCheck ∧
    ∀ m : SlotNo, m ≠ f.slot → t.dir.slots[m] = s.dir.slots[m])

theorem Handed.worked (h : Handed f s t) : Worked f s t := by
  refine ⟨h.erase, fun hk => ?_⟩
  obtain ⟨hengine, hslot, hothers⟩ := h.commit hk
  refine ⟨hengine, ?_, ?_, ?_, hothers⟩
  all_goals
    rw [hslot]
    rfl

/-! ## The start of a request -/

/-- A request on the first step of its pattern (R138). -/
def onFirstStep (s : State) (r : Request) : Active :=
  ⟨r, 0, (((patternOf s r).steps.head?.map fun st => st.duration).getD 0), r.allowance, .none⟩

theorem stepDuration_zero (p : Pattern) : stepDuration p 0 = (p.steps.head?.map fun st => st.duration).getD 0 := by
  rw [List.head?_eq_getElem?, stepDuration]
  cases p.steps[0]? <;> rfl

theorem startRequest_eq (r : Request) (s : State) : startRequest r s = kickRule (setActive (some (onFirstStep s r)) s) := by
  rw [onFirstStep, ← stepDuration_zero]
  rfl

/-- What the kick rule leaves of a request without a kick, beside x and u: no kick, the kick given, or the kick that waits
(R145, R161). -/
def KickRuled (kicks : Prop) (x : Rumble) (u : Supply) (a : Active) (t : State) : Prop :=
  (¬kicks → t.rumble = { x with active := some a } ∧ t.supply = u) ∧
  (kicks → u.holder = .none → t.rumble = { x with active := some { a with kick := .kicking 3 } } ∧
    t.supply = { u with holder := .kicker, kickerReq := false }) ∧
  (kicks → u.holder ≠ .none → t.rumble = { x with active := some { a with kick := .waiting } } ∧
    t.supply = { u with kickerReq := true })

theorem kickRuled_kickRuleIf {kicks : Prop} {stopped : Bool} (h : kicks ↔ kickBegins stopped (setActive (some a) s) a = true) :
    KickRuled kicks s.rumble s.supply a (kickRuleIf stopped (setActive (some a) s)) ∧
      { kickRuleIf stopped (setActive (some a) s) with rumble := s.rumble, supply := s.supply } = s := by
  by_cases hkicks : kicks
  · have hbegins := h.1 hkicks
    by_cases hfree : s.supply.holder = .none
    · rw [kickRuleIf_of_free rfl hbegins (by exact hfree)]
      exact ⟨⟨fun hn => absurd hkicks hn, fun _ _ => ⟨rfl, rfl⟩, fun _ hn => absurd hfree hn⟩, rfl⟩
    · rw [kickRuleIf_of_held rfl hbegins (by exact hfree)]
      exact ⟨⟨fun hn => absurd hkicks hn, fun _ hn => absurd hn hfree, fun _ _ => ⟨rfl, rfl⟩⟩, rfl⟩
  · rw [kickRuleIf_of_not rfl (eq_false_of_ne_true (mt h.2 hkicks))]
    exact ⟨⟨fun _ => ⟨rfl, rfl⟩, fun hk => absurd hk hkicks, fun hk => absurd hk hkicks⟩, rfl⟩

/-- A request that starts begins a kick: the motor is stopped, may drive, and the first step drives it (R145). -/
def Kicks (s : State) (r : Request) : Prop :=
  8 ≤ s.rumble.zeroRun ∧ s.supply.monitor = .run ∧ s.profile.motor = true ∧ hasFault .stall s = false ∧
    s.rumble.hot = false ∧ ∃ l, (patternOf s r).steps.head?.map (fun st => st.level) = some (.drive (l + 1))

theorem driven_iff {l : Level} : l.driven = true ↔ ∃ n, l = .drive (n + 1) := by
  cases l with
  | brake => simp [Level.driven]
  | drive n => cases n <;> simp [Level.driven]

theorem activeLevel_onFirstStep :
    (activeLevel s (onFirstStep s r)).driven = true ↔
      ∃ l, (patternOf s r).steps.head?.map (fun st => st.level) = some (.drive (l + 1)) := by
  rw [driven_iff]
  simp only [activeLevel, onFirstStep, List.head?_eq_getElem?]
  cases (patternOf s r).steps[0]? <;> simp

theorem kicks_iff : Kicks s r ↔
    kickBegins (motorStopped (setActive (some (onFirstStep s r)) s)) (setActive (some (onFirstStep s r)) s)
      (onFirstStep s r) = true := by
  have hlevel := activeLevel_onFirstStep (s := s) (r := r)
  rw [kickBegins_iff, Kicks, ← hlevel]
  have hstopped : motorStopped (setActive (some (onFirstStep s r)) s) = true ↔ 8 ≤ s.rumble.zeroRun :=
    decide_eq_true_iff
  rw [hstopped]
  constructor
  · rintro ⟨hzero, hrun, hmotor, hstall, hhot, hdriven⟩
    exact ⟨rfl, hrun, hmotor, hstall, hdriven, hzero, hhot⟩
  · rintro ⟨-, hrun, hmotor, hstall, hdriven, hzero, hhot⟩
    exact ⟨hzero, hrun, hmotor, hstall, hhot, hdriven⟩

theorem kickRuled_startRequest (r : Request) (s : State) :
    KickRuled (Kicks s r) s.rumble s.supply (onFirstStep s r) (startRequest r s) ∧
      { startRequest r s with rumble := s.rumble, supply := s.supply } = s := by
  rw [startRequest_eq]
  exact kickRuled_kickRuleIf kicks_iff

theorem startRequest_cause (r : Request) (s : State) : (startRequest r s).cause = s.cause :=
  congrArg (·.cause) (kickRuled_startRequest r s).2

theorem startRequest_dir (r : Request) (s : State) : (startRequest r s).dir = s.dir :=
  congrArg (·.dir) (kickRuled_startRequest r s).2

theorem startRequest_engine (r : Request) (s : State) : (startRequest r s).engine = s.engine :=
  congrArg (·.engine) (kickRuled_startRequest r s).2

/-! ## A request that starts in the place of one that ended -/

/-- The request has ended and the queue is this one. -/
def leftWith (e : EndReason) (queue : List Request) (s : State) : State :=
  { closeRequest e s with rumble := { closed e s with queue := queue } }

theorem leftWith_of_rest {queue : List Request} :
    { closeRequest e s with rumble := { (closeRequest e s).rumble with queue := queue } } = leftWith e queue s := by
  rw [leftWith, closeRequest_rumble]
  rfl

theorem leftWith_self : leftWith e s.rumble.queue s = closeRequest e s := by
  rw [← leftWith_of_rest, closeRequest_rumble]
  exact congrArg (fun x : Rumble => ({ closeRequest e s with rumble := x } : State)) (closeRequest_rumble e s).symm

theorem closeRequest_monitor (e : EndReason) (s : State) : (closeRequest e s).supply.monitor = s.supply.monitor := by
  have hkick : (endKick { s with rumble := { s.rumble with lastEnd := e } }).supply.monitor = s.supply.monitor :=
    congrArg (·.supply.monitor) (outsideGrant_endKick { s with rumble := { s.rumble with lastEnd := e } })
  rw [closeRequest_of_endKick]
  exact hkick

theorem closeRequest_profile (e : EndReason) (s : State) : (closeRequest e s).profile = s.profile :=
  congrArg (·.profile) (closeRequest_eq e s)

theorem kicks_leftWith {queue : List Request} : Kicks (leftWith e queue s) r ↔ Kicks s r := by
  have hmonitor : (leftWith e queue s).supply.monitor = s.supply.monitor := closeRequest_monitor e s
  have hprofile : (leftWith e queue s).profile = s.profile := closeRequest_profile e s
  have hstall : hasFault .stall (leftWith e queue s) = hasFault .stall s := hasFault_closeRequest ..
  unfold Kicks
  rw [hmonitor, hprofile, hstall]
  rfl

/-- What starts in the place of the ended request is ruled by the kick rule on the state before. -/
theorem kickRuled_leftWith {queue : List Request} (hu : (closeRequest e s).supply = u) :
    KickRuled (Kicks s r) { closed e s with queue := queue } u (onFirstStep s r)
      (startRequest r (leftWith e queue s)) := by
  have hruled := (kickRuled_startRequest r (leftWith e queue s)).1
  rw [propext kicks_leftWith] at hruled
  rw [← hu]
  exact hruled

theorem started_frame {queue : List Request} :
    { startRequest r (leftWith e queue s) with
      rumble := s.rumble, cause := s.cause, supply := s.supply, dir := s.dir, engine := s.engine } = s := by
  have hstart := congrArg (fun t : State => ({ t with
    rumble := s.rumble, cause := s.cause, supply := s.supply, dir := s.dir, engine := s.engine } : State))
    (kickRuled_startRequest r (leftWith e queue s)).2
  have hclose := congrArg (fun t : State => ({ t with
    rumble := s.rumble, cause := s.cause, supply := s.supply, dir := s.dir, engine := s.engine } : State))
    (closeRequest_eq e s)
  exact hstart.trans hclose

theorem started_cause {queue : List Request} :
    (startRequest r (leftWith e queue s)).cause = closedCause e s :=
  (startRequest_cause ..).trans (closeRequest_cause e s)

/-- Where no engine is given the grant the start leaves directory and engine. -/
theorem started_frame_of_leaves {queue : List Request} (ha : s.rumble.active = some a) (h : Leaves s a u) :
    { startRequest r (leftWith e queue s) with rumble := s.rumble, cause := s.cause, supply := s.supply } = s := by
  have hclose := closeRequest_of_leaves (e := e) ha h
  have hdir : (startRequest r (leftWith e queue s)).dir = s.dir :=
    (startRequest_dir ..).trans (congrArg (·.dir) hclose)
  have hengine : (startRequest r (leftWith e queue s)).engine = s.engine :=
    (startRequest_engine ..).trans (congrArg (·.engine) hclose)
  have hframe := started_frame (e := e) (r := r) (queue := queue) (s := s)
  rw [← hdir, ← hengine] at hframe
  exact hframe

theorem Worked.started {queue : List Request} (h : Worked f s (closeRequest e s)) :
    Worked f s (startRequest r (leftWith e queue s)) := by
  have hdir : (startRequest r (leftWith e queue s)).dir = (closeRequest e s).dir := startRequest_dir ..
  have hengine : (startRequest r (leftWith e queue s)).engine = (closeRequest e s).engine := startRequest_engine ..
  unfold Worked
  rw [hdir, hengine]
  exact h

end

end Sys2Proof.Proofs
end

section
/-! PATTERN LOAD and the rumble commands (O52). -/

namespace Sys2Proof.Proofs

open Sys2Proof.Machine Sys2Proof.Safety Sys2Proof.Laws

/-! ## The fields of PATTERN LOAD (R136) -/

/-- The bytes of a step that R136 refuses. -/
def BadStep (raw : Byte × Byte) : Prop := raw.2 = 0 ∨ (15 < raw.1.toNat ∧ raw.1 ≠ 0xFF)

/-- The step that two bytes give. -/
def stepOfBytes (raw : Byte × Byte) : Machine.Step := ⟨if raw.1 = 0xFF then .brake else .drive raw.1.toNat, raw.2.toNat⟩

theorem stepOf_of_bad {raw : Byte × Byte} (h : BadStep raw) : stepOf raw = none := by
  unfold stepOf
  obtain h | ⟨hlevel, hbrake⟩ := h
  · exact if_pos h
  · rw [if_neg (show ¬raw.1.toNat < 16 by omega), if_neg hbrake]
    exact ite_self _

theorem stepOf_of_good {raw : Byte × Byte} (h : ¬BadStep raw) : stepOf raw = some (stepOfBytes raw) := by
  obtain ⟨hduration, hlevel⟩ := not_or.1 h
  rw [stepOf, if_neg hduration, stepOfBytes]
  by_cases hbrake : raw.1 = 0xFF
  · rw [if_neg (by rw [hbrake]; decide), if_pos hbrake, if_pos hbrake]
  · have hle : ¬15 < raw.1.toNat := fun hgt => hlevel ⟨hgt, hbrake⟩
    rw [if_pos (show raw.1.toNat < 16 by omega), if_neg hbrake]

theorem stepsOf_of_bad {steps : List (Byte × Byte)} (h : ∃ raw ∈ steps, BadStep raw) : stepsOf steps = none := by
  induction steps with
  | nil =>
    obtain ⟨_, hmem, _⟩ := h
    nomatch hmem
  | cons raw steps ih =>
    rw [stepsOf]
    obtain ⟨bad, hmem, hbad⟩ := h
    obtain rfl | hrest := List.mem_cons.1 hmem
    · rw [stepOf_of_bad hbad]
    · rw [ih ⟨bad, hrest, hbad⟩]
      cases stepOf raw <;> rfl

theorem stepsOf_of_good {steps : List (Byte × Byte)} (h : ∀ raw ∈ steps, ¬BadStep raw) :
    stepsOf steps = some (steps.map stepOfBytes) := by
  induction steps with
  | nil => rfl
  | cons raw steps ih =>
    obtain ⟨hgood, hrest⟩ := List.forall_mem_cons.1 h
    rw [stepsOf, stepOf_of_good hgood, ih hrest]
    rfl

section
variable {b x y : Byte} {steps : List (Byte × Byte)} {i : Fin 16} {rest : List Byte} {s t : State} {a : Active}
  {r q : Request} {queue : List Request}

/-- The pattern that PATTERN LOAD's bytes give. -/
def loadedPattern (x : Byte) (steps : List (Byte × Byte)) : Pattern := ⟨if x = 0 then .once else .loop, steps.map stepOfBytes⟩

theorem repeatOf_of_gt (h : 1 < x.toNat) : repeatOf x = none := by
  unfold repeatOf
  rw [if_neg (fun h0 => by rw [h0] at h; exact absurd h (by decide)),
    if_neg (fun h1 => by rw [h1] at h; exact absurd h (by decide))]

theorem repeatOf_of_le (h : x.toNat ≤ 1) : repeatOf x = some (if x = 0 then .once else .loop) := by
  obtain h | h := Nat.le_one_iff_eq_zero_or_eq_one.1 h
  · rw [show x = 0 from BitVec.eq_of_toNat_eq h]
    rfl
  · rw [show x = 1 from BitVec.eq_of_toNat_eq h]
    rfl

theorem patternFields_of_bad (h : 15 < b.toNat ∨ 1 < x.toNat ∨ steps = [] ∨ ∃ raw ∈ steps, BadStep raw) :
    patternFields b x steps = none := by
  unfold patternFields
  obtain h | h | h | h := h
  · rw [indexOf_eq_none.2 h]
  · rw [repeatOf_of_gt h]
    cases indexOf 16 b <;> rfl
  · rw [h, stepsOf]
    cases indexOf 16 b <;> cases repeatOf x <;> rfl
  · rw [stepsOf_of_bad h]
    cases indexOf 16 b <;> cases repeatOf x <;> rfl

theorem patternFields_of_good (hb : b.toNat = i.val) (hx : x.toNat ≤ 1) (hsome : steps ≠ []) (hlen : steps.length ≤ 15)
    (hgood : ∀ raw ∈ steps, ¬BadStep raw) : patternFields b x steps = some (i, loadedPattern x steps) := by
  have hlegal : ¬(steps.map stepOfBytes = [] ∨ 15 < (steps.map stepOfBytes).length) := by
    rw [List.map_eq_nil_iff, List.length_map]
    exact not_or.2 ⟨hsome, Nat.not_lt.2 hlen⟩
  rw [patternFields, indexOf_eq_some.2 hb, repeatOf_of_le hx, stepsOf_of_good hgood]
  exact if_neg hlegal

theorem exec_patternLoad_eq (hlen : steps.length ≤ 15) :
    exec (.patternLoad b x steps) s = command (.patternLoad b x steps) s (patternLoadEffect b x steps) := if_pos hlen

theorem patternLoadEffect_of_bad (h : patternFields b x steps = none) : patternLoadEffect b x steps s = answer .badArg s := by
  rw [patternLoadEffect, h]

theorem patternLoadEffect_of_plays {p : Pattern} (h : patternFields b x steps = some (i, p)) (ha : s.rumble.active = some a)
    (hi : a.request.pattern = i) : patternLoadEffect b x steps s = answer .busy s := by
  simp [patternLoadEffect, h, playsPattern, ha, hi]

theorem patternLoadEffect_of_free {p : Pattern} (h : patternFields b x steps = some (i, p))
    (hfree : ∀ a, s.rumble.active = some a → a.request.pattern ≠ i) :
    patternLoadEffect b x steps s =
      answer .ok { s with rumble := { s.rumble with patterns := s.rumble.patterns.set i.val p i.isLt } } := by
  have hplays : playsPattern s i = false := by
    unfold playsPattern
    split
    next a ha => exact beq_eq_false_iff_ne.2 (hfree a ha)
    next => rfl
  simp only [patternLoadEffect, h, hplays]
  rfl

/-! ## The decision of a request (R138) -/

theorem requestRefusal_of_noMotor (h : s.profile.motor = false) : requestRefusal r s = some .noMotor := by
  simp [requestRefusal, h]

theorem requestRefusal_of_stall (hmotor : s.profile.motor = true) (h : hasFault .stall s = true) :
    requestRefusal r s = some .stalled := by
  simp [requestRefusal, hmotor, h]

theorem requestRefusal_of_empty (hmotor : s.profile.motor = true) (hstall : hasFault .stall s = false)
    (h : (patternOf s r).steps = []) : requestRefusal r s = some .badArg := by
  simp [requestRefusal, hmotor, hstall, h]

/-- The request can be played: there is a motor, no stall, and its pattern has steps. -/
def Playable (s : State) (r : Request) : Prop :=
  s.profile.motor = true ∧ hasFault .stall s = false ∧ (patternOf s r).steps ≠ []

theorem requestRefusal_of_full (hplay : Playable s r) (ha : s.rumble.active = some a)
    (hle : r.priority ≤ a.request.priority) (hfull : 4 ≤ s.rumble.queue.length) : requestRefusal r s = some .queueFull := by
  obtain ⟨hmotor, hstall, hsteps⟩ := hplay
  simp [requestRefusal, hmotor, hstall, hsteps, ha, hle, hfull, Config.rumbleQueueSize]

theorem requestRefusal_of_taken (hplay : Playable s r)
    (h : ∀ a, s.rumble.active = some a → r.priority ≤ a.request.priority → s.rumble.queue.length < 4) :
    requestRefusal r s = none := by
  obtain ⟨hmotor, hstall, hsteps⟩ := hplay
  simp only [requestRefusal, hmotor, hstall, hsteps, Bool.not_true, Bool.false_eq_true, if_false]
  split
  next a ha => exact if_neg fun ⟨hle, hfull⟩ => absurd hfull (Nat.not_le.2 (h a ha hle))
  next => rfl

theorem decideRequest_of_refused {st : ReplyStatus} (h : requestRefusal r s = some st) : decideRequest r s = (st, s) := by
  rw [decideRequest, h]

theorem decideRequest_of_idle (hplay : Playable s r) (ha : s.rumble.active = none) :
    decideRequest r s = (.ok, startRequest r s) := by
  rw [decideRequest, requestRefusal_of_taken hplay fun a h => (nomatch ha.symm.trans h), takeRequest, ha]

theorem decideRequest_of_lower (hplay : Playable s r) (ha : s.rumble.active = some a) (hlt : a.request.priority < r.priority) :
    decideRequest r s = (.ok, startRequest r (leftWith .preempted s.rumble.queue s)) := by
  have hnone : requestRefusal r s = none := by
    refine requestRefusal_of_taken hplay fun b hb hle => ?_
    cases ha.symm.trans hb
    exact absurd hle (Nat.not_le.2 hlt)
  rw [decideRequest, hnone, takeRequest, ha, leftWith_self]
  exact if_pos hlt

theorem insertRequest_split (r : Request) (queue : List Request) :
    ∃ before after, queue = before ++ after ∧ (∀ q ∈ before, r.priority ≤ q.priority) ∧
      (∀ q ∈ after.head?, q.priority < r.priority) ∧ insertRequest r queue = before ++ r :: after := by
  induction queue with
  | nil => exact ⟨[], [], rfl, fun _ h => (nomatch h), fun _ h => (nomatch h), rfl⟩
  | cons q queue ih =>
    by_cases hlt : q.priority < r.priority
    · refine ⟨[], q :: queue, rfl, fun _ h => (nomatch h), fun p hp => ?_, if_pos hlt⟩
      cases hp
      exact hlt
    · obtain ⟨before, after, hqueue, hbefore, hafter, hinsert⟩ := ih
      refine ⟨q :: before, after, congrArg (q :: ·) hqueue, List.forall_mem_cons.2 ⟨Nat.not_lt.1 hlt, hbefore⟩, hafter, ?_⟩
      rw [insertRequest, if_neg hlt, hinsert]
      rfl

theorem decideRequest_of_queued (hplay : Playable s r) (ha : s.rumble.active = some a)
    (hle : r.priority ≤ a.request.priority) (hroom : s.rumble.queue.length < 4) :
    decideRequest r s = (.queued, { s with rumble := { s.rumble with queue := insertRequest r s.rumble.queue } }) := by
  rw [decideRequest, requestRefusal_of_taken hplay fun _ _ _ => hroom, takeRequest, ha]
  exact if_neg (Nat.not_lt.2 hle)

/-! ## RUMBLE PLAY -/

/-- The request of RUMBLE PLAY's fields. -/
def playRequest (i : Fin 16) (x y : Byte) : Request := ⟨i, x.toNat, y.toNat, .console⟩

theorem rumblePlayEffect_of_bad (h : 15 < b.toNat ∨ 3 < x.toNat ∨ y = 0) : rumblePlayEffect b x y s = answer .badArg s := by
  have hnone : consoleRequest b x y = none := by
    by_cases hindex : 15 < b.toNat
    · rw [consoleRequest, indexOf_eq_none.2 hindex]
    have hfields : ¬(x.toNat ≤ 3 ∧ y ≠ 0) := fun ⟨hx, hy⟩ =>
      (h.resolve_left hindex).elim (Nat.not_lt.2 hx) hy
    have hlt : b.toNat < 16 := by omega
    rw [consoleRequest, show indexOf 16 b = some ⟨b.toNat, hlt⟩ from indexOf_eq_some.2 rfl]
    exact if_neg hfields
  rw [rumblePlayEffect, hnone]

theorem rumblePlayEffect_of_good (hb : b.toNat = i.val) (hx : x.toNat ≤ 3) (hy : y ≠ 0) {st : ReplyStatus} {u : State}
    (h : decideRequest (playRequest i x y) s = (st, u)) : rumblePlayEffect b x y s = answer st u := by
  have hsome : consoleRequest b x y = some (playRequest i x y) := by
    rw [consoleRequest, indexOf_eq_some.2 hb]
    exact if_pos ⟨hx, hy⟩
  rw [rumblePlayEffect, hsome]
  simp only [h]

/-! ## RUMBLE STOP and RUMBLE RENEW -/

theorem rumbleStopEffect_of_idle (hb : b.toNat ≤ 1) (ha : s.rumble.active = none) : rumbleStopEffect b s = answer .ok s := by
  rw [rumbleStopEffect, boolOf_of_le hb]
  simp only [ha, Option.isNone_none, if_true]

theorem endRequest_of_empty (h : s.rumble.queue = []) {e : EndReason} : endRequest e s = closeRequest e s := by
  have hqueue : (closeRequest e s).rumble.queue = [] := (congrArg (·.queue) (closeRequest_rumble e s)).trans h
  rw [endRequest, startHead, hqueue]

theorem endRequest_of_queue (h : s.rumble.queue = q :: queue) {e : EndReason} :
    endRequest e s = startRequest q (leftWith e queue s) := by
  have hqueue : (closeRequest e s).rumble.queue = q :: queue := (congrArg (·.queue) (closeRequest_rumble e s)).trans h
  rw [endRequest, startHead, hqueue, ← leftWith_of_rest]

/-- The drive with an empty queue. -/
def emptied (s : State) : State := { s with rumble := { s.rumble with queue := [] } }

theorem rumbleStopEffect_of_last (hb : b.toNat ≤ 1) (ha : s.rumble.active = some a) (h : b = 1 ∨ s.rumble.queue = []) :
    rumbleStopEffect b s = answer .ok (closeRequest .stopped (emptied s)) := by
  have hend : endRequest .stopped (emptied s) = closeRequest .stopped (emptied s) := endRequest_of_empty rfl
  have hactive : s.rumble.active.isNone = false := by rw [ha]; rfl
  rw [rumbleStopEffect, boolOf_of_le hb, ← hend]
  simp only [hactive, Bool.false_eq_true, if_false, decide_eq_true_eq]
  split
  · rfl
  next hone =>
    have hempty : emptied s = s := by
      rw [emptied, ← h.resolve_left hone]
    rw [hempty]

theorem rumbleStopEffect_of_next (ha : s.rumble.active = some a) (h : s.rumble.queue = q :: queue) :
    rumbleStopEffect 0 s = answer .ok (startRequest q (leftWith .stopped queue s)) := by
  rw [← endRequest_of_queue h, rumbleStopEffect]
  simp only [boolOf, ha]
  rfl

theorem rumbleRenewEffect_of_zero : rumbleRenewEffect 0 s = answer .badArg s := rfl

theorem rumbleRenewEffect_of_idle (hb : b ≠ 0) (ha : s.rumble.active = none) :
    rumbleRenewEffect b s = answer .wrongState s := by
  simp only [rumbleRenewEffect, if_neg hb, ha]

theorem rumbleRenewEffect_of_once (hb : b ≠ 0) (ha : s.rumble.active = some a) (h : (patternOf s a.request).rep = .once) :
    rumbleRenewEffect b s = answer .wrongState s := by
  simp only [rumbleRenewEffect, if_neg hb, ha, h, if_true]

theorem rumbleRenewEffect_of_loop (hb : b ≠ 0) (ha : s.rumble.active = some a) (h : (patternOf s a.request).rep = .loop) :
    rumbleRenewEffect b s = answer .ok (setActive (some { a with allowanceLeft := b.toNat }) s) := by
  have honce : (patternOf s a.request).rep ≠ .once := by rw [h]; exact Repeat.noConfusion
  simp only [rumbleRenewEffect, if_neg hb, ha, if_neg honce]

/-! ## The commands as the console sees them -/

/-- The request has started in the place of the one that ended, in the state with the message taken. -/
def startedIn (e : EndReason) (queue : List Request) (r : Request) (rest : List Byte) (s : State) : State :=
  { startRequest r (leftWith e queue (taken rest s)) with cmd := s.cmd }

theorem startRequest_cmd (r : Request) (e : EndReason) (queue : List Request) (s : State) :
    (startRequest r (leftWith e queue s)).cmd = s.cmd := by
  have hframe := started_frame (r := r) (e := e) (queue := queue) (s := s)
  have hcmd := congrArg (fun u : State => u.cmd) hframe
  exact hcmd

theorem startedIn_of_leaves {e : EndReason} {u : Supply} (ha : s.rumble.active = some a) (h : Leaves s a u) :
    KickRuled (Kicks s r) { closed e s with queue := queue } u (onFirstStep s r) (startedIn e queue r rest s) ∧
      (startedIn e queue r rest s).cause = closedCause e s ∧
      { startedIn e queue r rest s with rumble := s.rumble, cause := s.cause, supply := s.supply } = s := by
  have hclose : closeRequest e (taken rest s) = _ := closeRequest_of_leaves (by exact ha) (by exact h)
  have hruled := kickRuled_leftWith (r := r) (queue := queue) (congrArg (fun u : State => u.supply) hclose)
  have hframe := started_frame_of_leaves (s := taken rest s) (r := r) (queue := queue) (e := e) (by exact ha) (by exact h)
  have hkept := congrArg (fun u : State => ({ u with cmd := s.cmd } : State)) hframe
  exact ⟨hruled, started_cause, hkept⟩

/-- The watch after the kicker's grant is given to the engine that waited. -/
def handedSupply (f : Flight) (s : State) : Supply :=
  { s.supply with holder := if f.kind = .erase then .engine else .none, engineReq := false }

/-- The engine waits for the grant that the active request's kick holds. -/
def Hands (s : State) (a : Active) (f : Flight) : Prop :=
  ((∃ n, a.kick = .kicking n) ∧ s.supply.holder = .kicker ∧ s.supply.kickerReq = false) ∧ s.supply.engineReq = true ∧
    s.engine.flight = some f ∧ (f.kind = .commit ∨ f.kind = .erase)

theorem Hands.closed {e : EndReason} {f : Flight} (h : Hands s a f) (ha : s.rumble.active = some a) :
    Handed f { s with rumble := closed e s, cause := closedCause e s } (closeRequest e s) := by
  obtain ⟨⟨hk, hheld, hkicker⟩, hengine, hf, hkind⟩ := h
  exact handed_closeRequest ha hk hheld hkicker hengine hf hkind

theorem startedIn_of_hands {e : EndReason} {f : Flight} (ha : s.rumble.active = some a) (h : Hands s a f) :
    Worked f s (startedIn e queue r rest s) ∧
      KickRuled (Kicks s r) { closed e s with queue := queue } (handedSupply f s) (onFirstStep s r)
        (startedIn e queue r rest s) ∧
      (startedIn e queue r rest s).cause = closedCause e s ∧
      { startedIn e queue r rest s with
        rumble := s.rumble, cause := s.cause, supply := s.supply, dir := s.dir, engine := s.engine } = s := by
  have hhanded : Handed f _ (closeRequest e (taken rest s)) :=
    Hands.closed (s := taken rest s) (a := a) (by exact h) (by exact ha)
  have hworked : Worked f (taken rest s) (closeRequest e (taken rest s)) := hhanded.worked
  have hruled := kickRuled_leftWith (r := r) (queue := queue) hhanded.supply
  have hframe := started_frame (s := taken rest s) (r := r) (queue := queue) (e := e)
  have hkept := congrArg (fun u : State => ({ u with cmd := s.cmd } : State)) hframe
  exact ⟨hworked.started, hruled, started_cause, hkept⟩

/-- The request has ended and nothing starts, in the state with the message taken. -/
def stoppedIn (rest : List Byte) (s : State) : State := { closeRequest .stopped (emptied (taken rest s)) with cmd := s.cmd }

theorem stoppedIn_rumble : (stoppedIn rest s).rumble = { closed .stopped s with queue := [] } :=
  closeRequest_rumble .stopped (emptied (taken rest s))

theorem stoppedIn_cause : (stoppedIn rest s).cause = closedCause .stopped s :=
  closeRequest_cause .stopped (emptied (taken rest s))

theorem stoppedIn_of_leaves {u : Supply} (ha : s.rumble.active = some a) (h : Leaves s a u) :
    (stoppedIn rest s).supply = u ∧
      { stoppedIn rest s with rumble := s.rumble, cause := s.cause, supply := s.supply } = s := by
  have hclose : closeRequest .stopped (emptied (taken rest s)) = _ := closeRequest_of_leaves (by exact ha) (by exact h)
  rw [stoppedIn, hclose]
  exact ⟨rfl, rfl⟩

theorem stoppedIn_of_hands {f : Flight} (ha : s.rumble.active = some a) (h : Hands s a f) :
    Worked f s (stoppedIn rest s) ∧ (stoppedIn rest s).supply = handedSupply f s ∧
      { stoppedIn rest s with
        rumble := s.rumble, cause := s.cause, supply := s.supply, dir := s.dir, engine := s.engine } = s := by
  have hhanded : Handed f _ (closeRequest .stopped (emptied (taken rest s))) :=
    Hands.closed (s := emptied (taken rest s)) (a := a) (by exact h) (by exact ha)
  have hworked : Worked f (emptied (taken rest s)) _ := hhanded.worked
  have hkept := congrArg (fun u : State => ({ u with
    rumble := s.rumble, cause := s.cause, supply := s.supply, dir := s.dir, engine := s.engine, cmd := s.cmd } : State))
    (closeRequest_eq .stopped (emptied (taken rest s)))
  exact ⟨hworked, hhanded.supply, hkept⟩

theorem play_idle (hready : Ready (.rumblePlay b x y) rest s) (hb : b.toNat = i.val) (hx : x.toNat ≤ 3) (hy : y ≠ 0)
    (hplay : Playable s (playRequest i x y)) (ha : s.rumble.active = none) :
    ∃ t, Answers (.rumblePlay b x y) rest s .ok [] t ∧
      KickRuled (Kicks s (playRequest i x y)) s.rumble s.supply (onFirstStep s (playRequest i x y)) t ∧
      { t with rumble := s.rumble, supply := s.supply } = s := by
  obtain ⟨hruled, hframe⟩ := kickRuled_startRequest (playRequest i x y) (taken rest s)
  have heffect : rumblePlayEffect b x y (taken rest s) = answer .ok (startRequest (playRequest i x y) (taken rest s)) :=
    rumblePlayEffect_of_good hb hx hy (decideRequest_of_idle (by exact hplay) (by exact ha))
  have hkept := congrArg (fun u : State => ({ u with cmd := s.cmd } : State)) hframe
  have hcmd := congrArg (fun u : State => u.cmd) hframe
  exact ⟨_, answers_of_effect hready rfl heffect hcmd, hruled, hkept⟩

/-- The request starts in place of one of lower priority. -/
theorem play_preempts (hready : Ready (.rumblePlay b x y) rest s) (hb : b.toNat = i.val) (hx : x.toNat ≤ 3) (hy : y ≠ 0)
    (hplay : Playable s (playRequest i x y)) (ha : s.rumble.active = some a) (hlt : a.request.priority < x.toNat) :
    Answers (.rumblePlay b x y) rest s .ok [] (startedIn .preempted s.rumble.queue (playRequest i x y) rest s) :=
  answers_of_effect hready rfl
    (rumblePlayEffect_of_good hb hx hy (decideRequest_of_lower (s := taken rest s) (by exact hplay) (by exact ha) hlt))
    (startRequest_cmd ..)

theorem play_queues (hready : Ready (.rumblePlay b x y) rest s) (hb : b.toNat = i.val) (hx : x.toNat ≤ 3) (hy : y ≠ 0)
    (hplay : Playable s (playRequest i x y)) (ha : s.rumble.active = some a) (hle : x.toNat ≤ a.request.priority)
    (hroom : s.rumble.queue.length < 4) :
    Answers (.rumblePlay b x y) rest s .queued []
      { s with rumble := { s.rumble with queue := insertRequest (playRequest i x y) s.rumble.queue } } :=
  answers_of_same hready rfl
    (rumblePlayEffect_of_good hb hx hy
      (decideRequest_of_queued (s := taken rest s) (by exact hplay) (by exact ha) hle (by exact hroom)))

theorem play_refused {st : ReplyStatus} (hready : Ready (.rumblePlay b x y) rest s) (hb : b.toNat = i.val)
    (hx : x.toNat ≤ 3) (hy : y ≠ 0) (h : requestRefusal (playRequest i x y) (taken rest s) = some st) :
    Refuses (.rumblePlay b x y) rest s st :=
  answers_of_same hready rfl (rumblePlayEffect_of_good hb hx hy (decideRequest_of_refused h))

theorem stop_last (hready : Ready (.rumbleStop b) rest s) (hb : b.toNat ≤ 1) (ha : s.rumble.active = some a)
    (h : b = 1 ∨ s.rumble.queue = []) : Answers (.rumbleStop b) rest s .ok [] (stoppedIn rest s) := by
  have hcmd := congrArg (fun u : State => u.cmd) (closeRequest_eq .stopped (emptied (taken rest s)))
  exact answers_of_effect hready rfl (rumbleStopEffect_of_last hb (by exact ha) (by exact h)) hcmd

theorem stop_next (hready : Ready (.rumbleStop 0) rest s) (ha : s.rumble.active = some a)
    (h : s.rumble.queue = q :: queue) : Answers (.rumbleStop 0) rest s .ok [] (startedIn .stopped queue q rest s) :=
  answers_of_effect hready rfl (rumbleStopEffect_of_next (by exact ha) (by exact h)) (startRequest_cmd ..)

end

/-- The supply watch that the statement's `leaves` names, as the end of a kick knows it. -/
theorem leaves_of_kicker {a : Active} {s : State} {u : Supply}
    (h : (a.kick = .none ∧ u = s.supply) ∨ (a.kick = .waiting ∧ u = { s.supply with kickerReq := false }) ∨
      (((∃ n, a.kick = .kicking n) ∧ s.supply.holder = .kicker ∧ s.supply.kickerReq = false) ∧
        s.supply.engineReq = false ∧ u = { s.supply with holder := .none })) : Leaves s a u := by
  obtain h | h | ⟨⟨hk, hheld, hkicker⟩, h⟩ := h
  · exact .inl h
  · exact .inr (.inl h)
  · exact .inr (.inr ⟨⟨hk, hheld, .inl hkicker⟩, h⟩)

/-- Settles O52: each command's refusals, then the request that ends and the one that starts. -/
theorem rumbleCommandsAct : Obligations.RumbleCommandsAct := by
  intro b x y steps i rest s
  refine ⟨fun hready hlen => ⟨fun hbad => ?_, fun hb hx hsome hgood => ?_⟩, fun hready => ⟨fun hbad => ?_, ?_⟩,
    fun hready => ⟨fun hbad => ?_, fun hb ha => ?_, ?_, ?_⟩, fun hready => ⟨fun hb => ?_, fun hb ha => ?_, ?_, ?_⟩⟩
  · exact answers_of_same hready (exec_patternLoad_eq hlen) (patternLoadEffect_of_bad (patternFields_of_bad hbad))
  · have hfields := patternFields_of_good hb hx hsome hlen hgood
    refine ⟨fun ⟨a, ha, hi⟩ => ?_, fun hfree => ?_⟩
    · exact answers_of_same hready (exec_patternLoad_eq hlen) (patternLoadEffect_of_plays hfields (by exact ha) hi)
    · exact answers_of_same hready (exec_patternLoad_eq hlen) (patternLoadEffect_of_free hfields (by exact hfree))
  · exact answers_of_same hready rfl (rumblePlayEffect_of_bad hbad)
  · intro hb hx hy
    refine ⟨fun hmotor => ?_, fun hmotor hstall => ?_, fun hmotor hstall hsteps => ?_, fun hmotor hstall hsteps => ?_⟩
    · exact play_refused hready hb hx hy (requestRefusal_of_noMotor hmotor)
    · exact play_refused hready hb hx hy (requestRefusal_of_stall hmotor hstall)
    · exact play_refused hready hb hx hy (requestRefusal_of_empty hmotor hstall hsteps)
    · have hplay : Playable s (playRequest i x y) := ⟨hmotor, hstall, hsteps⟩
      refine ⟨fun a ha hle hfull => ?_, fun a ha hle hroom => ?_, fun ha => ?_, fun a ha hlt => ⟨fun u hu => ?_, fun f hf => ?_⟩⟩
      · exact play_refused hready hb hx hy (requestRefusal_of_full (s := taken rest s) hplay ha hle hfull)
      · obtain ⟨before, after, hqueue, hbefore, hafter, hinsert⟩ := insertRequest_split (playRequest i x y) s.rumble.queue
        refine ⟨before, after, hqueue, hbefore, hafter, ?_⟩
        have hqueues := play_queues hready hb hx hy hplay ha hle hroom
        rw [hinsert] at hqueues
        exact hqueues
      · exact play_idle hready hb hx hy hplay ha
      · obtain ⟨hruled, hcause, hframe⟩ := startedIn_of_leaves (e := .preempted) (queue := s.rumble.queue)
          (r := playRequest i x y) (rest := rest) ha (leaves_of_kicker hu)
        have hkept : (startedIn .preempted s.rumble.queue (playRequest i x y) rest s).cause = s.cause := hcause
        rw [← hkept] at hframe
        exact ⟨_, play_preempts hready hb hx hy hplay ha hlt, hruled, hframe⟩
      · obtain ⟨hworked, hruled, hcause, hframe⟩ := startedIn_of_hands (e := .preempted) (queue := s.rumble.queue)
          (r := playRequest i x y) (rest := rest) ha hf
        have hkept : (startedIn .preempted s.rumble.queue (playRequest i x y) rest s).cause = s.cause := hcause
        rw [← hkept] at hframe
        exact ⟨_, play_preempts hready hb hx hy hplay ha hlt, hworked, hruled, hframe⟩
  · refine answers_of_same hready rfl ?_
    rw [rumbleStopEffect, boolOf_eq_none.2 hbad]
    rfl
  · exact answers_of_same hready rfl (rumbleStopEffect_of_idle hb (by exact ha))
  · intro a hb ha hlast
    have hlatched : (stoppedIn rest s).cause.latches.rumbleEnd = _ := congrArg (·.latches.rumbleEnd) stoppedIn_cause
    refine ⟨fun u hu => ?_, fun f hf => ?_⟩
    · obtain ⟨hsupply, hframe⟩ := stoppedIn_of_leaves (rest := rest) ha (leaves_of_kicker hu)
      exact ⟨_, stop_last hready hb ha hlast, stoppedIn_rumble, hsupply, hlatched, hframe⟩
    · obtain ⟨hworked, hsupply, hframe⟩ := stoppedIn_of_hands (rest := rest) ha hf
      exact ⟨_, stop_last hready hb ha hlast, hworked, stoppedIn_rumble, hsupply, hlatched, hframe⟩
  · intro a q queue hb ha hqueue
    subst hb
    refine ⟨fun u hu => ?_, fun f hf => ?_⟩
    · obtain ⟨hruled, hcause, hframe⟩ := startedIn_of_leaves (e := .stopped) (queue := queue) (r := q) (rest := rest) ha
        (leaves_of_kicker hu)
      exact ⟨_, stop_next hready ha hqueue, hruled, congrArg (·.latches.rumbleEnd) hcause, hframe⟩
    · obtain ⟨hworked, hruled, hcause, hframe⟩ := startedIn_of_hands (e := .stopped) (queue := queue) (r := q)
        (rest := rest) ha hf
      exact ⟨_, stop_next hready ha hqueue, hworked, hruled, congrArg (·.latches.rumbleEnd) hcause, hframe⟩
  · subst hb
    exact answers_of_same hready rfl rumbleRenewEffect_of_zero
  · exact answers_of_same hready rfl (rumbleRenewEffect_of_idle hb (by exact ha))
  · intro a hb ha honce
    exact answers_of_same hready rfl (rumbleRenewEffect_of_once hb (by exact ha) honce)
  · intro a hb ha hloop
    exact answers_of_same hready rfl (rumbleRenewEffect_of_loop hb (by exact ha) hloop)

end Sys2Proof.Proofs
end

section
/-! Instrument records, cue notes, the rumble actions of cues and the hold counter (O44). -/

namespace Sys2Proof.Proofs

open Sys2Proof.Machine Sys2Proof.Safety Sys2Proof.Laws

/-! ## The taking of a record (R97, R98) -/

theorem takeRecord_congr {b c : Nat → Byte} (h : ∀ j ≤ 12, b j = c j) : takeRecord b = takeRecord c := by
  unfold takeRecord
  rw [h 0 (by decide), h 1 (by decide), h 2 (by decide), h 3 (by decide), h 4 (by decide), h 5 (by decide),
    h 6 (by decide), h 7 (by decide), h 8 (by decide), h 9 (by decide), h 10 (by decide), h 11 (by decide),
    h 12 (by decide)]

theorem instrumentOf_eq {n : Nat} (hn : n ≤ 15) (s : State) :
    instrumentOf s n = takeRecord fun j => readMem soundUnlisted s.sound (512 + 16 * n + j) := by
  refine takeRecord_congr fun j hj => ?_
  rw [soundByte, Nat.mod_eq_of_lt (show 0x200 + 16 * n + j < 4096 by omega)]

section
variable {b : Nat → Byte} {mode : Mode}

theorem modeOf_of_gt {x : Byte} (h : 3 < x.toNat) : modeOf x = none := by
  unfold modeOf
  generalize x.toNat = code at h ⊢
  obtain ⟨n, rfl⟩ : ∃ n, code = n + 4 := ⟨code - 4, by omega⟩
  rfl

theorem takeRecord_of_invalid (h : 3 < (b 0).toNat ∨ (b 0 = 1 ∧ nat2 (b 5) (b 6) = 0)) : takeRecord b = none := by
  obtain h | ⟨hmode, hlength⟩ := h
  · rw [takeRecord, modeOf_of_gt h]
  · have hstream : modeOf (b 0) = some .stream := by rw [hmode]; rfl
    rw [takeRecord, hstream]
    exact if_pos ⟨rfl, hlength⟩

theorem takeRecord_of_mode (hmode : modeOf (b 0) = some mode) (h : mode = .stream → nat2 (b 5) (b 6) ≠ 0) :
    takeRecord b = some { mode := mode, wave := min (b 1).toNat 15, start := romAddr (b 2) (b 3) (b 4),
                          length := nat2 (b 5) (b 6), loop := min (nat2 (b 7) (b 8)) (nat2 (b 5) (b 6)),
                          attack := min (b 9).toNat 127, decay := min (b 10).toNat 127,
                          sustain := min (b 11).toNat 127, release := min (b 12).toNat 127 } := by
  rw [takeRecord, hmode]
  exact if_neg fun ⟨hstream, hlength⟩ => h hstream hlength

theorem modeOf_of_mem {x : Byte} (h : (x, mode) ∈ [((0 : Byte), Mode.wave), (1, .stream), (2, .noiseLong), (3, .noiseShort)]) :
    modeOf x = some mode := by
  simp only [List.mem_cons, List.not_mem_nil, or_false, Prod.mk.injEq] at h
  obtain ⟨rfl, rfl⟩ | ⟨rfl, rfl⟩ | ⟨rfl, rfl⟩ | ⟨rfl, rfl⟩ := h
  all_goals rfl

end

/-! ## The actions of the firing cues (R91 to R93) -/

section
variable {a : CueSound} {cues : List CueNo} {m : TickMoment} {n : CueNo} {s : State} {snap : Snapshot}

theorem chosenSound_of_none (h : ∀ n ∈ cues, s.cues[n].sound = none) : chosenSound s cues = none := by
  induction cues with
  | nil => rfl
  | cons n cues ih =>
    obtain ⟨hn, hrest⟩ := List.forall_mem_cons.1 h
    rw [chosenSound, hn]
    exact ih hrest

theorem chosenSound_of_first (hsorted : cues.Pairwise (· < ·)) (hn : n ∈ cues) (ha : s.cues[n].sound = some a)
    (hfirst : ∀ k ∈ cues, k < n → s.cues[k].sound = none) : chosenSound s cues = some a := by
  induction cues with
  | nil => nomatch hn
  | cons k cues ih =>
    obtain ⟨hbefore, hsorted⟩ := List.pairwise_cons.1 hsorted
    obtain rfl | hmem := List.mem_cons.1 hn
    · rw [chosenSound, ha]
    · rw [chosenSound, hfirst k (List.mem_cons_self ..) (hbefore n hmem)]
      exact ih hsorted hmem fun j hj => hfirst j (List.mem_cons_of_mem _ hj)

theorem evaluated_actions (m : TickMoment) (c : Cue) :
    (c.evaluated m).sound = c.sound ∧ (c.evaluated m).rumble = c.rumble := by
  unfold Cue.evaluated
  split
  · exact ⟨rfl, rfl⟩
  · dsimp only
    split <;> exact ⟨rfl, rfl⟩

theorem mem_firingCues : n ∈ firingCues m s ↔ s.cues[n].fires m = true := by
  have hall : n ∈ allCues := by
    revert n
    decide
  rw [firingCues, List.mem_filter]
  exact and_iff_right hall

theorem firingCues_sorted : (firingCues m s).Pairwise (· < ·) := List.Pairwise.filter _ (by decide)

/-- The cues stand evaluated. -/
def evaluatedCues (m : TickMoment) (s : State) : State := { s with cues := tabulate fun n => s.cues[n].evaluated m }

theorem evaluatedCues_sound : (evaluatedCues m s).cues[n].sound = s.cues[n].sound :=
  (congrArg Cue.sound (getElem_tabulate _ n)).trans (evaluated_actions m _).1

theorem evaluatedCues_rumble : (evaluatedCues m s).cues[n].rumble = s.cues[n].rumble :=
  (congrArg Cue.rumble (getElem_tabulate _ n)).trans (evaluated_actions m _).2

/-- The sound action, if there is one, is made. -/
def noted (o : Option CueSound) (s : State) : State := o.elim s fun a => cueNote a s

theorem deliverActions_of_answered (h : answered s = true) :
    deliverActions cues s = submitRumbles cues (noted (chosenSound s cues) s) := by
  rw [deliverActions, if_pos h]
  refine congrArg (submitRumbles cues) ?_
  cases chosenSound s cues <;> rfl

theorem evaluateCues_of_answered (h : answered s = true) :
    evaluateCues m s =
      submitRumbles (firingCues m s)
        (noted (chosenSound (evaluatedCues m s) (firingCues m s)) (evaluatedCues m s)) :=
  deliverActions_of_answered (s := evaluatedCues m s) h

theorem noted_frame (o : Option CueSound) (s : State) : { noted o s with voices := s.voices, port := s.port } = s := by
  cases o with
  | none => rfl
  | some a =>
    unfold noted cueNote startNote
    simp only [Option.elim_some]
    split <;> rfl

theorem submitCue_voices (a : CueRumble) (s : State) : (submitCue a s).voices = s.voices :=
  congrArg (fun u : State × Bool => u.1.voices) (outsideDrive_submitCue a s)

theorem submitRumbles_voices (cues : List CueNo) (s : State) : (submitRumbles cues s).voices = s.voices := by
  unfold submitRumbles
  refine List.foldlRecOn (motive := fun t : State => t.voices = s.voices) cues _ rfl fun t ht n _ => ?_
  split
  · exact (submitCue_voices ..).trans ht
  · exact ht

theorem cueNote_of_invalid (h : instrumentOf s a.instrument = none) : cueNote a s = s := by
  rw [cueNote, startNote_of_invalid h]
  rfl

theorem cueNote_voices (h : instrumentOf s a.instrument = some snap) :
    (cueNote a s).voices =
      s.voices.set 5 { s.voices[(5 : VoiceNo)].noteOn a.instrument snap a.increment a.volume with
        owner := .cue, hold := some a.hold } (by decide) := by
  rw [cueNote, startNote_of_record h]
  rfl

theorem evaluateCues_voices (h : answered s = true) :
    (evaluateCues m s).voices =
      (noted (chosenSound (evaluatedCues m s) (firingCues m s)) (evaluatedCues m s)).voices := by
  rw [evaluateCues_of_answered h, submitRumbles_voices]

theorem evaluateCues_voices_of_silent (h : answered s = true) 
    (hnone : ∀ n : CueNo, s.cues[n].fires m = true → s.cues[n].sound = none) :
    (evaluateCues m s).voices = s.voices := by
  rw [evaluateCues_voices h, chosenSound_of_none fun n hn => evaluatedCues_sound.trans (hnone n (mem_firingCues.1 hn))]
  rfl

theorem evaluateCues_voices_of_sound (h : answered s = true) (hfires : s.cues[n].fires m = true)
    (ha : s.cues[n].sound = some a) (hfirst : ∀ k : CueNo, k < n → s.cues[k].fires m = true → s.cues[k].sound = none) :
    (evaluateCues m s).voices = (cueNote a (evaluatedCues m s)).voices := by
  rw [evaluateCues_voices h, chosenSound_of_first firingCues_sorted (mem_firingCues.2 hfires)
    (evaluatedCues_sound.trans ha) fun k hk hlt => evaluatedCues_sound.trans (hfirst k hlt (mem_firingCues.1 hk))]
  rfl

theorem submitRumbles_firing {x : State} (hx : ∀ n : CueNo, x.cues[n].rumble = s.cues[n].rumble) :
    submitRumbles (firingCues m s) x =
      allCues.foldl (fun y n =>
        if s.cues[n].fires m = true then (s.cues[n].rumble.map fun a => submitCue a y).getD y else y) x := by
  rw [submitRumbles, firingCues, List.foldl_filter]
  refine congrArg (fun f => List.foldl f x allCues) (funext fun y => funext fun n => ?_)
  rw [hx n]
  cases s.cues[n].rumble <;> rfl

theorem evaluateCues_rumbles (h : answered s = true) :
    ∃ x : State, x.rumble = s.rumble ∧ x.supply = s.supply ∧ x.profile = s.profile ∧ x.cause = s.cause ∧
      evaluateCues m s = allCues.foldl (fun y n =>
        if s.cues[n].fires m = true then (s.cues[n].rumble.map fun a => submitCue a y).getD y else y) x := by
  set o := chosenSound (evaluatedCues m s) (firingCues m s) with ho
  have hframe := noted_frame o (evaluatedCues m s)
  have hrumble := congrArg (fun u : State => u.rumble) hframe
  have hsupply := congrArg (fun u : State => u.supply) hframe
  have hprofile := congrArg (fun u : State => u.profile) hframe
  have hcause := congrArg (fun u : State => u.cause) hframe
  have hcues := congrArg (fun u : State => u.cues) hframe
  refine ⟨noted o (evaluatedCues m s), hrumble, hsupply, hprofile, hcause, (evaluateCues_of_answered h).trans (submitRumbles_firing fun n => ?_)⟩
  exact (congrArg (fun q : Vector Cue 8 => q[n].rumble) hcues).trans evaluatedCues_rumble

end

/-! ## A cue's rumble action (R93) -/

section
variable {a : CueRumble} {b : Active} {i : Fin 16} {s : State}

/-- The request of a cue's rumble action. -/
def cueRequest (i : Fin 16) (a : CueRumble) : Request := ⟨i, a.priority, 64, .cue⟩

theorem submitCue_eq (h : a.pattern = i.val) : submitCue a s = (decideRequest (cueRequest i a) s).2 := by
  have hlt : a.pattern < 16 := h ▸ i.isLt
  have hi : (⟨a.pattern, hlt⟩ : Fin 16) = i := Fin.ext h
  rw [submitCue, dif_pos hlt, hi]
  rfl

theorem requestRefusal_of_unplayable {r : Request} (h : ¬Playable s r) : ∃ st, requestRefusal r s = some st := by
  by_cases hmotor : s.profile.motor = false
  · exact ⟨_, requestRefusal_of_noMotor hmotor⟩
  have hmotor := eq_true_of_ne_false hmotor
  by_cases hstall : hasFault .stall s = true
  · exact ⟨_, requestRefusal_of_stall hmotor hstall⟩
  have hstall := eq_false_of_ne_true hstall
  by_cases hsteps : (patternOf s r).steps = []
  · exact ⟨_, requestRefusal_of_empty hmotor hstall hsteps⟩
  · exact absurd ⟨hmotor, hstall, hsteps⟩ h

/-- The conditions under which R138 refuses a request of a cue. -/
def CueRefused (s : State) (r : Request) : Prop :=
  s.profile.motor = false ∨ hasFault .stall s = true ∨ (patternOf s r).steps = [] ∨
    ∃ b, s.rumble.active = some b ∧ r.priority ≤ b.request.priority ∧ 4 ≤ s.rumble.queue.length

theorem playable_of_not_refused {r : Request} (h : ¬CueRefused s r) : Playable s r := by
  simp only [CueRefused, not_or] at h
  obtain ⟨hmotor, hstall, hsteps, -⟩ := h
  exact ⟨eq_true_of_ne_false hmotor, eq_false_of_ne_true hstall, hsteps⟩

theorem submitCue_of_refused (hi : a.pattern = i.val) (h : CueRefused s (cueRequest i a)) : submitCue a s = s := by
  rw [submitCue_eq hi]
  suffices hrefused : ∃ st, requestRefusal (cueRequest i a) s = some st by
    obtain ⟨st, hst⟩ := hrefused
    rw [decideRequest_of_refused hst]
  by_cases hplay : Playable s (cueRequest i a)
  · obtain ⟨hmotor, hstall, hsteps⟩ := hplay
    obtain h | h | h | ⟨b, hb, hle, hfull⟩ := h
    · exact absurd h (by rw [hmotor]; decide)
    · exact absurd h (by rw [hstall]; decide)
    · exact absurd h hsteps
    · exact ⟨_, requestRefusal_of_full ⟨hmotor, hstall, hsteps⟩ hb hle hfull⟩
  · exact requestRefusal_of_unplayable hplay

theorem submitCue_of_idle (hi : a.pattern = i.val) (hplay : Playable s (cueRequest i a)) (hb : s.rumble.active = none) :
    submitCue a s = startRequest (cueRequest i a) s := by
  rw [submitCue_eq hi, decideRequest_of_idle hplay hb]

theorem submitCue_of_lower (hi : a.pattern = i.val) (hplay : Playable s (cueRequest i a)) (hb : s.rumble.active = some b)
    (hlt : b.request.priority < a.priority) :
    submitCue a s = startRequest (cueRequest i a) (leftWith .preempted s.rumble.queue s) := by
  rw [submitCue_eq hi, decideRequest_of_lower hplay hb hlt]

theorem submitCue_of_queued (hi : a.pattern = i.val) (hplay : Playable s (cueRequest i a)) (hb : s.rumble.active = some b)
    (hle : a.priority ≤ b.request.priority) (hroom : s.rumble.queue.length < 4) :
    submitCue a s = { s with rumble := { s.rumble with queue := insertRequest (cueRequest i a) s.rumble.queue } } := by
  rw [submitCue_eq hi, decideRequest_of_queued hplay hb hle hroom]

theorem started_preempted_cause {r : Request} {queue : List Request} :
    (startRequest r (leftWith .preempted queue s)).cause = s.cause := started_cause

/-- A request that starts where the ended one's kick hands the grant to the engine that waited. -/
theorem started_of_hands {e : EndReason} {f : Flight} {r : Request} {queue : List Request} (hb : s.rumble.active = some b)
    (h : Hands s b f) :
    Worked f s (startRequest r (leftWith e queue s)) ∧
      KickRuled (Kicks s r) { closed e s with queue := queue } (handedSupply f s) (onFirstStep s r)
        (startRequest r (leftWith e queue s)) := by
  have hhanded := h.closed (e := e) hb
  have hworked : Worked f s (closeRequest e s) := hhanded.worked
  have hruled := kickRuled_leftWith (r := r) (queue := queue) hhanded.supply
  exact ⟨hworked.started, hruled⟩

/-- Where the request can be played the kick hangs on the motor, the monitor, HOT and the first step. -/
theorem kicks_of_playable {r : Request} (h : Playable s r) :
    Kicks s r ↔ 8 ≤ s.rumble.zeroRun ∧ s.supply.monitor = .run ∧ s.rumble.hot = false ∧
      ∃ l, (patternOf s r).steps.head?.map (fun st => st.level) = some (.drive (l + 1)) := by
  obtain ⟨hmotor, hstall, -⟩ := h
  constructor
  · rintro ⟨hzero, hrun, -, -, hhot, hstep⟩
    exact ⟨hzero, hrun, hhot, hstep⟩
  · rintro ⟨hzero, hrun, hhot, hstep⟩
    exact ⟨hzero, hrun, hmotor, hstall, hhot, hstep⟩

end

/-- The time one second on, its counts at 0. -/
theorem restart_advance {c : Calendar} (h : c.sec ≤ 86399) :
    c.restart.advance = { c with
      prescaler := 0, extension := 0, sec := if c.sec = 86399 then 0 else c.sec + 1,
      day := if c.sec = 86399 then c.day + 1 else c.day } := by
  by_cases hlast : c.sec = 86399
  · rw [if_pos hlast, if_pos hlast]
    exact if_neg (show ¬c.sec < 86399 by omega)
  · rw [if_neg hlast, if_neg hlast]
    exact if_pos (show c.sec < 86399 by omega)

/-! ## The hold counter (R110) -/

section
variable {s : State}

theorem driveTick_frame (s : State) :
    { driveTick s with rumble := s.rumble, cause := s.cause, supply := s.supply, dir := s.dir, engine := s.engine } = s := by
  have hframe := congrArg (fun u : State × Bool =>
    ({ u.1 with rumble := s.rumble, cause := s.cause, supply := s.supply, dir := s.dir, engine := s.engine } : State))
    (outsideDrive_driveTick s)
  exact hframe

theorem driveTick_voices (s : State) : (driveTick s).voices = s.voices := by
  have hvoices := congrArg (fun u : State => u.voices) (driveTick_frame s)
  exact hvoices

theorem holdRuns_iff {v : Voice} : v.holdRuns = true ↔ Sounding v.phase := by
  simp [Voice.holdRuns, Sounding, or_assoc]

theorem holdTick_of_more {h : Nat} (hruns : Sounding s.voices[(5 : VoiceNo)].phase)
    (hhold : s.voices[(5 : VoiceNo)].hold = some (h + 2)) :
    holdTick s = setVoice 5 { s.voices[(5 : VoiceNo)] with hold := some (h + 1) } s := by
  simp only [holdTick, hhold, holdRuns_iff.2 hruns, if_true]
  exact if_neg (by omega)

theorem holdTick_of_last (hruns : Sounding s.voices[(5 : VoiceNo)].phase) (hhold : s.voices[(5 : VoiceNo)].hold = some 1) :
    holdTick s = putVoice 5 { s.voices[(5 : VoiceNo)] with hold := none }.releaseRequest s := by
  simp only [holdTick, hhold, holdRuns_iff.2 hruns, if_true]
  exact if_pos (Nat.le_refl 1)

theorem exec_rumbleTick_eq (hpow : powered s = true) (hrun : s.crystal.running = true) :
    exec .rumbleTick s = .next (rumbleTick s) := if_pos (ticking_iff.2 ⟨hpow, hrun⟩)

theorem exec_cueHoldExpiry_eq (hpow : powered s = true) (hrun : s.crystal.running = true)
    (hruns : Sounding s.voices[(5 : VoiceNo)].phase) (hhold : s.voices[(5 : VoiceNo)].hold = some 1) :
    exec .cueHoldExpiry s = .next (rumbleTick s) := by
  have hends : holdEnds s = true := Bool.and_eq_true_iff.2 ⟨holdRuns_iff.2 hruns, by rw [hhold]; rfl⟩
  exact if_pos (Bool.and_eq_true_iff.2 ⟨ticking_iff.2 ⟨hpow, hrun⟩, hends⟩)

/-- The tick that counts the hold counter down (R110). -/
theorem rumbleTick_of_more {h : Nat} (hruns : Sounding s.voices[(5 : VoiceNo)].phase)
    (hhold : s.voices[(5 : VoiceNo)].hold = some (h + 2)) :
    (rumbleTick s).voices[(5 : VoiceNo)] = { s.voices[(5 : VoiceNo)] with hold := some (h + 1) } ∧
      ∀ w : VoiceNo, w ≠ 5 → (rumbleTick s).voices[w] = s.voices[w] := by
  rw [← driveTick_voices s] at hruns hhold ⊢
  rw [rumbleTick, holdTick_of_more hruns hhold]
  exact ⟨(getElem_setVoice ..).trans (if_pos rfl), fun w hw => (getElem_setVoice ..).trans (if_neg hw)⟩

/-- The tick that ends the hold (R110): voice 5 takes a release request. -/
theorem rumbleTick_of_last (hruns : Sounding s.voices[(5 : VoiceNo)].phase) (hhold : s.voices[(5 : VoiceNo)].hold = some 1) :
    (rumbleTick s).voices[(5 : VoiceNo)] = { s.voices[(5 : VoiceNo)] with hold := none }.releaseRequest ∧
      (∀ w : VoiceNo, w ≠ 5 → (rumbleTick s).voices[w] = s.voices[w]) ∧
      { rumbleTick s with voices := s.voices, port := s.port, rumble := s.rumble, cause := s.cause, supply := s.supply,
                          dir := s.dir, engine := s.engine } = s := by
  have hvoices := driveTick_voices s
  rw [← hvoices] at hruns hhold
  rw [rumbleTick, holdTick_of_last hruns hhold, hvoices]
  refine ⟨getElem_putVoice_same .., fun w hw => ?_, ?_⟩
  · rw [getElem_putVoice_of_ne (Ne.symm hw), hvoices]
  · rw [putVoice_eq]
    have hframe := congrArg (fun u : State => ({ u with voices := s.voices, port := s.port } : State)) (driveTick_frame s)
    exact hframe

end

/-- Settles O44: the record's taking, the chosen sound and the rumble actions, the second's evaluation, the hold counter. -/
theorem cueNotesStartAndEnd : Obligations.CueNotesStartAndEnd := by
  intro m a i s
  refine ⟨fun n hn => ⟨fun hinvalid => ?_, fun mode hmode hlength => ?_⟩, fun hans => ⟨?_, ?_, ?_⟩, fun hi => ⟨?_, ?_⟩, ?_,
    fun hpow hrun hruns => ⟨fun h hhold => ?_, fun hhold => ?_⟩⟩
  · exact (instrumentOf_eq hn s).trans (takeRecord_of_invalid hinvalid)
  · exact (instrumentOf_eq hn s).trans (takeRecord_of_mode (modeOf_of_mem hmode) hlength)
  · exact evaluateCues_voices_of_silent hans
  · intro n q hfires hq hfirst
    have hvoices := evaluateCues_voices_of_sound hans hfires hq hfirst
    refine ⟨fun hinvalid => ?_, fun snap hsnap => ?_⟩
    · rw [hvoices, cueNote_of_invalid (by exact hinvalid)]
      rfl
    · rw [hvoices, cueNote_voices (snap := snap) (by exact hsnap), noteOn_eq]
      exact ⟨Vector.getElem_set_self _, fun w hw => Vector.getElem_set_ne _ _ (Fin.val_ne_of_ne (Ne.symm hw))⟩
  · exact evaluateCues_rumbles hans
  · exact submitCue_of_refused hi
  · intro hnot
    have hplay := playable_of_not_refused (s := s) (r := cueRequest i a) hnot
    have hkicks := propext (kicks_of_playable hplay)
    refine ⟨fun b hb hle => ?_, fun hb => ?_, fun b hb hlt => ⟨fun u hu => ?_, fun f hk hengine hf => ⟨?_, fun hkind => ?_,
      fun hkind => ?_⟩⟩⟩
    · have hroom : s.rumble.queue.length < 4 :=
        Nat.not_le.1 fun hfull => hnot (.inr (.inr (.inr ⟨b, hb, hle, hfull⟩)))
      obtain ⟨before, after, hqueue, hbefore, hafter, hinsert⟩ := insertRequest_split (cueRequest i a) s.rumble.queue
      refine ⟨before, after, hqueue, hbefore, hafter, ?_⟩
      rw [submitCue_of_queued hi hplay hb hle hroom, hinsert]
      rfl
    · rw [submitCue_of_idle hi hplay hb]
      obtain ⟨hruled, hframe⟩ := kickRuled_startRequest (cueRequest i a) s
      rw [hkicks] at hruled
      exact ⟨hruled, hframe⟩
    all_goals
      rw [submitCue_of_lower hi hplay hb hlt]
    · have hleaves : Leaves s b u := leaves_of_kicker hu
      have hruled := kickRuled_leftWith (r := cueRequest i a) (queue := s.rumble.queue)
        (congrArg (fun u : State => u.supply) (closeRequest_of_leaves (e := .preempted) hb hleaves))
      have hframe := started_frame_of_leaves (e := .preempted) (r := cueRequest i a) (queue := s.rumble.queue) hb hleaves
      rw [hkicks] at hruled
      rw [← started_preempted_cause (r := cueRequest i a) (queue := s.rumble.queue)] at hframe
      exact ⟨hruled, hframe⟩
    · have hframe := started_frame (e := .preempted) (r := cueRequest i a) (queue := s.rumble.queue) (s := s)
      rw [← started_preempted_cause (r := cueRequest i a) (queue := s.rumble.queue)] at hframe
      exact hframe
    · obtain ⟨hworked, hruled⟩ := started_of_hands (e := .preempted) (r := cueRequest i a) (queue := s.rumble.queue) hb
        ⟨hk, hengine, hf, .inr hkind⟩
      rw [hkicks, handedSupply, if_pos hkind] at hruled
      obtain ⟨hflight, hdir⟩ := hworked.1 hkind
      exact ⟨hflight, hdir, hruled⟩
    · obtain ⟨hworked, hruled⟩ := started_of_hands (e := .preempted) (r := cueRequest i a) (queue := s.rumble.queue) hb
        ⟨hk, hengine, hf, .inl hkind⟩
      rw [hkicks, handedSupply, if_neg (by rw [hkind]; exact OpKind.noConfusion)] at hruled
      obtain ⟨hflight, hstate, hcurrent, hstored, hothers⟩ := hworked.2 hkind
      exact ⟨hflight, hstate, hcurrent, hstored, hothers, hruled⟩
  · intro hdomain hrun hend hsec hnothold
    have hmissing : (s.supply.monitor == .battery || s.supply.monitor == .starting) =
        decide (s.supply.monitor = .battery ∨ s.supply.monitor = .starting) := by
      rw [Bool.decide_or, beq_eq_decide, beq_eq_decide]
    have hcarries : decide (86399 ≤ s.cal.sec) = decide (s.cal.sec = 86399) :=
      decide_eq_decide.2 ⟨Nat.le_antisymm hsec, fun h => h.ge⟩
    rw [exec_secondTick_eq hdomain hrun, secondTick_of_advance hnothold hend, restart_advance hsec, momentOf, hmissing,
      hcarries]
    rfl
  · obtain ⟨h5, hothers⟩ := rumbleTick_of_more hruns hhold
    exact ⟨_, exec_rumbleTick_eq hpow hrun, h5, hothers⟩
  · obtain ⟨h5, hothers, hframe⟩ := rumbleTick_of_last hruns hhold
    refine ⟨_, exec_cueHoldExpiry_eq hpow hrun hruns hhold, hothers, fun hrelease => ?_, fun hrelease => ?_, hframe⟩
    · rw [h5, releaseRequest_of_sounding (by exact hruns), if_neg (by exact hrelease)]
    · rw [h5, releaseRequest_of_sounding (by exact hruns), if_pos (by exact hrelease)]
      rfl

end Sys2Proof.Proofs
end

section
/-! SUPPORT. What the requests of the drive leave alone, and the moments of a rumble tick as equations (R142, R145 to R147,
R149). -/

namespace Sys2Proof.Proofs

open Sys2Proof.Machine Sys2Proof.Safety Sys2Proof.Laws

/-! ## The drive beside its requests -/

/-- What the requests leave alone: of the drive all but the active one, the queue and the last end; the fault flags. -/
def besideRequests (s : State) : Rumble × BitVec 12 :=
  ({ s.rumble with active := none, queue := [], lastEnd := .none }, s.cause.flags)

@[simp] theorem besideRequests_setActive (o : Option Active) (s : State) :
    besideRequests (setActive o s) = besideRequests s := rfl

theorem besideRequests_of_outsideGrant {s t : State} (h : outsideGrant t = outsideGrant s) :
    besideRequests t = besideRequests s := by
  have hrumble := congrArg besideRequests h
  exact hrumble

@[simp] theorem besideRequests_endKick (s : State) : besideRequests (endKick s) = besideRequests s :=
  besideRequests_of_outsideGrant (outsideGrant_endKick s)

@[simp] theorem besideRequests_setKick (k : Kick) (s : State) : besideRequests (setKick k s) = besideRequests s := rfl

@[simp] theorem besideRequests_kickRuleIf (b : Bool) (s : State) : besideRequests (kickRuleIf b s) = besideRequests s := by
  unfold kickRuleIf
  split
  · split
    · exact besideRequests_of_outsideGrant (by simp)
    · rfl
  · rfl

@[simp] theorem besideRequests_startRequest (r : Request) (s : State) :
    besideRequests (startRequest r s) = besideRequests s := besideRequests_kickRuleIf ..

@[simp] theorem besideRequests_startHead (s : State) : besideRequests (startHead s) = besideRequests s := by
  unfold startHead
  split
  · exact besideRequests_startRequest ..
  · rfl

@[simp] theorem besideRequests_closeRequest (e : EndReason) (s : State) :
    besideRequests (closeRequest e s) = besideRequests s := by
  have hflags : (closedCause e s).flags = s.cause.flags := by
    unfold closedCause
    split <;> rfl
  rw [besideRequests, closeRequest_rumble, closeRequest_cause, hflags]
  rfl

@[simp] theorem besideRequests_endRequest (e : EndReason) (s : State) :
    besideRequests (endRequest e s) = besideRequests s := by simp [endRequest]

@[simp] theorem besideRequests_kickTick (s : State) : besideRequests (kickTick s) = besideRequests s := by
  unfold kickTick
  split
  · split
    · split <;> simp
    · rfl
    · rfl
  · rfl

@[simp] theorem besideRequests_enterStep (i : Nat) (s : State) : besideRequests (enterStep i s) = besideRequests s := by
  unfold enterStep
  split
  · simp only
    split <;> simp
  · rfl

@[simp] theorem besideRequests_advanceStep (s : State) : besideRequests (advanceStep s) = besideRequests s := by
  unfold advanceStep
  split
  · simp only
    split
    · simp
    · split <;> simp
  · rfl

@[simp] theorem besideRequests_stepTick (b : Bool) (s : State) : besideRequests (stepTick b s) = besideRequests s := by
  unfold stepTick
  split
  · split
    · rfl
    · split <;> simp
  · rfl

@[simp] theorem besideRequests_countAllowance (s : State) : besideRequests (countAllowance s) = besideRequests s := by
  unfold countAllowance
  split
  · split <;> simp
  · rfl

/-! ## The counts of the motor (R145, R147, R149) -/

/-- The drive after the counts that hang on the motor's level alone. -/
def heatedRumble (s : State) : Rumble :=
  { s.rumble with
    heat := nextHeat s.rumble.heat (effectiveLevel s),
    hot := nextHot s.rumble.hot (nextHeat s.rumble.heat (effectiveLevel s)),
    zeroRun := nextZeroRun s.rumble.zeroRun (effectiveLevel s), warnTicks := nextWarnTicks s }

/-- The state after the counts that hang on the motor's level alone. -/
def heated (s : State) : State := { s with rumble := heatedRumble s }

theorem warmTick_eq (s : State) :
    warmTick s = if (heated s).rumble.hot && !s.rumble.hot then endKick (heated s) else heated s := rfl

theorem besideRequests_warmTick (s : State) : besideRequests (warmTick s) = besideRequests (heated s) := by
  rw [warmTick_eq]
  split
  · exact besideRequests_endKick _
  · rfl

theorem besideRequests_driveTick (s : State) : besideRequests (driveTick s) = besideRequests (heated s) := by
  rw [← besideRequests_warmTick]
  unfold driveTick countTick
  simp only [besideRequests_kickRuleIf]
  split
  · exact besideRequests_endRequest ..
  · simp

section
variable {a : Active} {q : Request} {queue : List Request} {s x : State} {u : Supply}

theorem warmTick_of_quiet (h : (heated s).rumble.hot = true → s.rumble.hot = true) : warmTick s = heated s := by
  rw [warmTick_eq]
  refine if_neg fun hnew => ?_
  obtain ⟨hhot, hcold⟩ := Bool.and_eq_true_iff.1 hnew
  rw [h hhot] at hcold
  exact Bool.noConfusion hcold

theorem warmTick_of_still (ha : s.rumble.active = some a) (hk : a.kick = .none) : warmTick s = heated s := by
  rw [warmTick_eq, endKick_of_still (by exact ha) hk]
  exact ite_self _

theorem warmTick_of_idle (ha : s.rumble.active = none) : warmTick s = heated s := by
  rw [warmTick_eq, endKick_of_none (by exact ha)]
  exact ite_self _

/-- HOT becomes set: the kick ends (R149). -/
theorem warmTick_of_hot (hhot : (heated s).rumble.hot = true) (hcold : s.rumble.hot = false)
    (ha : s.rumble.active = some a) (h : Leaves s a u) :
    warmTick s = setActive (some (unkicked a)) { heated s with supply := u } := by
  rw [warmTick_eq, hhot, hcold]
  exact endKick_leaves (by exact ha) (by exact h)

/-! ## The counts of the request (R142, R146) -/

/-- The request with its allowance counted (R142). -/
def countedDown (s : State) (a : Active) : Active :=
  { a with allowanceLeft :=
      if (patternOf s a.request).rep = .loop then a.allowanceLeft - 1 else a.allowanceLeft }

theorem countAllowance_of_active (ha : s.rumble.active = some a) :
    countAllowance s = setActive (some (countedDown s a)) s := by
  unfold countAllowance countedDown
  simp only [ha]
  split
  · rfl
  · exact congrArg (fun o : Option Active => ({ s with rumble := { s.rumble with active := o } } : State)) ha

theorem allowanceEnds_eq_false (ha : s.rumble.active = some a)
    (h : (patternOf s a.request).rep = .once ∨ 1 < a.allowanceLeft) : allowanceEnds s = false := by
  simp only [allowanceEnds, ha, Bool.and_eq_false_iff, beq_eq_false_iff_ne, decide_eq_false_iff_not]
  obtain h | h := h
  · exact .inl (by rw [h]; exact Repeat.noConfusion)
  · exact .inr (Nat.not_le.2 h)

theorem allowanceEnds_eq_true (ha : s.rumble.active = some a) (hloop : (patternOf s a.request).rep = .loop)
    (hlast : a.allowanceLeft ≤ 1) : allowanceEnds s = true := by
  simp only [allowanceEnds, ha, hloop, hlast]
  rfl

theorem kickWaits_eq (ha : s.rumble.active = some a) : kickWaits s = (a.kick == .waiting) := by
  simp only [kickWaits, ha]

/-- A tick at which the allowance lasts: the counts in their order, on the warmed state. -/
theorem countTick_of_lasts (hwarm : warmTick s = x) (hx : x.rumble.active = some a)
    (h : (patternOf x a.request).rep = .once ∨ 1 < a.allowanceLeft) :
    countTick s = stepTick (kickWaits s) (kickTick (setActive (some (countedDown x a)) x)) := by
  simp only [countTick, hwarm, allowanceEnds_eq_false hx h, countAllowance_of_active hx]
  rfl

theorem countTick_of_allowance (hwarm : warmTick s = x) (h : allowanceEnds x = true) :
    countTick s = endRequest .allowance x := by
  simp only [countTick, hwarm, h, if_true]

theorem kickTick_of_still (ha : s.rumble.active = some a) (hk : a.kick = .none) : kickTick s = s := by
  simp only [kickTick, ha, hk]

theorem kickTick_of_waiting (ha : s.rumble.active = some a) (hk : a.kick = .waiting) : kickTick s = s := by
  simp only [kickTick, ha, hk]

theorem kickTick_of_more {n : Nat} (ha : s.rumble.active = some a) (hk : a.kick = .kicking (n + 2)) :
    kickTick s = setActive (some { a with kick := .kicking (n + 1) }) s := by
  simp only [kickTick, ha, hk]
  rw [if_neg (show ¬n + 2 ≤ 1 by omega)]
  exact setKick_of_active ha _

theorem kickTick_of_last (ha : s.rumble.active = some a) (hk : a.kick = .kicking 1) : kickTick s = endKick s := by
  simp only [kickTick, ha, hk]
  rfl

theorem stepTick_of_waiting (s : State) : stepTick true s = s := by
  unfold stepTick
  split <;> rfl

theorem stepTick_of_more (ha : s.rumble.active = some a) (h : 1 < a.stepRemaining) :
    stepTick false s = setActive (some { a with stepRemaining := a.stepRemaining - 1 }) s := by
  simp only [stepTick, ha, Bool.false_eq_true, if_false]
  exact if_neg (Nat.not_le.2 h)

theorem stepTick_of_last (ha : s.rumble.active = some a) (h : a.stepRemaining = 1) : stepTick false s = advanceStep s := by
  simp only [stepTick, ha, Bool.false_eq_true, if_false]
  exact if_pos h.le

/-- The request on the step of this number. -/
def onStep (a : Active) (i : Nat) (st : Machine.Step) : Active := { a with stepIndex := i, stepRemaining := st.duration }

theorem advanceStep_of_next {st : Machine.Step} (ha : s.rumble.active = some a)
    (h : (patternOf s a.request).steps[a.stepIndex + 1]? = some st) : advanceStep s = enterStep (a.stepIndex + 1) s := by
  simp only [advanceStep, ha]
  exact if_pos (List.getElem?_eq_some_iff.1 h).1

theorem advanceStep_of_loop (ha : s.rumble.active = some a) (h : (patternOf s a.request).rep = .loop)
    (hlast : a.stepIndex + 1 = (patternOf s a.request).steps.length) : advanceStep s = enterStep 0 s := by
  simp only [advanceStep, ha]
  rw [if_neg (by omega), if_neg (by rw [h]; exact Repeat.noConfusion)]

theorem advanceStep_of_once (ha : s.rumble.active = some a) (h : (patternOf s a.request).rep = .once)
    (hlast : a.stepIndex + 1 = (patternOf s a.request).steps.length) : advanceStep s = endRequest .finished s := by
  simp only [advanceStep, ha]
  rw [if_neg (by omega), if_pos h]

theorem enterStep_eq {i : Nat} {st : Machine.Step} (ha : s.rumble.active = some a)
    (h : (patternOf s a.request).steps[i]? = some st) :
    enterStep i s =
      if st.level.driven then setActive (some (onStep a i st)) s else endKick (setActive (some (onStep a i st)) s) := by
  have hduration : stepDuration (patternOf s a.request) i = st.duration := by
    unfold stepDuration
    rw [h]
  have hlevel : activeLevel (setActive (some (onStep a i st)) s) (onStep a i st) = st.level :=
    activeLevel_of_step (by exact h)
  simp only [enterStep, ha, hduration]
  rw [← hlevel]
  rfl

theorem enterStep_of_still {i : Nat} {st : Machine.Step} (ha : s.rumble.active = some a)
    (h : (patternOf s a.request).steps[i]? = some st) (hk : a.kick = .none) :
    enterStep i s = setActive (some (onStep a i st)) s := by
  have hsame : endKick (setActive (some (onStep a i st)) s) = setActive (some (onStep a i st)) s :=
    endKick_of_still (a := onStep a i st) rfl hk
  rw [enterStep_eq ha h, hsame]
  exact ite_self _

/-! ## The kick rule of the tick -/

/-- The motor counts as stopped for the tick's kick rule (R145, R147). -/
def TickStopped (s : State) : Prop :=
  (heated s).rumble.zeroRun = 8 ∨ s.supply.monitor = .run ∧ 8 ≤ s.rumble.warnTicks

/-- A step that drives the motor. -/
def OnDriven (s : State) (a : Active) : Prop :=
  ∃ st l, (patternOf s a.request).steps[a.stepIndex]? = some st ∧ st.level = .drive (l + 1)

theorem onDriven_iff : OnDriven s a ↔ (activeLevel s a).driven = true := by
  rw [driven_iff, activeLevel, OnDriven]
  cases (patternOf s a.request).steps[a.stepIndex]? <;> simp

/-- The kick begins at the tick (R145). -/
def TickKicks (s : State) (a : Active) : Prop :=
  TickStopped s ∧ s.supply.monitor = .run ∧ s.profile.motor = true ∧ hasFault .stall s = false ∧
    (heated s).rumble.hot = false ∧ OnDriven s a

/-- The state agrees with the warmed one in what the kick rule looks at. -/
structure LikeHeated (s x : State) : Prop where
  drive : besideRequests x = besideRequests (heated s)
  monitor : x.supply.monitor = s.supply.monitor
  profile : x.profile = s.profile
  stall : hasFault .stall x = hasFault .stall s

theorem LikeHeated.zeroRun (h : LikeHeated s x) : x.rumble.zeroRun = (heated s).rumble.zeroRun := by
  have heq := congrArg (fun x : Rumble × BitVec 12 => x.1.zeroRun) h.drive
  exact heq

theorem LikeHeated.hot (h : LikeHeated s x) : x.rumble.hot = (heated s).rumble.hot := by
  have heq := congrArg (fun x : Rumble × BitVec 12 => x.1.hot) h.drive
  exact heq

theorem LikeHeated.patterns (h : LikeHeated s x) : x.rumble.patterns = s.rumble.patterns := by
  have heq := congrArg (fun x : Rumble × BitVec 12 => x.1.patterns) h.drive
  exact heq

theorem likeHeated_heated (s : State) : LikeHeated s (heated s) := ⟨rfl, rfl, rfl, rfl⟩

theorem likeHeated_supply (hu : u.monitor = s.supply.monitor) : LikeHeated s { heated s with supply := u } :=
  ⟨rfl, hu, rfl, rfl⟩

theorem LikeHeated.setActive (h : LikeHeated s x) (o : Option Active) : LikeHeated s (setActive o x) :=
  ⟨h.drive, h.monitor, h.profile, h.stall⟩

theorem besideRequests_leftWith (e : EndReason) (queue : List Request) (s : State) :
    besideRequests (leftWith e queue s) = besideRequests s := by
  rw [← leftWith_of_rest]
  exact besideRequests_closeRequest e s

theorem LikeHeated.leftWith {e : EndReason} (h : LikeHeated s x) : LikeHeated s (leftWith e queue x) :=
  ⟨(besideRequests_leftWith ..).trans h.drive, (closeRequest_monitor ..).trans h.monitor, (closeRequest_profile ..).trans h.profile,
    (hasFault_closeRequest ..).trans h.stall⟩

theorem zeroRun_eq_eight : 8 ≤ (heated s).rumble.zeroRun ↔ (heated s).rumble.zeroRun = 8 := by
  have hle : (heated s).rumble.zeroRun ≤ 8 := by
    show nextZeroRun _ _ ≤ 8
    unfold nextZeroRun
    split
    · exact Nat.min_le_left ..
    · exact Nat.zero_le 8
  exact ⟨Nat.le_antisymm hle, fun h => h.ge⟩

theorem tickStopped_iff (h : LikeHeated s x) : (stoppedByWarn s || motorStopped x) = true ↔ TickStopped s := by
  rw [Bool.or_eq_true, stoppedByWarn, motorStopped, Bool.and_eq_true, beq_iff_eq, decide_eq_true_iff, decide_eq_true_iff,
    h.zeroRun, zeroRun_eq_eight, TickStopped, or_comm]

theorem tickKicks_iff (h : LikeHeated s x) (hk : a.kick = .none) :
    TickKicks s a ↔ kickBegins (stoppedByWarn s || motorStopped x) x a = true := by
  have hdriven : OnDriven s a ↔ (activeLevel x a).driven = true := by
    rw [← onDriven_iff, OnDriven, OnDriven, patternOf, patternOf, h.patterns]
  rw [kickBegins_iff, tickStopped_iff h, h.monitor, h.profile, h.stall, h.hot, ← hdriven, TickKicks]
  constructor
  · rintro ⟨hstopped, hrun, hmotor, hstall, hcold, hstep⟩
    exact ⟨hk, hrun, hmotor, hstall, hstep, hstopped, hcold⟩
  · rintro ⟨-, hrun, hmotor, hstall, hstep, hstopped, hcold⟩
    exact ⟨hstopped, hrun, hmotor, hstall, hcold, hstep⟩

theorem driveTick_of_count {t : State} (h : countTick s = t) :
    driveTick s = kickRuleIf (stoppedByWarn s || motorStopped t) t := by
  rw [← h]
  rfl

theorem driveTick_of_idle (h : countTick s = x) (hx : x.rumble.active = none) : driveTick s = x := by
  rw [driveTick_of_count h]
  simp only [kickRuleIf, hx]

/-- The counts leave a request without a kick: the kick rule decides. -/
theorem driveTick_ruled (h : countTick s = setActive (some a) x) (hlike : LikeHeated s x) (hk : a.kick = .none) :
    KickRuled (TickKicks s a) x.rumble x.supply a (driveTick s) := by
  rw [driveTick_of_count h]
  exact (kickRuled_kickRuleIf (tickKicks_iff (hlike.setActive _) hk)).1

/-- The counts leave a request with a kick: the tick leaves it so. -/
theorem driveTick_of_kick (h : countTick s = setActive (some a) x) (hk : a.kick ≠ .none) :
    driveTick s = setActive (some a) x := by
  rw [driveTick_of_count h]
  refine kickRuleIf_of_not rfl (eq_false_of_ne_true fun hbegins => hk ?_)
  exact (kickBegins_iff.1 hbegins).1

/-- A kick begun by the rule is not begun again; one not begun is looked at with the wider reading. -/
theorem kickRuleIf_twice {b c : Bool} (hbc : c = true → b = true) (ha : s.rumble.active = some a) :
    kickRuleIf b (kickRuleIf c s) = kickRuleIf b s := by
  by_cases hbegins : kickBegins c s a = true
  · obtain ⟨hk, hrun, hmotor, hstall, hdriven, hstopped, hhot⟩ := kickBegins_iff.1 hbegins
    have hwide : kickBegins b s a = true := kickBegins_iff.2 ⟨hk, hrun, hmotor, hstall, hdriven, hbc hstopped, hhot⟩
    have hdone {k : Kick} {v : Supply} (hne : k ≠ .none) :
        kickRuleIf b (setActive (some { a with kick := k }) { s with supply := v }) =
          setActive (some { a with kick := k }) { s with supply := v } :=
      kickRuleIf_of_not rfl (eq_false_of_ne_true fun h => hne (kickBegins_iff.1 h).1)
    by_cases hfree : s.supply.holder = .none
    · rw [kickRuleIf_of_free ha hbegins hfree, kickRuleIf_of_free ha hwide hfree]
      exact hdone Kick.noConfusion
    · rw [kickRuleIf_of_held ha hbegins hfree, kickRuleIf_of_held ha hwide hfree]
      exact hdone Kick.noConfusion
  · rw [kickRuleIf_of_not ha (eq_false_of_ne_true hbegins)]

theorem motorStopped_startRequest (r : Request) (s : State) : motorStopped (startRequest r s) = motorStopped s := by
  have hzero := congrArg (fun x : Rumble × BitVec 12 => x.1.zeroRun) (besideRequests_startRequest r s)
  exact congrArg (fun n => decide (8 ≤ n)) hzero

/-- A request started by the tick: the tick's kick rule takes in that of the start (R138, R147). -/
theorem driveTick_of_start (h : countTick s = startRequest q x) (hlike : LikeHeated s x) :
    KickRuled (TickKicks s (onFirstStep s q)) x.rumble x.supply (onFirstStep s q) (driveTick s) := by
  have hfirst : onFirstStep x q = onFirstStep s q := by
    rw [onFirstStep, onFirstStep, patternOf, patternOf, hlike.patterns]
  have htwice : kickRuleIf (stoppedByWarn s || motorStopped x) (kickRule (setActive (some (onFirstStep s q)) x)) = _ :=
    kickRuleIf_twice (fun hstopped => Bool.or_eq_true_iff.2 (.inr hstopped)) rfl
  rw [driveTick_of_count h, motorStopped_startRequest, startRequest_eq, hfirst, htwice]
  exact (kickRuled_kickRuleIf (tickKicks_iff (hlike.setActive _) rfl)).1

end

end Sys2Proof.Proofs
end

section
/-! The rumble tick (O53). -/

namespace Sys2Proof.Proofs

open Sys2Proof.Machine Sys2Proof.Safety Sys2Proof.Laws

section
variable {a : Active} {c : Instr} {e : EndReason} {n : Nat} {q : Request} {queue : List Request} {s : State}
  {st : Machine.Step} {u : Supply} {x : Rumble}

/-! ## The tick beside voice 5's hold counter -/

theorem holdTick_frame (s : State) : { holdTick s with voices := s.voices, port := s.port } = s := by
  unfold holdTick
  simp only
  split
  · split
    · split
      · rw [putVoice_eq]
      · rfl
    · rfl
  · rfl

theorem rumbleTick_rumble (s : State) : (rumbleTick s).rumble = (driveTick s).rumble := by
  have hrumble := congrArg (fun u : State => u.rumble) (holdTick_frame (driveTick s))
  exact hrumble

theorem rumbleTick_supply (s : State) : (rumbleTick s).supply = (driveTick s).supply := by
  have hsupply := congrArg (fun u : State => u.supply) (holdTick_frame (driveTick s))
  exact hsupply

theorem rumbleTick_cause (s : State) : (rumbleTick s).cause = (driveTick s).cause := by
  have hcause := congrArg (fun u : State => u.cause) (holdTick_frame (driveTick s))
  exact hcause

theorem besideRequests_rumbleTick (s : State) : besideRequests (rumbleTick s) = besideRequests (heated s) := by
  rw [besideRequests, rumbleTick_rumble, rumbleTick_cause]
  exact besideRequests_driveTick s

/-- The tick changes the drive, the voices, the port, the latches, the grant and what it lets the engine do. -/
theorem rumbleTick_frame (s : State) :
    { rumbleTick s with rumble := s.rumble, voices := s.voices, port := s.port, cause := s.cause, supply := s.supply,
                        dir := s.dir, engine := s.engine } = s := by
  have hhold := congrArg (fun u : State => ({ u with
    rumble := s.rumble, voices := s.voices, port := s.port, cause := s.cause, supply := s.supply, dir := s.dir,
    engine := s.engine } : State)) (holdTick_frame (driveTick s))
  have hdrive := congrArg (fun u : State => ({ u with voices := s.voices, port := s.port } : State)) (driveTick_frame s)
  exact hhold.trans hdrive

/-- The row ends with this watch, and this request active beside the drive x. -/
def TickStands (s : State) (c : Instr) (u : Supply) (x : Rumble) (a : Active) : Prop :=
  ∃ t, exec c s = .next t ∧
    { t with rumble := s.rumble, voices := s.voices, port := s.port, cause := s.cause, supply := s.supply, dir := s.dir,
             engine := s.engine } = s ∧
    t.supply = u ∧ t.rumble = { x with active := some a }

theorem tickStands_of_drive (hexec : exec c s = .next (rumbleTick s)) (hsupply : (driveTick s).supply = u)
    (hrumble : (driveTick s).rumble = { x with active := some a }) : TickStands s c u x a :=
  ⟨_, hexec, rumbleTick_frame s, (rumbleTick_supply s).trans hsupply, (rumbleTick_rumble s).trans hrumble⟩

theorem tickStands_of_eq (hexec : exec c s = .next (rumbleTick s)) (h : driveTick s = setActive (some a) (heated s)) :
    TickStands s c s.supply (heatedRumble s) a := by
  refine tickStands_of_drive hexec ?_ ?_
  all_goals
    rw [h]
    rfl

/-- The row ends as the kick rule leaves this request. -/
def TickLands (s : State) (c : Instr) (x : Rumble) (a : Active) : Prop :=
  (¬TickKicks s a → TickStands s c s.supply x a) ∧
  (TickKicks s a → s.supply.holder = .none →
    TickStands s c { s.supply with holder := .kicker, kickerReq := false } x { a with kick := .kicking 3 }) ∧
  (TickKicks s a → s.supply.holder ≠ .none →
    TickStands s c { s.supply with kickerReq := true } x { a with kick := .waiting })

theorem tickLands_of_ruled (hexec : exec c s = .next (rumbleTick s))
    (h : KickRuled (TickKicks s a) x s.supply a (driveTick s)) : TickLands s c x a := by
  obtain ⟨hno, hfree, hheld⟩ := h
  refine ⟨fun hk => ?_, fun hk hholder => ?_, fun hk hholder => ?_⟩
  · obtain ⟨hrumble, hsupply⟩ := hno hk
    exact tickStands_of_drive hexec hsupply hrumble
  · obtain ⟨hrumble, hsupply⟩ := hfree hk hholder
    exact tickStands_of_drive hexec hsupply hrumble
  · obtain ⟨hrumble, hsupply⟩ := hheld hk hholder
    exact tickStands_of_drive hexec hsupply hrumble

/-! ## The rows -/

/-- The request's allowance does not end at this tick. -/
def Lasts (s : State) (a : Active) : Prop := (patternOf s a.request).rep = .once ∨ 1 < a.allowanceLeft

theorem exec_allowanceExpiry_eq (htick : ticking s = true) (h : allowanceEnds s = true) :
    exec .allowanceExpiry s = .next (rumbleTick s) := if_pos (Bool.and_eq_true_iff.2 ⟨htick, h⟩)

theorem exec_stepExpiry_eq (htick : ticking s = true) (ha : s.rumble.active = some a) (hlasts : Lasts s a)
    (hk : a.kick ≠ .waiting) (hlast : a.stepRemaining = 1) : exec .stepExpiry s = .next (rumbleTick s) := by
  have hends : stepEnds s = true := by
    rw [stepEnds, allowanceEnds_eq_false ha hlasts, kickWaits_eq ha, beq_eq_false_iff_ne.2 hk]
    simp only [ha, hlast]
    rfl
  exact if_pos (Bool.and_eq_true_iff.2 ⟨htick, hends⟩)

theorem exec_kickEnd_eq (htick : ticking s = true) (ha : s.rumble.active = some a) (hk : a.kick = .kicking 1) :
    exec .kickEnd s = .next (rumbleTick s) := by
  have hends : kickEnds s = true := by
    simp only [kickEnds, ha, hk]
    rfl
  exact if_pos (Bool.and_eq_true_iff.2 ⟨htick, hends⟩)

/-! ## A request without a kick -/

theorem countTick_of_still (ha : s.rumble.active = some a) (hk : a.kick = .none) (hlasts : Lasts s a) :
    countTick s = stepTick false (setActive (some (countedDown s a)) (heated s)) := by
  rw [countTick_of_lasts (warmTick_of_still ha hk) (by exact ha) (by exact hlasts), kickWaits_eq ha, hk,
    kickTick_of_still rfl (by exact hk)]
  rfl

theorem countTick_of_still_more (ha : s.rumble.active = some a) (hk : a.kick = .none) (hlasts : Lasts s a)
    (h : 1 < a.stepRemaining) :
    countTick s =
      setActive (some { countedDown s a with stepRemaining := a.stepRemaining - 1 }) (heated s) := by
  rw [countTick_of_still ha hk hlasts, stepTick_of_more rfl (by exact h)]
  rfl

theorem countTick_of_still_next (ha : s.rumble.active = some a) (hk : a.kick = .none) (hlasts : Lasts s a)
    (h : a.stepRemaining = 1) (hst : (patternOf s a.request).steps[a.stepIndex + 1]? = some st) :
    countTick s = setActive (some (onStep (countedDown s a) (a.stepIndex + 1) st)) (heated s) := by
  rw [countTick_of_still ha hk hlasts, stepTick_of_last rfl (by exact h), advanceStep_of_next rfl (by exact hst),
    enterStep_of_still rfl (by exact hst) (by exact hk)]
  rfl

theorem countTick_of_still_loop (ha : s.rumble.active = some a) (hk : a.kick = .none) (hlasts : Lasts s a)
    (h : a.stepRemaining = 1) (hloop : (patternOf s a.request).rep = .loop)
    (hlast : a.stepIndex + 1 = (patternOf s a.request).steps.length)
    (hst : (patternOf s a.request).steps[0]? = some st) :
    countTick s = setActive (some (onStep (countedDown s a) 0 st)) (heated s) := by
  rw [countTick_of_still ha hk hlasts, stepTick_of_last rfl (by exact h), advanceStep_of_loop rfl (by exact hloop) (by exact hlast),
    enterStep_of_still rfl (by exact hst) (by exact hk)]
  rfl

theorem countTick_of_finished (ha : s.rumble.active = some a) (hk : a.kick = .none) (h : a.stepRemaining = 1)
    (honce : (patternOf s a.request).rep = .once) (hlast : a.stepIndex + 1 = (patternOf s a.request).steps.length) :
    countTick s = endRequest .finished (heated s) := by
  have hsame : setActive (some (countedDown s a)) (heated s) = heated s := by
    rw [countedDown, if_neg (by rw [honce]; exact Repeat.noConfusion)]
    exact congrArg (fun o : Option Active => setActive o (heated s)) ha.symm
  rw [countTick_of_still ha hk (.inl honce), hsame, stepTick_of_last (by exact ha) h,
    advanceStep_of_once (by exact ha) (by exact honce) (by exact hlast)]

/-! ## A request that ends at the tick -/

theorem kickRuleIf_cause (b : Bool) (s : State) : (kickRuleIf b s).cause = s.cause := by
  unfold kickRuleIf
  split
  · split
    · have hgrant : outsideGrant (kickerRequest (setKick .waiting s)) = outsideGrant s := by simp
      have hcause := congrArg (fun u : State => u.cause) hgrant
      exact hcause
    · rfl
  · rfl

theorem closeRequest_heated (ha : s.rumble.active = some a) (hk : a.kick = .none) :
    closeRequest e (heated s) = { heated s with rumble := closed e (heated s), cause := closedCause e s } :=
  closeRequest_of_leaves (a := a) (by exact ha) (.inl ⟨hk, rfl⟩)

theorem driveTick_of_gone (hcount : countTick s = endRequest e (heated s)) (ha : s.rumble.active = some a)
    (hk : a.kick = .none) (hqueue : s.rumble.queue = []) :
    driveTick s = { heated s with rumble := closed e (heated s), cause := closedCause e s } := by
  rw [endRequest_of_empty (by exact hqueue), closeRequest_heated ha hk] at hcount
  exact driveTick_of_idle hcount rfl

theorem driveTick_of_next (hcount : countTick s = endRequest e (heated s)) (ha : s.rumble.active = some a)
    (hk : a.kick = .none) (hqueue : s.rumble.queue = q :: queue) :
    KickRuled (TickKicks s (onFirstStep s q)) { closed e (heated s) with queue := queue } s.supply (onFirstStep s q)
        (driveTick s) ∧
      (driveTick s).cause = closedCause e s := by
  rw [endRequest_of_queue (by exact hqueue)] at hcount
  have hclose := closeRequest_heated (e := e) ha hk
  have hsupply := congrArg (fun u : State => u.supply) hclose
  have hleft : (leftWith e queue (heated s)).supply = s.supply := hsupply
  have hruled := driveTick_of_start hcount (likeHeated_heated s).leftWith
  rw [hleft] at hruled
  refine ⟨hruled, ?_⟩
  rw [driveTick_of_count hcount, kickRuleIf_cause, started_cause]
  rfl

/-- The request ends at the tick, nothing starts. -/
theorem tickGone (hexec : exec c s = .next (rumbleTick s)) (hcount : countTick s = endRequest e (heated s))
    (ha : s.rumble.active = some a) (hk : a.kick = .none) (hqueue : s.rumble.queue = []) :
    ∃ t, exec c s = .next t ∧ t.rumble = closed e (heated s) ∧
      t.cause.latches.rumbleEnd = (closedCause e s).latches.rumbleEnd ∧ t.supply = s.supply ∧
      { t with rumble := s.rumble, voices := s.voices, port := s.port, cause := s.cause, supply := s.supply,
               dir := s.dir, engine := s.engine } = s := by
  have hdrive := driveTick_of_gone hcount ha hk hqueue
  refine ⟨_, hexec, ?_, ?_, ?_, rumbleTick_frame s⟩
  · rw [rumbleTick_rumble, hdrive]
  · rw [rumbleTick_cause, hdrive]
  · rw [rumbleTick_supply, hdrive]
    rfl

/-- The request ends at the tick, the head of the queue starts. -/
theorem tickNext (hexec : exec c s = .next (rumbleTick s)) (hcount : countTick s = endRequest e (heated s))
    (ha : s.rumble.active = some a) (hk : a.kick = .none) (hqueue : s.rumble.queue = q :: queue) :
    (∃ t, exec c s = .next t ∧ t.cause.latches.rumbleEnd = (closedCause e s).latches.rumbleEnd) ∧
      TickLands s c { closed e (heated s) with queue := queue } (onFirstStep s q) := by
  obtain ⟨hruled, hcause⟩ := driveTick_of_next hcount ha hk hqueue
  exact ⟨⟨_, hexec, congrArg (·.latches.rumbleEnd) ((rumbleTick_cause s).trans hcause)⟩, tickLands_of_ruled hexec hruled⟩

/-! ## A request with a kick -/

theorem driveTick_of_waiting (ha : s.rumble.active = some a) (hk : a.kick = .waiting) (hlasts : Lasts s a)
    (hhot : (heated s).rumble.hot = true → s.rumble.hot = true) :
    driveTick s = setActive (some (countedDown s a)) (heated s) := by
  have hcount : countTick s = setActive (some (countedDown s a)) (heated s) := by
    rw [countTick_of_lasts (warmTick_of_quiet hhot) (by exact ha) (by exact hlasts), kickWaits_eq ha, hk,
      kickTick_of_waiting rfl (by exact hk)]
    exact stepTick_of_waiting _
  exact driveTick_of_kick hcount (by rw [countedDown, hk]; exact Kick.noConfusion)

/-- The request counted, its kick at n. -/
def kickingAt (n : Nat) (s : State) (a : Active) : Active := { countedDown s a with kick := .kicking n }

theorem countTick_of_kicking (ha : s.rumble.active = some a) (hk : a.kick = .kicking (n + 2)) (hlasts : Lasts s a)
    (hcold : (heated s).rumble.hot = false) :
    countTick s = stepTick false (setActive (some (kickingAt (n + 1) s a)) (heated s)) := by
  have hwarm : warmTick s = heated s := warmTick_of_quiet fun hhot => (nomatch hcold.symm.trans hhot)
  rw [countTick_of_lasts hwarm (by exact ha) (by exact hlasts), kickWaits_eq ha, hk, kickTick_of_more rfl (by exact hk)]
  rfl

theorem driveTick_of_kicking_more (ha : s.rumble.active = some a) (hk : a.kick = .kicking (n + 2)) (hlasts : Lasts s a)
    (hcold : (heated s).rumble.hot = false) (h : 1 < a.stepRemaining) :
    driveTick s =
      setActive (some { kickingAt (n + 1) s a with stepRemaining := a.stepRemaining - 1 }) (heated s) := by
  refine driveTick_of_kick ?_ Kick.noConfusion
  rw [countTick_of_kicking ha hk hlasts hcold, stepTick_of_more rfl (by exact h)]
  rfl

/-- The kicker's grant can be released at once. -/
def Released (s : State) : Prop :=
  s.supply.holder = .kicker ∧ s.supply.engineReq = false ∧ s.supply.kickerReq = false

/-- The watch with the grant free. -/
def freed (s : State) : Supply := { s.supply with holder := .none }

theorem Released.leaves (h : Released s) (hk : a.kick = .kicking n) : Leaves s a (freed s) :=
  .inr (.inr ⟨⟨⟨n, hk⟩, h.1, .inl h.2.2⟩, h.2.1, rfl⟩)

theorem likeHeated_freed (s : State) : LikeHeated s { heated s with supply := freed s } := likeHeated_supply rfl

theorem endKick_of_released (h : Released s) (hk : a.kick = .kicking n) :
    endKick (setActive (some a) (heated s)) = setActive (some (unkicked a)) { heated s with supply := freed s } :=
  endKick_leaves (s := setActive (some a) (heated s)) rfl (h.leaves hk)

theorem countTick_of_kicking_next (ha : s.rumble.active = some a) (hk : a.kick = .kicking (n + 2)) (hlasts : Lasts s a)
    (hcold : (heated s).rumble.hot = false) (h : a.stepRemaining = 1)
    (hst : (patternOf s a.request).steps[a.stepIndex + 1]? = some st) :
    countTick s =
      if st.level.driven then
        setActive (some (onStep (kickingAt (n + 1) s a) (a.stepIndex + 1) st)) (heated s)
      else endKick (setActive (some (onStep (kickingAt (n + 1) s a) (a.stepIndex + 1) st)) (heated s)) := by
  rw [countTick_of_kicking ha hk hlasts hcold, stepTick_of_last rfl (by exact h), advanceStep_of_next rfl (by exact hst),
    enterStep_eq rfl (by exact hst)]
  rfl

/-- A kick goes on when the next step drives the motor. -/
theorem driveTick_of_kicking_driven (ha : s.rumble.active = some a) (hk : a.kick = .kicking (n + 2)) (hlasts : Lasts s a)
    (hcold : (heated s).rumble.hot = false) (h : a.stepRemaining = 1)
    (hst : (patternOf s a.request).steps[a.stepIndex + 1]? = some st) (hdriven : st.level.driven = true) :
    driveTick s = setActive (some (onStep (kickingAt (n + 1) s a) (a.stepIndex + 1) st)) (heated s) := by
  refine driveTick_of_kick ?_ Kick.noConfusion
  rw [countTick_of_kicking_next ha hk hlasts hcold h hst, if_pos hdriven]

/-- A kick ends early on a step that does not drive the motor (R146). -/
theorem kickRuled_of_kicking_cut (ha : s.rumble.active = some a) (hk : a.kick = .kicking (n + 2)) (hlasts : Lasts s a)
    (hcold : (heated s).rumble.hot = false) (h : a.stepRemaining = 1)
    (hst : (patternOf s a.request).steps[a.stepIndex + 1]? = some st) (hstill : st.level.driven = false)
    (hfree : Released s) :
    (driveTick s).supply = freed s ∧
      (driveTick s).rumble =
        { heatedRumble s with active := some { onStep (countedDown s a) (a.stepIndex + 1) st with kick := .none } } := by
  have hcount := countTick_of_kicking_next ha hk hlasts hcold h hst
  rw [if_neg (ne_true_of_eq_false hstill), endKick_of_released hfree rfl] at hcount
  have hruled := driveTick_ruled (x := { heated s with supply := freed s }) hcount (likeHeated_freed s) rfl
  have hnot : ¬TickKicks s (unkicked (onStep (kickingAt (n + 1) s a) (a.stepIndex + 1) st)) := by
    rintro ⟨-, -, -, -, -, hdriven⟩
    have hlevel : activeLevel s (unkicked (onStep (kickingAt (n + 1) s a) (a.stepIndex + 1) st)) = st.level :=
      activeLevel_of_step (by exact hst)
    rw [onDriven_iff, hlevel, hstill] at hdriven
    exact Bool.noConfusion hdriven
  obtain ⟨hrumble, hsupply⟩ := hruled.1 hnot
  exact ⟨hsupply, hrumble⟩

/-- HOT becomes set under the kick (R149). -/
theorem driveTick_of_hot (ha : s.rumble.active = some a) (hk : a.kick = .kicking n) (hlasts : Lasts s a)
    (hhot : (heated s).rumble.hot = true) (hcold : s.rumble.hot = false) (h : 1 < a.stepRemaining) (hfree : Released s) :
    (driveTick s).supply = freed s ∧
      (driveTick s).rumble =
        { heatedRumble s with
          active := some { countedDown s a with stepRemaining := a.stepRemaining - 1, kick := .none } } := by
  have hcount := countTick_of_lasts (warmTick_of_hot hhot hcold ha (hfree.leaves hk)) (a := unkicked a) rfl
    (by exact hlasts)
  rw [kickWaits_eq ha, hk, kickTick_of_still rfl rfl] at hcount
  have hmore : countTick s = setActive (some { countedDown s (unkicked a) with stepRemaining := a.stepRemaining - 1 })
      { heated s with supply := freed s } := hcount.trans (stepTick_of_more rfl (by exact h))
  have hruled := driveTick_ruled hmore (likeHeated_freed s) rfl
  obtain ⟨hrumble, hsupply⟩ := hruled.1 fun ⟨_, _, _, _, hnot, _⟩ => (nomatch hhot.symm.trans hnot)
  exact ⟨hsupply, hrumble⟩

/-- The kick's last tick (R146): the motor is not stopped, no new kick begins. -/
theorem driveTick_of_kickEnd (ha : s.rumble.active = some a) (hk : a.kick = .kicking 1) (hlasts : Lasts s a)
    (hcold : (heated s).rumble.hot = false) (h : 1 < a.stepRemaining) (hlevel : 0 < effectiveLevel s)
    (hwarn : ¬(s.supply.monitor = .run ∧ 8 ≤ s.rumble.warnTicks)) (hfree : Released s) :
    (driveTick s).supply = freed s ∧
      (driveTick s).rumble =
        { heatedRumble s with
          active := some { countedDown s a with stepRemaining := a.stepRemaining - 1, kick := .none } } := by
  have hwarm : warmTick s = heated s := warmTick_of_quiet fun hhot => (nomatch hcold.symm.trans hhot)
  have hcount := countTick_of_lasts hwarm (by exact ha) (by exact hlasts)
  rw [kickWaits_eq ha, hk, kickTick_of_last rfl (by exact hk), endKick_of_released hfree (by exact hk)] at hcount
  have hmore : countTick s = setActive (some { countedDown s (unkicked a) with stepRemaining := a.stepRemaining - 1 })
      { heated s with supply := freed s } := hcount.trans (stepTick_of_more rfl (by exact h))
  have hruled := driveTick_ruled hmore (likeHeated_freed s) rfl
  have hzero : (heated s).rumble.zeroRun = 0 := if_neg (Nat.pos_iff_ne_zero.1 hlevel)
  obtain ⟨hrumble, hsupply⟩ := hruled.1 fun ⟨hstopped, _⟩ => hstopped.elim (fun h8 => (nomatch hzero.symm.trans h8)) hwarn
  exact ⟨hsupply, hrumble⟩

theorem driveTick_of_no_request (ha : s.rumble.active = none) : driveTick s = heated s := by
  have hcount : countTick s = heated s := by
    have hends : allowanceEnds (heated s) = false := by simp only [allowanceEnds, heated, heatedRumble, ha]
    have hallow : countAllowance (heated s) = heated s := by simp only [countAllowance, heated, heatedRumble, ha]
    have hkick : kickTick (heated s) = heated s := by simp only [kickTick, heated, heatedRumble, ha]
    have hstep : stepTick (kickWaits s) (heated s) = heated s := by simp only [stepTick, heated, heatedRumble, ha]
    simp only [countTick, warmTick_of_idle ha, hends, hallow, hkick, hstep]
    rfl
  exact driveTick_of_idle hcount ha

end

/-- Settles O53: the tick's counts, case by case on the kick, then the kick rule. -/
theorem rumbleTickAdvances : Obligations.RumbleTickAdvances := by
  intro s hpow hrun
  have htick : ticking s = true := ticking_iff.2 ⟨hpow, hrun⟩
  have hrow := exec_rumbleTick_eq hpow hrun
  refine ⟨?_, fun a ha hk => ⟨fun hlasts h => ?_, fun st hlasts h hst => ?_, fun st hlasts hloop h hlast hst => ?_,
    fun hloop hleft => ?_, fun honce h hlast => ?_⟩, fun a ha hk hlasts hhot => ?_,
    fun a n ha hk hlasts hcold => ⟨fun h => ?_, fun st h hst => ⟨fun l hl => ?_, fun hstill hfree => ?_⟩⟩,
    fun a n ha hk hlasts hhot hcold h hfree => ?_, fun a ha hk hlasts h hcold hlevel hwarn hfree => ?_⟩
  · have hbeside := besideRequests_rumbleTick s
    have hheat := congrArg (fun x : Rumble × BitVec 12 => x.1.heat) hbeside
    have hhot := congrArg (fun x : Rumble × BitVec 12 => x.1.hot) hbeside
    have hzero := congrArg (fun x : Rumble × BitVec 12 => x.1.zeroRun) hbeside
    have hwarn := congrArg (fun x : Rumble × BitVec 12 => x.1.warnTicks) hbeside
    refine ⟨_, hrow, hheat, hhot, hzero, hwarn, fun ha _ => ?_, rumbleTick_frame s⟩
    exact (rumbleTick_rumble s).trans (congrArg (fun u : State => u.rumble) (driveTick_of_no_request ha))
  · exact tickLands_of_ruled hrow (driveTick_ruled (countTick_of_still_more ha hk hlasts h) (likeHeated_heated s) hk)
  · exact tickLands_of_ruled (exec_stepExpiry_eq htick ha hlasts (by rw [hk]; exact Kick.noConfusion) h)
      (driveTick_ruled (countTick_of_still_next ha hk hlasts h hst) (likeHeated_heated s) hk)
  · exact tickLands_of_ruled (exec_stepExpiry_eq htick ha hlasts (by rw [hk]; exact Kick.noConfusion) h)
      (driveTick_ruled (countTick_of_still_loop ha hk hlasts h hloop hlast hst) (likeHeated_heated s) hk)
  · have hends : allowanceEnds s = true := allowanceEnds_eq_true ha hloop hleft.le
    have hexec := exec_allowanceExpiry_eq htick hends
    have hcount : countTick s = endRequest .allowance (heated s) :=
      countTick_of_allowance (warmTick_of_still ha hk) (by exact hends)
    exact ⟨tickGone hexec hcount ha hk, fun q queue => tickNext hexec hcount ha hk⟩
  · have hexec := exec_stepExpiry_eq htick ha (.inl honce) (by rw [hk]; exact Kick.noConfusion) h
    have hcount := countTick_of_finished ha hk h honce hlast
    exact ⟨tickGone hexec hcount ha hk, fun q queue => tickNext hexec hcount ha hk⟩
  · exact tickStands_of_eq hrow (driveTick_of_waiting ha hk hlasts hhot)
  · exact tickStands_of_eq hrow (driveTick_of_kicking_more ha hk hlasts hcold h)
  · exact tickStands_of_eq (exec_stepExpiry_eq htick ha hlasts (by rw [hk]; exact Kick.noConfusion) h)
      (driveTick_of_kicking_driven ha hk hlasts hcold h hst (driven_iff.2 ⟨l, hl⟩))
  · have hlevel : st.level.driven = false := by
      obtain hbrake | hzero := hstill
      · rw [hbrake]
        rfl
      · rw [hzero]
        rfl
    obtain ⟨hsupply, hrumble⟩ := kickRuled_of_kicking_cut ha hk hlasts hcold h hst hlevel hfree
    exact tickStands_of_drive (exec_stepExpiry_eq htick ha hlasts (by rw [hk]; exact Kick.noConfusion) h) hsupply hrumble
  · obtain ⟨hsupply, hrumble⟩ := driveTick_of_hot ha hk hlasts hhot hcold h hfree
    exact tickStands_of_drive hrow hsupply hrumble
  · obtain ⟨hsupply, hrumble⟩ := driveTick_of_kickEnd ha hk hlasts hcold h hlevel hwarn hfree
    exact tickStands_of_drive (exec_kickEnd_eq htick ha hk) hsupply hrumble

end Sys2Proof.Proofs
end

section
/-! The release of /CRST and the coin cell sense (O60). -/

namespace Sys2Proof.Proofs

open Sys2Proof.Machine Sys2Proof.Safety Sys2Proof.Laws

section
variable {b : Nat} {s : State} {straps : Straps}

/-! ## The pool and the flags -/

theorem mem_allSlots (n : SlotNo) : n ∈ allSlots := by
  revert n
  decide

theorem blockHeld_eq_false :
    blockHeld s b = false ↔ ∀ n : SlotNo, s.dir.slots[n].current ≠ some b ∧ s.dir.slots[n].working ≠ some b := by
  rw [blockHeld, List.any_eq_false]
  constructor
  · intro h n
    have hn := h n (mem_allSlots n)
    rw [Bool.or_eq_true, beq_iff_eq, beq_iff_eq] at hn
    exact not_or.1 hn
  · intro h n _
    rw [Bool.or_eq_true, beq_iff_eq, beq_iff_eq]
    exact not_or.2 (h n)

theorem mem_fitPool : b ∈ (fitPool s).dir.pool ↔
    b < s.profile.blocks ∧ (b ∈ s.dir.pool ∨
      ∀ n : SlotNo, s.dir.slots[n].current ≠ some b ∧ s.dir.slots[n].working ≠ some b) := by
  rw [fitPool, ← blockHeld_eq_false, List.mem_filter, List.mem_range, Bool.or_eq_true, List.contains_iff_mem,
    Bool.not_eq_true']

theorem mem_rebuildPool : b ∈ (rebuildPool s).dir.pool ↔
    b < s.profile.blocks ∧
      ∀ n : SlotNo, s.dir.slots[n].current ≠ some b ∧ s.dir.slots[n].working ≠ some b := by
  rw [rebuildPool, ← blockHeld_eq_false, List.mem_filter, List.mem_range, Bool.not_eq_true']

theorem hasFault_flagSupply (g : FaultFlag) (s : State) :
    hasFault g (flagSupply s) =
      (hasFault g s || (decide (g = .strap) && s.profile.fallback) || (decide (g = .batlow) && s.supply.batlowSense)) := by
  rw [flagSupply, hasFault_setFaultIf, hasFault_setFaultIf]
  ac_rfl

/-! ## The rows -/

/-- The state whose /CRST is released. -/
def lineReleased (s : State) : State := { s with supply := { s.supply with crst := false } }

theorem exec_crstRelease_eq (hpow : powered s = true) (hcrst : s.supply.crst = true) :
    exec (.crstRelease straps) s = .next (releaseEffect straps (lineReleased s)) :=
  if_pos (Bool.and_eq_true_iff.2 ⟨hpow, hcrst⟩)

theorem exec_batlowSenseSet_eq (hdomain : s.supply.domainValid = true) (hlow : s.supply.vbatLow = true)
    (hsense : s.supply.batlowSense = false) :
    exec .batlowSenseSet s =
      .next (senseEffect { s with supply := { s.supply with batlowFilter := 2, batlowSense := true } }) :=
  if_pos (by simp [hdomain, hlow, hsense])

theorem senseEffect_of_powered (hpow : powered s = true) : senseEffect s = setFault .batlow s := by
  have hmonitor : s.supply.monitor = .run ∨ s.supply.monitor = .warn := by simpa [powered] using hpow
  unfold senseEffect
  obtain h | h := hmonitor <;> rw [h]

end

/-- Settles O60: the release's equation field by field, the sense by the monitor state. -/
theorem releaseAndCellSense : Obligations.ReleaseAndCellSense := by
  intro straps s
  refine ⟨fun hpow hcrst => ?_, rfl, rfl, fun hdomain hlow hsense => ⟨fun hmonitor => ?_, fun hmonitor => ?_, fun hpow => ?_⟩⟩
  · have heq := releaseEffect_eq straps (lineReleased s)
    have hsupply := congrArg (fun u : State => u.supply) heq
    have hprofile := congrArg (fun u : State => u.profile) heq
    have hmap := congrArg (fun u : State => u.map) heq
    have hdir := congrArg (fun u : State => u.dir) heq
    have hframe := congrArg (fun u : State =>
      ({ u with supply := s.supply, profile := s.profile, map := s.map, dir := s.dir, cause := s.cause } : State)) heq
    have hpool := congrArg (fun d : Directory => ({ d with pool := s.dir.pool } : Directory)) hdir
    refine ⟨_, exec_crstRelease_eq hpow hcrst, hsupply, hprofile, fun i => ?_, fun b => ?_, fun f => ?_, hframe, hpool⟩
    · exact (congrArg (fun m : Vector MapEntry 16 => m[i]) hmap).trans (getElem_loadedMap ..)
    · exact (iff_of_eq (congrArg (fun d : Directory => b ∈ d.pool) hdir)).trans mem_fitPool
    · exact hasFault_flagSupply f _
  · rw [exec_batlowSenseSet_eq hdomain hlow hsense]
    simp only [senseEffect, hmonitor]
    rfl
  · rw [exec_batlowSenseSet_eq hdomain hlow hsense]
    simp only [senseEffect, hmonitor]
  · rw [exec_batlowSenseSet_eq hdomain hlow hsense, senseEffect_of_powered (by exact hpow), setFault_eq]
    exact congrArg (fun c : CauseUnit => Host.Outcome.next ({ s with
      supply := { s.supply with batlowFilter := 2, batlowSense := true }, cause := c } : State))
      (setFault_cause_congr .batlow rfl)

end Sys2Proof.Proofs
end

section
/-! FAIL (O58) and CONSOLE POWER-UP (O56). -/

namespace Sys2Proof.Proofs

open Sys2Proof.Machine Sys2Proof.Safety Sys2Proof.Laws

/-! ## The operations that stand -/

section
variable {b : Nat} {f : Flight} {m n : SlotNo} {s : State}

theorem mem_queue_iff {k : OpKind} :
    (s.engine.queue.any fun e => e.kind == k && e.slot == n) = true ↔ ⟨k, n⟩ ∈ s.engine.queue := by
  rw [List.any_eq_true]
  constructor
  · rintro ⟨⟨kind, slot⟩, hmem, he⟩
    obtain ⟨hkind, hslot⟩ := Bool.and_eq_true_iff.1 he
    rw [← eq_of_beq hkind, ← eq_of_beq hslot]
    exact hmem
  · intro hmem
    exact ⟨_, hmem, Bool.and_eq_true_iff.2 ⟨beq_self_eq_true _, beq_self_eq_true _⟩⟩

theorem verifyStands_iff : verifyStands s n = true ↔ ⟨.verify, n⟩ ∈ standingOps s := by
  rw [verifyStands, standingOps, Bool.or_eq_true, mem_queue_iff, List.mem_append]
  refine or_congr Iff.rfl ?_
  cases s.engine.flight with
  | none => simp
  | some f =>
    cases hsweep : f.bySweep with
    | true => simp [hsweep]
    | false =>
      simp only [hsweep, Bool.not_false, Bool.and_true, Bool.and_eq_true, beq_iff_eq, Bool.false_eq_true, if_false,
        List.mem_singleton, QueueEntry.mk.injEq]
      exact and_congr eq_comm eq_comm

theorem verifyStands_eq : verifyStands s n = decide (⟨.verify, n⟩ ∈ standingOps s) :=
  Bool.eq_iff_iff.2 (verifyStands_iff.trans decide_eq_true_iff.symm)

/-! ## A flip in progress at FAIL (R60) -/

theorem completeFlip_of_flip (hf : s.engine.flight = some f) (hkind : f.kind = .erase) (hstage : f.stage = .flip) :
    completeFlip s = setFlight none (eraseFlip f.slot s) := by
  simp only [completeFlip, hf]
  exact if_pos ⟨hkind, hstage⟩

/-- The ERASE of the slot stands at its flip. -/
def Flips (s : State) (n : SlotNo) : Prop :=
  ∃ f, s.engine.flight = some f ∧ f.kind = .erase ∧ f.stage = .flip ∧ f.slot = n

theorem completeFlip_of_none (h : ∀ f, s.engine.flight = some f → f.kind = .erase → f.stage ≠ .flip) :
    completeFlip s = s := by
  unfold completeFlip
  split
  next f hf => exact if_neg fun ⟨hkind, hstage⟩ => h f hf hkind hstage
  next => rfl

theorem eraseFlip_eq (n : SlotNo) (s : State) :
    eraseFlip n s =
      { s with dir := { s.dir with slots := s.dir.slots.set n.val s.dir.slots[n].erased n.isLt,
                                   pool := (eraseFlip n s).dir.pool } } :=
  returnBlock_eq ..

/-- Either no erase flip was in progress, or that of one slot is complete. -/
theorem completeFlip_cases (s : State) :
    (completeFlip s = s ∧ ∀ n, ¬Flips s n) ∨
      ∃ f, s.engine.flight = some f ∧ f.kind = .erase ∧ f.stage = .flip ∧
        completeFlip s = setFlight none (eraseFlip f.slot s) := by
  by_cases h : ∃ f, s.engine.flight = some f ∧ f.kind = .erase ∧ f.stage = .flip
  · obtain ⟨f, hf, hkind, hstage⟩ := h
    exact .inr ⟨f, hf, hkind, hstage, completeFlip_of_flip hf hkind hstage⟩
  · refine .inl ⟨completeFlip_of_none fun f hf hkind hstage => h ⟨f, hf, hkind, hstage⟩, ?_⟩
    rintro n ⟨f, hf, hkind, hstage, -⟩
    exact h ⟨f, hf, hkind, hstage⟩

theorem completeFlip_protect (s : State) : (completeFlip s).dir.protect = s.dir.protect := by
  obtain ⟨h, -⟩ | ⟨f, -, -, -, h⟩ := completeFlip_cases s
  · rw [h]
  · rw [h, eraseFlip_eq]
    rfl

theorem completeFlip_slot_of_flips (h : Flips s n) : (completeFlip s).dir.slots[n] = s.dir.slots[n].erased := by
  obtain ⟨f, hf, hkind, hstage, rfl⟩ := h
  rw [completeFlip_of_flip hf hkind hstage, eraseFlip_eq]
  exact Vector.getElem_set_self _

theorem completeFlip_slot_of_not (h : ¬Flips s n) : (completeFlip s).dir.slots[n] = s.dir.slots[n] := by
  obtain ⟨hsame, -⟩ | ⟨f, hf, hkind, hstage, heq⟩ := completeFlip_cases s
  · rw [hsame]
  · have hne : f.slot ≠ n := fun hslot => h ⟨f, hf, hkind, hstage, hslot⟩
    rw [heq, eraseFlip_eq]
    exact Vector.getElem_set_ne f.slot.isLt n.isLt (Fin.val_ne_of_ne hne)

theorem verifyStands_completeFlip : verifyStands (completeFlip s) n = verifyStands s n := by
  obtain ⟨hsame, -⟩ | ⟨f, hf, hkind, -, heq⟩ := completeFlip_cases s
  · rw [hsame]
  · rw [heq, eraseFlip_eq]
    simp only [verifyStands, setFlight, hf, hkind]
    rfl

theorem engineFail_slot (n : SlotNo) (s : State) :
    (engineFail s).dir.slots[n] =
      failRecord (completeFlip s) n (completeFlip s).dir.slots[n] := getElem_tabulate _ n

end

/-- Settles O58: the equation of FAIL, and each slot's record by the flip in progress. -/
theorem failLeavesTheBatteryDomain : Obligations.FailLeavesTheBatteryDomain := by
  intro s hwarn flips
  have hexec : exec .fail s = .next (failFromWarn s) := by
    simp only [exec, execFail, collapse, hwarn]
  rw [failFromWarn_eq] at hexec
  refine ⟨_, hexec, rfl, rfl, rfl, rfl, rfl, rfl, completeFlip_protect s, rfl, rfl, rfl, rfl, fun n => ?_, rfl, rfl, rfl, rfl⟩
  intro r gone
  refine ⟨fun hnot => ?_, fun hflips => ?_⟩
  · refine (engineFail_slot n s).trans ?_
    rw [completeFlip_slot_of_not hnot, failRecord, verifyStands_completeFlip, verifyStands_eq]
  · have hslot : (engineFail s).dir.slots[n] = failRecord (completeFlip s) n s.dir.slots[n].erased :=
      (engineFail_slot n s).trans (by rw [completeFlip_slot_of_flips hflips])
    have hstate := congrArg SlotRecord.state hslot
    have hcurrent := congrArg SlotRecord.current hslot
    have hstored := congrArg SlotRecord.stored hslot
    have hstamp := congrArg SlotRecord.stamp hslot
    have hgeneration := congrArg SlotRecord.generation hslot
    exact ⟨hstate, hcurrent, hstored, hstamp, hgeneration⟩

/-! ## The straps (R168) -/

section
variable {s : State} {straps : Straps}

theorem bitsOf_three (x y z : Bool) :
    bitsOf [x, y, z] = (if x then 1 else 0) + (if y then 2 else 0) + (if z then 4 else 0) := by
  revert x y z
  decide

theorem strapRomCode_eq (straps : Straps) :
    strapRomCode straps =
      (if straps.getLsbD 0 then 1 else 0) + (if straps.getLsbD 1 then 2 else 0) + (if straps.getLsbD 2 then 4 else 0) :=
  bitsOf_three ..

theorem oddStraps_eq (straps : Straps) :
    oddStraps straps =
      (straps.getLsbD 0 ^^ straps.getLsbD 1 ^^ straps.getLsbD 2 ^^ straps.getLsbD 3 ^^ straps.getLsbD 4 ^^
        straps.getLsbD 5) := by
  have hfold : oddStraps straps =
      (((((((false != straps.getLsbD 0) != straps.getLsbD 1) != straps.getLsbD 2) != straps.getLsbD 3) !=
        straps.getLsbD 4)) != straps.getLsbD 5) := rfl
  rw [hfold, Bool.false_bne]

theorem validStraps_iff :
    validStraps straps = true ↔ oddStraps straps = true ∧ strapRomCode straps ≠ 7 := by
  rw [validStraps, Bool.and_eq_true, bne_iff_ne]

theorem sampledProfile_of_valid {kind : ResetKind} (h : oddStraps straps = true ∧ strapRomCode straps ≠ 7) :
    sampledProfile straps kind =
      ⟨strapRomCode straps, if straps.getLsbD 3 then 16 else 8, straps.getLsbD 4, false, straps, kind⟩ :=
  if_pos (validStraps_iff.2 h)

theorem sampledProfile_of_invalid {kind : ResetKind} (h : ¬(oddStraps straps = true ∧ strapRomCode straps ≠ 7)) :
    sampledProfile straps kind = ⟨0, 8, false, true, straps, kind⟩ := if_neg (mt validStraps_iff.1 h)

theorem sampledProfile_fallback (kind : ResetKind) :
    (sampledProfile straps kind).fallback = true ↔ ¬(oddStraps straps = true ∧ strapRomCode straps ≠ 7) := by
  by_cases h : oddStraps straps = true ∧ strapRomCode straps ≠ 7
  · rw [sampledProfile_of_valid h]
    exact iff_of_false Bool.noConfusion (not_not_intro h)
  · rw [sampledProfile_of_invalid h]
    exact iff_of_true rfl h

/-! ## The flags with no class enabled -/

theorem setFaultIf_of_disabled (b : Bool) (f : FaultFlag) (h : s.cause.enables = 0) :
    (setFaultIf b f s).cause = { s.cause with flags := (setFaultIf b f s).cause.flags } := by
  have hfault : enabled .fault s = false := by
    rw [enabled, h]
    rfl
  unfold setFaultIf setFault
  split
  · split
    · rfl
    · rw [hfault, Bool.or_false]
  · rfl

theorem flagSupply_of_initial (h : s.cause = .initial) :
    (flagSupply s).cause = { CauseUnit.initial with flags := (flagSupply s).cause.flags } := by
  have hstrap := setFaultIf_of_disabled s.profile.fallback .strap (s := s) (by rw [h]; rfl)
  have hbatlow := setFaultIf_of_disabled s.supply.batlowSense .batlow (s := setFaultIf s.profile.fallback .strap s)
    (by rw [hstrap, h]; rfl)
  rw [hstrap, h] at hbatlow
  exact hbatlow

theorem hasFault_of_initial (f : FaultFlag) (h : s.cause = .initial) : hasFault f s = false := by
  rw [hasFault, h]
  exact BitVec.getLsbD_zero

theorem hasFault_flagSupply_of_initial (f : FaultFlag) (h : s.cause = .initial) :
    hasFault f (flagSupply s) = true ↔
      (f = .strap ∧ s.profile.fallback = true) ∨ (f = .batlow ∧ s.supply.batlowSense = true) := by
  rw [hasFault_flagSupply, hasFault_of_initial f h, Bool.false_or, Bool.or_eq_true, Bool.and_eq_true, Bool.and_eq_true,
    decide_eq_true_iff, decide_eq_true_iff]

/-! ## CONSOLE POWER-UP -/

/-- The state of a power-up before STRAP and BATLOW are set. -/
def unflagged (straps : Straps) (s : State) : State :=
  let t := loadProfile (sampledProfile straps (powerUpKind s)) (powerUpBlocks (changeSupply Supply.running s))
  setCal (t.cal.poweredUp t.supply.batlowSense) (enginePowerUp t)

theorem powerUp_unflagged (straps : Straps) (s : State) : powerUp straps s = flagSupply (unflagged straps s) := rfl

theorem exec_consolePowerUp_eq (hstarting : s.supply.monitor = .starting) :
    exec (.consolePowerUp straps) s =
      .next (if s.supply.crst then resetLineEffect (powerUp straps s) else powerUp straps s) := if_pos hstarting

theorem enginePowerUp_slot (n : SlotNo) (t : State) :
    (enginePowerUp t).dir.slots[n] = recoverRecord t.dir.slots[n] := getElem_tabulate _ n

theorem mem_enginePowerUp_pool {b : Nat} {t : State} :
    b ∈ (enginePowerUp t).dir.pool ↔ b < t.profile.blocks ∧ ∀ n : SlotNo,
      (enginePowerUp t).dir.slots[n].current ≠ some b ∧ (enginePowerUp t).dir.slots[n].working ≠ some b :=
  mem_rebuildPool (s := mapSlots (fun _ => recoverRecord) t)

theorem recoverRecord_of_kept {r : SlotRecord} (h : r.state = .empty ∨ r.state = .valid) :
    recoverRecord r = { r with lastResult := .none, done := false } := by
  obtain h | h := h <;> simp only [recoverRecord, h]

theorem recoverRecord_of_unsaved {r : SlotRecord} (h : r.state = .opening ∨ r.state = .opened ∨ r.state = .committing) :
    recoverRecord r = { r with
      state := if r.current.isSome then .valid else .empty, working := none, workCheck := none,
      lastResult := .reverted, done := true } := by
  obtain h | h | h := h <;> simp only [recoverRecord, h] <;> rfl

theorem recoverRecord_of_erasing {r : SlotRecord} (h : r.state = .erasing) :
    recoverRecord r = { r with
      lastResult := .none, done := false, state := .empty, current := none, stored := none, stamp := none,
      damaged := false } := by
  simp only [recoverRecord, h]

theorem setFaultIf_supply (b : Bool) (f : FaultFlag) (s : State) (u : Supply) :
    setFaultIf b f { s with supply := u } = { setFaultIf b f s with supply := u } := by
  cases b with
  | false => rfl
  | true =>
    have hcause : (setFault f { s with supply := u }).cause = (setFault f s).cause := setFault_cause_congr f rfl
    have hkept := setFault_eq f s
    show setFault f { s with supply := u } = { setFault f s with supply := u }
    rw [setFault_eq, hcause, hkept]

theorem powerUp_crst (straps : Straps) (s : State) (b : Bool) :
    powerUp straps { s with supply := { s.supply with crst := b } } =
      { powerUp straps s with supply := { s.supply.running with crst := b } } := by
  have hunflagged : unflagged straps { s with supply := { s.supply with crst := b } } =
      { unflagged straps s with supply := { s.supply.running with crst := b } } := rfl
  have hstrap := setFaultIf_supply (unflagged straps s).profile.fallback .strap (unflagged straps s)
    { s.supply.running with crst := b }
  have hbatlow := setFaultIf_supply (unflagged straps s).supply.batlowSense .batlow
    (setFaultIf (unflagged straps s).profile.fallback .strap (unflagged straps s)) { s.supply.running with crst := b }
  have hflags : flagSupply { unflagged straps s with supply := { s.supply.running with crst := b } } =
      { flagSupply (unflagged straps s) with supply := { s.supply.running with crst := b } } :=
    (congrArg (setFaultIf (unflagged straps s).supply.batlowSense .batlow) hstrap).trans hbatlow
  rw [powerUp_unflagged, hunflagged, hflags]
  rfl

end

/-- Settles O56: the equation of the power-up field by field; under /CRST the reset of the line follows. -/
theorem consolePowerUpBringsTheConsoleUp : Obligations.ConsolePowerUpBringsTheConsoleUp := by
  intro straps s hstarting
  have hexec := exec_consolePowerUp_eq (straps := straps) hstarting
  intro high code odd kind fallback
  have hodd : odd ↔ oddStraps straps = true := by rw [oddStraps_eq]
  have hcode : code = strapRomCode straps := (strapRomCode_eq straps).symm
  have hvalid : (odd ∧ code ≠ 7) ↔ (oddStraps straps = true ∧ strapRomCode straps ≠ 7) := by rw [hodd, hcode]
  refine ⟨fun hcrst => ?_, fun hcrst => ?_⟩
  · have hinitial : (unflagged straps s).cause = .initial := rfl
    have hcause : (powerUp straps s).cause = _ := flagSupply_of_initial hinitial
    have henables := congrArg CauseUnit.enables hcause
    have hlatches := congrArg CauseUnit.latches hcause
    have hrecord := congrArg CauseUnit.record hcause
    have hflag (f : FaultFlag) : hasFault f (powerUp straps s) = true ↔
        (f = .strap ∧ fallback) ∨ (f = .batlow ∧ s.supply.batlowSense = true) := by
      have hfallback : (unflagged straps s).profile.fallback = true ↔ fallback :=
        (sampledProfile_fallback _).trans (not_congr hvalid.symm)
      rw [← hfallback]
      exact hasFault_flagSupply_of_initial f hinitial
    rw [hcrst, if_neg Bool.false_ne_true, powerUp_eq] at hexec
    refine ⟨_, hexec, fun h => ?_, fun h => ?_, fun i => getElem_loadedMap .., fun n => ?_, fun b => mem_enginePowerUp_pool,
      rfl, rfl, rfl, rfl, rfl, rfl, rfl, rfl, rfl, rfl, rfl, rfl, rfl, rfl, rfl, rfl, rfl, henables, hlatches, hrecord, hflag⟩
    · rw [hcode]
      exact sampledProfile_of_valid (hvalid.1 (not_not.1 h))
    · exact sampledProfile_of_invalid (mt hvalid.2 h)
    · have hslot := enginePowerUp_slot n (loadProfile (sampledProfile straps (powerUpKind s)) s)
      exact ⟨fun h => hslot.trans (recoverRecord_of_kept h), fun h => hslot.trans (recoverRecord_of_unsaved h),
        fun h => hslot.trans (recoverRecord_of_erasing h)⟩
  · have hout := exec_consolePowerUp_eq (straps := straps) (s := { s with supply := { s.supply with crst := false } })
      (by exact hstarting)
    rw [powerUp_crst] at hout
    have hrunning : ({ s.supply.running with crst := true } : Supply) = (powerUp straps s).supply :=
      (congrArg (fun b : Bool => ({ s.supply.running with crst := b } : Supply)) hcrst.symm).trans
        (powerUp_supply straps s).symm
    have hasserted : ({ powerUp straps s with supply := { s.supply.running with crst := true } } : State) =
        powerUp straps s := by rw [hrunning]
    have hreset : exec .resetLine { powerUp straps s with supply := { s.supply.running with crst := false } } =
        .next (resetLineEffect { powerUp straps s with supply := { s.supply.running with crst := true } }) := rfl
    rw [hcrst] at hexec
    exact ⟨_, hout, hexec.trans ((congrArg (fun u => Host.Outcome.next (resetLineEffect u)) hasserted).symm.trans
      hreset.symm)⟩

end Sys2Proof.Proofs
end

section
/-! RESET LINE and SOFT RESET (O59). -/

namespace Sys2Proof.Proofs

open Sys2Proof.Machine Sys2Proof.Safety Sys2Proof.Laws

section
variable {a : Active} {b : Nat} {f : Flight} {m n : SlotNo} {s t : State} {u : Supply}

/-! ## The state that the kick's end finds (R63, R118, R134) -/

/-- The directory after a reset (R63, R39). -/
def resetDir (s : State) : Directory :=
  { slots := tabulate fun n => resetRecord s n s.dir.slots[n],
    pool := (returnReverted s (mapSlots (resetRecord s) s)).dir.pool, protect := s.dir.protect, windowOpen := true }

/-- The state after a reset of all but the drive and its grant. -/
def calm (s : State) : State :=
  { s with
    voices := initialVoices, mixer := { master := 16, dac := some 512 }, tracks := initialTracks,
    frame := .initial s.frame.counter, port := .idle,
    engine := { queue := [], flight := s.engine.flight.filter survivesReset, sweep := 8 }, dir := resetDir s }

theorem resetBlocks_calm (s : State) : resetBlocks s = { endKick (calm s) with rumble := s.rumble.restarted } := by
  have hcalm : resetSequencer (resetSound (engineReset s)) = calm s := by
    rw [engineReset_eq]
    rfl
  rw [resetBlocks, resetRumble, hcalm, endKick_restarted]
  rfl

/-! ## The slots -/

/-- The record of which a discarded VERIFY has cleared its mark (R63). -/
def unverified (s : State) (n : SlotNo) : SlotRecord :=
  { s.dir.slots[n] with
    verifyPending := s.dir.slots[n].verifyPending && !decide (⟨.verify, n⟩ ∈ standingOps s) }

/-- The slot's COMMIT is in flight. -/
def Commits (s : State) (n : SlotNo) : Prop := ∃ g, s.engine.flight = some g ∧ g.kind = .commit ∧ g.slot = n

theorem commitFlies_iff : commitFlies s n = true ↔ Commits s n := by
  unfold commitFlies Commits
  split
  next f hf => simp [hf]
  next hf => simp [hf]

theorem resetRecord_eq :
    resetRecord s n s.dir.slots[n] =
      let e := if eraseQueued s n && (unverified s n).state == .erasing then { unverified s n with state := .valid }
        else unverified s n
      if e.unsaved && !commitFlies s n then e.reverted else e := by
  have hverify : (if verifyStands s n then { s.dir.slots[n] with verifyPending := false } else s.dir.slots[n]) =
      unverified s n := by
    rw [unverified, verifyStands_eq]
    cases decide (⟨.verify, n⟩ ∈ standingOps s) with
    | true => rw [Bool.not_true, Bool.and_false]; rfl
    | false => rw [Bool.not_false, Bool.and_true]; rfl
  simp only [resetRecord]
  rw [hverify]

theorem resetDir_slot (n : SlotNo) (s : State) : (resetDir s).slots[n] = resetRecord s n s.dir.slots[n] :=
  getElem_tabulate _ n

theorem unsaved_iff {r : SlotRecord} :
    r.unsaved = true ↔ r.state = .opening ∨ r.state = .opened ∨ r.state = .committing := by
  simp [SlotRecord.unsaved, or_assoc]

/-- A slot that is not ERASING: it reverts where it is unsaved and its COMMIT is not in flight. -/
theorem resetDir_slot_of_not_erasing (h : s.dir.slots[n].state ≠ .erasing) :
    (resetDir s).slots[n] =
      if s.dir.slots[n].unsaved && !commitFlies s n then (unverified s n).reverted else unverified s n := by
  have herase : ((unverified s n).state == .erasing) = false := beq_eq_false_iff_ne.2 h
  rw [resetDir_slot, resetRecord_eq, herase, Bool.and_false]
  rfl

theorem resetDir_slot_of_reverting (h : s.dir.slots[n].unsaved = true) (hnot : ¬Commits s n) :
    (resetDir s).slots[n] = (unverified s n).reverted := by
  have hstate : s.dir.slots[n].state ≠ .erasing := by
    obtain h | h | h := unsaved_iff.1 h
    all_goals
      rw [h]
      exact SlotState.noConfusion
  rw [resetDir_slot_of_not_erasing hstate, h, eq_false_of_ne_true (mt commitFlies_iff.1 hnot)]
  rfl

theorem resetDir_slot_of_committing (h : s.dir.slots[n].state = .committing) (hcommits : Commits s n) :
    (resetDir s).slots[n] = unverified s n := by
  rw [resetDir_slot_of_not_erasing (by rw [h]; exact SlotState.noConfusion), commitFlies_iff.2 hcommits, Bool.not_true,
    Bool.and_false]
  rfl

theorem resetDir_slot_of_saved (h : s.dir.slots[n].state = .empty ∨ s.dir.slots[n].state = .valid) :
    (resetDir s).slots[n] = unverified s n := by
  have hunsaved : s.dir.slots[n].unsaved = false := by
    obtain h | h := h
    all_goals
      rw [SlotRecord.unsaved, h]
      rfl
  have hstate : s.dir.slots[n].state ≠ .erasing := by
    obtain h | h := h
    all_goals
      rw [h]
      exact SlotState.noConfusion
  rw [resetDir_slot_of_not_erasing hstate, hunsaved]
  rfl

theorem resetDir_slot_of_erase_queued (h : s.dir.slots[n].state = .erasing) (hqueue : ⟨.erase, n⟩ ∈ s.engine.queue) :
    (resetDir s).slots[n] = { unverified s n with state := .valid } := by
  have hqueued : eraseQueued s n = true := mem_queue_iff.2 hqueue
  have herase : ((unverified s n).state == .erasing) = true := beq_iff_eq.2 h
  rw [resetDir_slot, resetRecord_eq, herase, hqueued]
  rfl

theorem resetDir_slot_of_erase_flying (h : s.dir.slots[n].state = .erasing) (hqueue : ⟨.erase, n⟩ ∉ s.engine.queue) :
    (resetDir s).slots[n] = unverified s n := by
  have hqueued : eraseQueued s n = false := eq_false_of_ne_true (mt mem_queue_iff.1 hqueue)
  have hunsaved : (unverified s n).unsaved = false := by
    have hstate : (unverified s n).state = .erasing := h
    rw [SlotRecord.unsaved, hstate]
    rfl
  rw [resetDir_slot, resetRecord_eq, hqueued]
  simp only [Bool.false_and, Bool.false_eq_true, if_false, hunsaved]

/-- Where the slot's COMMIT flies nothing reverts: the contents of the record stay. -/
theorem resetDir_slot_of_commits (h : Commits s n) :
    ∃ (state : SlotState) (pending : Bool),
      (resetDir s).slots[n] = { s.dir.slots[n] with state := state, verifyPending := pending } := by
  rw [resetDir_slot, resetRecord_eq, commitFlies_iff.2 h]
  simp only [Bool.not_true, Bool.and_false, Bool.false_eq_true, if_false]
  split
  · exact ⟨_, _, rfl⟩
  · exact ⟨_, _, rfl⟩

/-! ## The pool -/

/-- The slot reverts, and its working block is this one. -/
def GivesBack (old : State) (b : Nat) (m : SlotNo) : Prop :=
  old.dir.slots[m].unsaved = true ∧ ¬Commits old m ∧ old.dir.slots[m].working = some b

/-- One slot's turn: its working block returns to the pool where it reverts. -/
def returnOne (old s : State) (n : SlotNo) : State :=
  if old.dir.slots[n].unsaved && !commitFlies old n then returnBlock old.dir.slots[n].working s else s

theorem mem_returnOne (old s : State) (n : SlotNo) :
    b ∈ (returnOne old s n).dir.pool ↔ b ∈ s.dir.pool ∨ b < s.profile.blocks ∧ GivesBack old b n := by
  have hcond : (old.dir.slots[n].unsaved && !commitFlies old n) = true ↔
      old.dir.slots[n].unsaved = true ∧ ¬Commits old n := by
    rw [Bool.and_eq_true, Bool.not_eq_true', ← Bool.not_eq_true, commitFlies_iff]
  unfold returnOne GivesBack
  split
  next h =>
    obtain ⟨hunsaved, hnot⟩ := hcond.1 h
    rw [mem_returnBlock_pool]
    refine or_congr Iff.rfl ⟨fun ⟨hw, hb⟩ => ⟨hb, hunsaved, hnot, hw⟩, fun ⟨hb, _, _, hw⟩ => ⟨hw, hb⟩⟩
  next h =>
    refine ⟨.inl, fun hb => hb.resolve_right fun ⟨_, hunsaved, hnot, _⟩ => h (hcond.2 ⟨hunsaved, hnot⟩)⟩

theorem returnOne_profile (old s : State) (n : SlotNo) : (returnOne old s n).profile = s.profile := by
  unfold returnOne
  split
  · rw [returnBlock_eq]
  · rfl

theorem mem_foldl_returnOne (old : State) (l : List SlotNo) (s : State) :
    b ∈ (l.foldl (returnOne old) s).dir.pool ↔
      b ∈ s.dir.pool ∨ b < s.profile.blocks ∧ ∃ m ∈ l, GivesBack old b m := by
  induction l generalizing s with
  | nil => simp
  | cons n l ih =>
    rw [List.foldl_cons, ih, mem_returnOne, returnOne_profile, List.exists_mem_cons_iff, or_assoc, and_or_left]

theorem mem_resetDir_pool : b ∈ (resetDir s).pool ↔
    b ∈ s.dir.pool ∨ (b < s.profile.blocks ∧ ∃ m : SlotNo,
      s.dir.slots[m].unsaved = true ∧ ¬Commits s m ∧ s.dir.slots[m].working = some b) := by
  refine (mem_foldl_returnOne s allSlots (mapSlots (resetRecord s) s)).trans (or_congr Iff.rfl (and_congr_right fun _ => ?_))
  exact ⟨fun ⟨m, _, h⟩ => ⟨m, h⟩, fun ⟨m, h⟩ => ⟨m, mem_allSlots m, h⟩⟩

/-! ## The blocks of a reset -/

/-- What RESET LINE and SOFT RESET leave alike beside the save engine's work and the grant. -/
def BlocksReset (s t : State) : Prop :=
  t.dir.windowOpen = true ∧ t.dir.protect = s.dir.protect ∧
  t.voices = Vector.replicate 6 Voice.initial ∧ t.mixer = ⟨16, some 512⟩ ∧
  t.tracks = Vector.replicate 2 Track.initial ∧ t.frame = .initial s.frame.counter ∧ t.port = ⟨none, #v[[], []]⟩ ∧
  t.rumble = { s.rumble with active := none, queue := [], zeroRun := 8, stallTimer := 0, lastEnd := .none } ∧
  t.cause.enables = 0 ∧ t.cause.latches = ⟨false, false, false, false, false⟩ ∧ t.sram = s.sram ∧
  t.sound = s.sound ∧ t.cal = s.cal ∧ t.cues = s.cues ∧ t.crystal = s.crystal

/-- The state that a row makes of the reset blocks: its command and interrupt unit, profile, map. -/
def rowEnd (m : CommandUnit) (c : CauseUnit) (p : Profile) (e : Vector MapEntry 16) (s : State) : State :=
  { s with cmd := m, cause := c, profile := p, map := e }

/-- The row's end after the reset of s: no class is enabled, no latch set. -/
def EndsRow (s t : State) : Prop :=
  ∃ m c p e, t = rowEnd m c p e (resetBlocks s) ∧ c.enables = 0 ∧ c.latches = .clear

theorem blocksReset_of_endsRow (h : EndsRow s t) (hwindow : (resetBlocks s).dir.windowOpen = true)
    (hprotect : (resetBlocks s).dir.protect = s.dir.protect) : BlocksReset s t := by
  obtain ⟨m, c, p, e, rfl, henables, hlatches⟩ := h
  have hframe := resetBlocks_eq s
  have hvoices := congrArg (fun v : State => v.voices) hframe
  have hmixer := congrArg (fun v : State => v.mixer) hframe
  have htracks := congrArg (fun v : State => v.tracks) hframe
  have hcapture := congrArg (fun v : State => v.frame) hframe
  have hport := congrArg (fun v : State => v.port) hframe
  have hsram := congrArg (fun v : State => v.sram) hframe
  have hsound := congrArg (fun v : State => v.sound) hframe
  have hcal := congrArg (fun v : State => v.cal) hframe
  have hcues := congrArg (fun v : State => v.cues) hframe
  have hcrystal := congrArg (fun v : State => v.crystal) hframe
  exact ⟨hwindow, hprotect, hvoices, hmixer, htracks, hcapture, hport, resetBlocks_rumble s, henables, hlatches, hsram,
    hsound, hcal, hcues, hcrystal⟩

/-! ## The grant at a reset (R152, R161) -/

/-- The watch after the kick's end where no engine waits, or where there is no request. -/
def ResetLeaves (s : State) (u : Supply) : Prop :=
  (s.rumble.active = none ∧ u = s.supply) ∨ ∃ a, s.rumble.active = some a ∧ Leaves s a u

theorem resetBlocks_of_leaves (h : ResetLeaves s u) :
    resetBlocks s = { calm s with supply := u, rumble := s.rumble.restarted } := by
  rw [resetBlocks_calm]
  obtain ⟨ha, rfl⟩ | ⟨a, ha, hleaves⟩ := h
  · rw [endKick_of_none (by exact ha)]
    rfl
  · rw [endKick_leaves (s := calm s) (by exact ha) (by exact hleaves)]
    rfl

/-- What becomes of the engine that waited behind the kick. -/
def ResetHands (f : Flight) (s t : State) : Prop :=
  t.dir.windowOpen = true ∧ t.dir.protect = s.dir.protect ∧ t.supply.engineReq = false ∧ t.supply.kickerReq = false ∧
  (f.kind = .commit → t.engine = ⟨[], none, 8⟩ ∧ t.supply.holder = .none ∧
    t.dir.slots[f.slot] = (resetDir s).slots[f.slot].committed s.cal) ∧
  (f.kind = .erase → t.engine = ⟨[], some { f with stage := .fill }, 8⟩ ∧ t.supply.holder = .engine)

theorem resetHands_of_survivor (ha : s.rumble.active = some a) (hk : ∃ n, a.kick = .kicking n)
    (hheld : s.supply.holder = .kicker) (hkicker : s.supply.kickerReq = false) (hengine : s.supply.engineReq = true)
    (hf : s.engine.flight = some f) (hkind : f.kind = .commit ∨ f.kind = .erase) :
    ResetHands f s (endKick (calm s)) := by
  have hsurvives : survivesReset f = true := by
    unfold survivesReset
    obtain h | h := hkind
    all_goals
      rw [h]
      rfl
  have hflight : (calm s).engine.flight = some f := by
    show s.engine.flight.filter survivesReset = some f
    rw [hf]
    exact if_pos hsurvives
  have hhanded : Handed f _ (endKick (calm s)) :=
    handed_endKick (s := calm s) (a := a) (by exact ha) hk (by exact hheld) (.inl hkicker) (by exact hengine) hflight hkind
  have hwindow := congrArg (fun d : Directory => d.windowOpen) hhanded.directory
  have hprotect := congrArg (fun d : Directory => d.protect) hhanded.directory
  refine ⟨hwindow, hprotect, ?_, ?_, fun hcommit => ?_, fun herase => ?_⟩
  · rw [hhanded.supply]
  · rw [hhanded.supply]
    exact hkicker
  · obtain ⟨hdone, hslot, -⟩ := hhanded.commit hcommit
    exact ⟨hdone, by rw [hhanded.supply_of_commit hcommit], hslot⟩
  · exact ⟨(hhanded.erase herase).1, by rw [hhanded.supply_of_erase herase]⟩

/-- An operation of another kind is gone: the grant is free and its request falls. -/
theorem resetHands_of_gone (ha : s.rumble.active = some a) (hk : ∃ n, a.kick = .kicking n)
    (hheld : s.supply.holder = .kicker) (hkicker : s.supply.kickerReq = false) (hengine : s.supply.engineReq = true)
    (hf : s.engine.flight = some f) (hkind : ¬(f.kind = .commit ∨ f.kind = .erase)) :
    ResetHands f s (endKick (calm s)) := by
  obtain ⟨n, hk⟩ := hk
  have hgone : survivesReset f = false := by
    rw [survivesReset, Bool.or_eq_false_iff, beq_eq_false_iff_ne, beq_eq_false_iff_ne]
    exact not_or.1 hkind
  have hflight : (calm s).engine.flight = none := by
    show s.engine.flight.filter survivesReset = none
    rw [hf]
    exact if_neg (ne_true_of_eq_false hgone)
  have hend : endKick (calm s) = setActive (some (unkicked a))
      { calm s with supply := { s.supply with holder := .none, engineReq := false } } := by
    rw [endKick_of_kicking (s := calm s) (by exact ha) hk (by exact hheld)]
    have hreq : (setActive (some (unkicked a)) (calm s)).supply.engineReq = true := hengine
    simp only [releaseGrant, setHolder, hreq, if_true, giveEngine]
    have hnone : (setActive (some (unkicked a)) (calm s)).engine.flight = none := hflight
    rw [hnone]
    rfl
  rw [hend]
  exact ⟨rfl, rfl, rfl, hkicker, fun h => absurd (.inl h) hkind, fun h => absurd (.inr h) hkind⟩

theorem resetHands_endKick (ha : s.rumble.active = some a) (hk : ∃ n, a.kick = .kicking n)
    (hheld : s.supply.holder = .kicker) (hkicker : s.supply.kickerReq = false) (hengine : s.supply.engineReq = true)
    (hf : s.engine.flight = some f) : ResetHands f s (endKick (calm s)) := by
  by_cases hkind : f.kind = .commit ∨ f.kind = .erase
  · exact resetHands_of_survivor ha hk hheld hkicker hengine hf hkind
  · exact resetHands_of_gone ha hk hheld hkicker hengine hf hkind

/-! ## The rows -/

/-- The state under an asserted /CRST. -/
def lineAsserted (s : State) : State := { s with supply := { s.supply with crst := true } }

theorem exec_resetLine_eq (hans : answered s = true) : exec .resetLine s = .next (resetLineEffect (lineAsserted s)) :=
  if_pos hans

theorem exec_softReset_eq {rest : List Byte} (hready : Ready .softReset rest s) :
    exec .softReset s = .next (softResetEffect (taken rest s)) := command_of_ready hready _

theorem endsRow_resetLine (s : State) : EndsRow s (resetLineEffect s) :=
  ⟨.initial, .initial, { (resetBlocks s).profile with lastReset := .resetLine }, (resetBlocks s).map, rfl, rfl, rfl⟩

theorem endsRow_softReset (s : State) : EndsRow s (softResetEffect s) :=
  ⟨{ CommandUnit.initial with reply := CommandUnit.initial.reply ++ frame ReplyStatus.ok.code [] },
    { (resetBlocks s).cause with enables := 0, latches := .clear }, { s.profile with lastReset := .softReset },
    loadedMap s.profile.pageCount, rfl, rfl, rfl⟩

theorem EndsRow.dir (h : EndsRow s t) : t.dir = (resetBlocks s).dir := by
  obtain ⟨m, c, p, e, rfl, -⟩ := h
  rfl

theorem EndsRow.engine (h : EndsRow s t) : t.engine = (resetBlocks s).engine := by
  obtain ⟨m, c, p, e, rfl, -⟩ := h
  rfl

theorem EndsRow.supply (h : EndsRow s t) : t.supply = (resetBlocks s).supply := by
  obtain ⟨m, c, p, e, rfl, -⟩ := h
  rfl

theorem resetBlocks_profile (s : State) : (resetBlocks s).profile = s.profile := by
  have hprofile := congrArg (fun v : State => v.profile) (resetBlocks_eq s)
  exact hprofile

theorem resetBlocks_map (s : State) : (resetBlocks s).map = s.map := by
  have hmap := congrArg (fun v : State => v.map) (resetBlocks_eq s)
  exact hmap

theorem resetBlocks_cause (s : State) : (resetBlocks s).cause = s.cause := by
  have hcause := congrArg (fun v : State => v.cause) (resetBlocks_eq s)
  exact hcause

/-- The row ends where no engine is given the grant. -/
theorem EndsRow.of_leaves (h : EndsRow s t) (hu : ResetLeaves s u) :
    BlocksReset s t ∧ t.engine = ⟨[], s.engine.flight.filter survivesReset, 8⟩ ∧ t.dir = resetDir s ∧ t.supply = u := by
  have hreset := resetBlocks_of_leaves hu
  have hdir := h.dir
  have hengine := h.engine
  have hsupply := h.supply
  have hblocks := blocksReset_of_endsRow h
  rw [hreset] at hdir hengine hsupply hblocks
  exact ⟨hblocks rfl rfl, hengine, hdir, hsupply⟩

/-- The row ends where the kick hands its grant to the engine that waited. -/
theorem EndsRow.of_hands (h : EndsRow s t) (hhands : ResetHands f s (endKick (calm s))) :
    BlocksReset s t ∧ ResetHands f s t := by
  have hreset := resetBlocks_calm s
  have hdir := h.dir
  have hengine := h.engine
  have hsupply := h.supply
  have hblocks := blocksReset_of_endsRow h
  rw [hreset] at hdir hengine hsupply hblocks
  refine ⟨hblocks hhands.1 hhands.2.1, ?_⟩
  unfold ResetHands
  rw [hdir, hengine, hsupply]
  exact hhands

theorem resetLeaves_asserted (h : ResetLeaves s u) : ResetLeaves (lineAsserted s) { u with crst := true } := by
  obtain ⟨ha, rfl⟩ | ⟨a, ha, hleaves⟩ := h
  · exact .inl ⟨ha, rfl⟩
  · obtain ⟨hk, rfl⟩ | ⟨hk, rfl⟩ | ⟨hkicks, hengine, rfl⟩ := hleaves
    · exact .inr ⟨a, ha, .inl ⟨hk, rfl⟩⟩
    · exact .inr ⟨a, ha, .inr (.inl ⟨hk, rfl⟩)⟩
    · exact .inr ⟨a, ha, .inr (.inr ⟨hkicks, hengine, rfl⟩)⟩

theorem filter_survivesReset (o : Option Flight) :
    o.filter survivesReset = o.elim none fun g => if g.kind = .commit ∨ g.kind = .erase then some g else none := by
  cases o with
  | none => rfl
  | some g =>
    simp only [Option.filter_some, Option.elim_some, survivesReset, Bool.or_eq_true, beq_iff_eq]

/-- The slots after a reset, by the state each held, and the working blocks that return to the pool. -/
def Reverts (s t : State) : Prop :=
  (∀ m : SlotNo,
    (s.dir.slots[m].state = .opening ∨ s.dir.slots[m].state = .opened ∨ s.dir.slots[m].state = .committing →
      ¬Commits s m → t.dir.slots[m] = (unverified s m).reverted) ∧
    (s.dir.slots[m].state = .committing → Commits s m → t.dir.slots[m] = unverified s m) ∧
    (s.dir.slots[m].state = .empty ∨ s.dir.slots[m].state = .valid → t.dir.slots[m] = unverified s m) ∧
    (s.dir.slots[m].state = .erasing → ⟨.erase, m⟩ ∈ s.engine.queue →
      t.dir.slots[m] = { unverified s m with state := .valid }) ∧
    (s.dir.slots[m].state = .erasing → ⟨.erase, m⟩ ∉ s.engine.queue → t.dir.slots[m] = unverified s m)) ∧
  ∀ b, b ∈ t.dir.pool ↔ b ∈ s.dir.pool ∨ (b < s.profile.blocks ∧ ∃ m : SlotNo,
    s.dir.slots[m].unsaved = true ∧ ¬Commits s m ∧ s.dir.slots[m].working = some b)

theorem reverts_of_dir (h : t.dir = resetDir s) : Reverts s t := by
  refine ⟨fun m => ?_, fun b => ?_⟩
  · rw [h]
    exact ⟨fun hstate => resetDir_slot_of_reverting (unsaved_iff.2 hstate), resetDir_slot_of_committing,
      resetDir_slot_of_saved, resetDir_slot_of_erase_queued, resetDir_slot_of_erase_flying⟩
  · rw [h]
    exact mem_resetDir_pool

/-- The slot's record after its commit flip. -/
def CommittedFrom (r : SlotRecord) (c : Calendar) (q : SlotRecord) : Prop :=
  q.state = .valid ∧ q.current = r.working ∧ q.working = none ∧ q.stored = r.workCheck ∧ q.workCheck = none ∧
    q.generation = (r.generation + 1) % 65536 ∧ q.stamp = some ⟨c.day, c.sec, c.doubt⟩ ∧ q.damaged = false ∧
    q.lastResult = .done ∧ q.done = true

/-- The row ends where a kick in progress releases its grant to the engine that waits. -/
theorem EndsRow.of_kick (h : EndsRow s t) (ha : s.rumble.active = some a) (hk : ∃ n, a.kick = .kicking n)
    (hheld : s.supply.holder = .kicker) (hkicker : s.supply.kickerReq = false) (hengine : s.supply.engineReq = true)
    (hf : s.engine.flight = some f) :
    BlocksReset s t ∧ t.supply.engineReq = false ∧ t.supply.kickerReq = false ∧
      (f.kind = .commit → t.engine = ⟨[], none, 8⟩ ∧ t.supply.holder = .none ∧
        CommittedFrom s.dir.slots[f.slot] s.cal t.dir.slots[f.slot]) ∧
      (f.kind = .erase → t.engine = ⟨[], some { f with stage := .fill }, 8⟩ ∧ t.supply.holder = .engine) := by
  obtain ⟨hblocks, -, -, hreq, hkickReq, hcommit, herase⟩ :=
    h.of_hands (resetHands_endKick ha hk hheld hkicker hengine hf)
  refine ⟨hblocks, hreq, hkickReq, fun hkind => ?_, herase⟩
  obtain ⟨hflight, hholder, hslot⟩ := hcommit hkind
  obtain ⟨x, y, hcontents⟩ := resetDir_slot_of_commits ⟨f, hf, hkind, rfl⟩
  rw [hcontents] at hslot
  refine ⟨hflight, hholder, ?_⟩
  rw [hslot]
  exact ⟨rfl, rfl, rfl, rfl, rfl, rfl, rfl, rfl, rfl, rfl⟩

end

/-- Settles O59: the reset of the blocks, with the kick's end where no engine waits and where one does. -/
theorem resetsRevertOpenSaves : Obligations.ResetsRevertOpenSaves := by
  intro f a n rest s hans commits goesOn blocks reverts kicksOut supplyIs
  have hgoesOn : s.engine.flight.filter survivesReset = goesOn := by
    rw [filter_survivesReset]
    cases hflight : s.engine.flight <;> simp only [goesOn, hflight] <;> rfl
  have hflown (t : State) (h : t.engine = ⟨[], s.engine.flight.filter survivesReset, 8⟩) :
      t.engine = ⟨[], goesOn, 8⟩ := by rw [h, hgoesOn]
  refine ⟨fun u hu => ?_, fun c hc hkicks hengine hf => ?_⟩
  · have hleaves : ResetLeaves s u := by
      obtain ⟨hstill, rfl⟩ | ⟨ha, hk, rfl⟩ | ⟨⟨ha, hk, hheld, hkicker⟩, hengine, rfl⟩ := hu
      · cases ha : s.rumble.active with
        | none => exact .inl ⟨ha, rfl⟩
        | some x => exact .inr ⟨x, ha, .inl ⟨hstill x ha, rfl⟩⟩
      · exact .inr ⟨a, ha, .inr (.inl ⟨hk, rfl⟩)⟩
      · exact .inr ⟨a, ha, .inr (.inr ⟨⟨⟨n, hk⟩, hheld, .inl hkicker⟩, hengine, rfl⟩)⟩
    refine ⟨?_, fun hready => ?_⟩
    · obtain ⟨hblocks, hengine, hdir, hsupply⟩ := (endsRow_resetLine _).of_leaves (resetLeaves_asserted hleaves)
      have hprofile := resetBlocks_profile (lineAsserted s)
      have hmap := resetBlocks_map (lineAsserted s)
      have hreverts := reverts_of_dir hdir
      exact ⟨_, exec_resetLine_eq hans, hblocks, ⟨hflown _ hengine, hreverts⟩, hsupply, hmap,
        congrArg (fun p : Profile => { p with lastReset := .resetLine }) hprofile, rfl, rfl, rfl⟩
    · obtain ⟨hblocks, hengine, hdir, hsupply⟩ := (endsRow_softReset (taken rest s)).of_leaves (u := u) (by exact hleaves)
      have hcause := resetBlocks_cause (taken rest s)
      have hflags := congrArg CauseUnit.flags hcause
      have hrecord := congrArg CauseUnit.record hcause
      have hreverts := reverts_of_dir hdir
      exact ⟨_, exec_softReset_eq hready, hblocks, ⟨hflown _ hengine, hreverts⟩, hsupply, fun i => getElem_loadedMap .., rfl, rfl,
        hflags, hrecord⟩
  · obtain ⟨ha, hk, hheld, hkicker⟩ := hkicks
    obtain rfl | ⟨rfl, hready⟩ := hc
    · exact ⟨_, exec_resetLine_eq hans, (endsRow_resetLine (lineAsserted s)).of_kick (by exact ha) ⟨n, hk⟩ (by exact hheld)
        (by exact hkicker) (by exact hengine) (by exact hf)⟩
    · exact ⟨_, exec_softReset_eq hready, (endsRow_softReset (taken rest s)).of_kick (by exact ha) ⟨n, hk⟩ (by exact hheld)
        (by exact hkicker) (by exact hengine) (by exact hf)⟩

end Sys2Proof.Proofs
end

section
/-! SUPPORT. The requests of the drive in their ranges and in their order, through every operation of the drive (R135 to
R139, R142). -/

namespace Sys2Proof.Proofs

open Sys2Proof.Machine Sys2Proof.Safety Sys2Proof.Laws

/-! ## The requests' rule, on the drive alone -/

/-- A request lies in its ranges and its pattern is not empty. -/
def RequestOk (x : Rumble) (r : Request) : Prop := RequestFields r ∧ x.patterns[r.pattern].steps ≠ []

/-- The active request lies in its ranges and stands on a step. -/
def ActiveOk (x : Rumble) (a : Active) : Prop :=
  RequestOk x a.request ∧ a.stepIndex < x.patterns[a.request.pattern].steps.length ∧
    (1 ≤ a.stepRemaining ∧ a.stepRemaining ≤ 255) ∧ 1 ≤ a.allowanceLeft ∧ a.allowanceLeft ≤ 255

/-- The patterns and the queue, whatever is active. -/
def QueueFits (x : Rumble) : Prop :=
  (∀ i : Fin 16, PatternLegal x.patterns[i]) ∧ x.queue.length ≤ 4 ∧
    x.queue.Pairwise (fun a b => b.priority ≤ a.priority) ∧ ∀ r ∈ x.queue, RequestOk x r

/-- No queued request is above this priority. -/
def NoneAbove (x : Rumble) (priority : Nat) : Prop := ∀ q ∈ x.queue, q.priority ≤ priority

/-- The patterns, the queue and the active request, whatever its kick. -/
def RequestsFit (x : Rumble) : Prop :=
  QueueFits x ∧ (x.active = none → x.queue = []) ∧ ∀ a ∈ x.active, ActiveOk x a ∧ NoneAbove x a.request.priority

section
variable {a b : Active} {i : Nat} {r : Request} {s t : State} {x : Rumble}

theorem requestsFit_of_none (ha : x.active = none) (hqueue : x.queue = []) (hpatterns : ∀ i : Fin 16, PatternLegal x.patterns[i]) :
    RequestsFit x := by
  refine ⟨⟨hpatterns, ?_, ?_, ?_⟩, fun _ => hqueue, fun a h => (nomatch ha.symm.trans h)⟩
  · rw [hqueue]
    exact Nat.zero_le 4
  · rw [hqueue]
    exact .nil
  · rw [hqueue]
    nofun

theorem requestsFit_of_some (ha : x.active = some a) (hqueue : QueueFits x) (hok : ActiveOk x a)
    (habove : NoneAbove x a.request.priority) : RequestsFit x := by
  refine ⟨hqueue, fun hnone => (nomatch ha.symm.trans hnone), fun b hb => ?_⟩
  cases ha.symm.trans hb
  exact ⟨hok, habove⟩

/-- The kick does not matter. -/
theorem requestsFit_unkicked : RequestsFit { x with active := x.active.map unkicked } ↔ RequestsFit x := by
  cases ha : x.active with
  | none =>
    have hsame : ({ x with active := Option.map unkicked none } : Rumble) = x := by rw [Option.map_none, ← ha]
    rw [hsame]
  | some a =>
    constructor
    · rintro ⟨hqueue, -, hactive⟩
      obtain ⟨hok, habove⟩ := hactive _ rfl
      exact requestsFit_of_some ha hqueue hok habove
    · rintro ⟨hqueue, -, hactive⟩
      obtain ⟨hok, habove⟩ := hactive a ha
      exact requestsFit_of_some (a := unkicked a) rfl hqueue hok habove

theorem requestsFit_of_outsideGrant (h : outsideGrant t = outsideGrant s) (hs : RequestsFit s.rumble) :
    RequestsFit t.rumble := by
  have hrumble := congrArg (fun u : State => u.rumble) h
  have hequal : ({ t.rumble with active := t.rumble.active.map unkicked } : Rumble) =
      { s.rumble with active := s.rumble.active.map unkicked } := hrumble
  rw [← requestsFit_unkicked, hequal, requestsFit_unkicked]
  exact hs

theorem outsideGrant_kickRuleIf (b : Bool) (s : State) : outsideGrant (kickRuleIf b s) = outsideGrant s := by
  unfold kickRuleIf
  split
  · split
    · simp
    · rfl
  · rfl

theorem outsideGrant_kickTick (s : State) : outsideGrant (kickTick s) = outsideGrant s := by
  unfold kickTick
  split
  · split
    · split <;> simp
    · rfl
    · rfl
  · rfl

/-- A request in the place of the active one. -/
theorem requestsFit_setActive (hs : RequestsFit s.rumble) (ha : s.rumble.active = some a) (hb : ActiveOk s.rumble b)
    (hreq : b.request = a.request) : RequestsFit (setActive (some b) s).rumble := by
  obtain ⟨hqueue, -, hactive⟩ := hs
  obtain ⟨-, habove⟩ := hactive a ha
  rw [← hreq] at habove
  exact requestsFit_of_some (a := b) rfl hqueue hb habove

/-! ## A request starts, a request ends -/

theorem stepDuration_legal {p : Pattern} (hp : PatternLegal p) (hi : i < p.steps.length) :
    1 ≤ stepDuration p i ∧ stepDuration p i ≤ 255 := by
  have hlegal := List.all_eq_true.1 hp.2 _ (List.getElem_mem hi)
  simp only [stepLegal, Bool.and_eq_true, decide_eq_true_eq] at hlegal
  obtain ⟨⟨hlow, hhigh⟩, -⟩ := hlegal
  rw [stepDuration, List.getElem?_eq_getElem hi]
  exact ⟨hlow, hhigh⟩

theorem onFirstStep_ok (hpatterns : ∀ i : Fin 16, PatternLegal s.rumble.patterns[i]) (hr : RequestOk s.rumble r) :
    ActiveOk s.rumble (onFirstStep s r) := by
  obtain ⟨⟨hpriority, hlow, hhigh⟩, hsteps⟩ := hr
  have hpos : 0 < (patternOf s r).steps.length := List.length_pos_iff.2 hsteps
  have hduration := stepDuration_legal (hpatterns r.pattern) hpos
  rw [stepDuration_zero] at hduration
  exact ⟨⟨⟨hpriority, hlow, hhigh⟩, hsteps⟩, hpos, hduration, hlow, hhigh⟩

theorem requestsFit_startRequest (hqueue : QueueFits s.rumble) (hr : RequestOk s.rumble r)
    (habove : NoneAbove s.rumble r.priority) : RequestsFit (startRequest r s).rumble := by
  rw [startRequest_eq]
  refine requestsFit_of_outsideGrant (outsideGrant_kickRuleIf ..) ?_
  exact requestsFit_of_some (a := onFirstStep s r) rfl hqueue (onFirstStep_ok hqueue.1 hr) habove

theorem queueFits_closeRequest (e : EndReason) (h : QueueFits s.rumble) : QueueFits (closeRequest e s).rumble := by
  rw [closeRequest_rumble]
  exact h

theorem requestsFit_startHead (hqueue : QueueFits s.rumble) (ha : s.rumble.active = none) :
    RequestsFit (startHead s).rumble := by
  unfold startHead
  split
  next r rest hq =>
    obtain ⟨hpatterns, hlen, hsorted, hok⟩ := hqueue
    rw [hq] at hlen hsorted hok
    obtain ⟨hfirst, hsorted⟩ := List.pairwise_cons.1 hsorted
    obtain ⟨hr, hrest⟩ := List.forall_mem_cons.1 hok
    exact requestsFit_startRequest (s := { s with rumble := { s.rumble with queue := rest } })
      ⟨hpatterns, (Nat.le_succ _).trans hlen, hsorted, hrest⟩ hr hfirst
  next hq => exact requestsFit_of_none ha hq hqueue.1

theorem requestsFit_endRequest (e : EndReason) (h : QueueFits s.rumble) : RequestsFit (endRequest e s).rumble := by
  refine requestsFit_startHead (queueFits_closeRequest e h) ?_
  rw [closeRequest_rumble]

/-! ## The decision of a request (R137, R138) -/

theorem mem_insertRequest {q : Request} {l : List Request} : q ∈ insertRequest r l ↔ q = r ∨ q ∈ l := by
  induction l with
  | nil => simp [insertRequest]
  | cons p l ih =>
    unfold insertRequest
    split
    · exact List.mem_cons
    · rw [List.mem_cons, ih, List.mem_cons, or_left_comm]

theorem insertRequest_sorted {l : List Request} (h : l.Pairwise (fun a b => b.priority ≤ a.priority)) :
    (insertRequest r l).Pairwise (fun a b => b.priority ≤ a.priority) := by
  induction l with
  | nil => exact List.pairwise_singleton ..
  | cons p l ih =>
    obtain ⟨hp, hl⟩ := List.pairwise_cons.1 h
    unfold insertRequest
    split
    next hlt =>
      refine List.pairwise_cons.2 ⟨List.forall_mem_cons.2 ⟨hlt.le, fun q hq => (hp q hq).trans hlt.le⟩, h⟩
    next hge =>
      refine List.pairwise_cons.2 ⟨fun q hq => ?_, ih hl⟩
      obtain rfl | hq := mem_insertRequest.1 hq
      · exact Nat.not_lt.1 hge
      · exact hp q hq

theorem playable_of_no_refusal (h : requestRefusal r s = none) : Playable s r := by
  by_contra hplay
  obtain ⟨st, hst⟩ := requestRefusal_of_unplayable hplay
  exact nomatch h.symm.trans hst

theorem requestsFit_insert (hs : RequestsFit s.rumble) (ha : s.rumble.active = some a) (hr : RequestOk s.rumble r)
    (hle : r.priority ≤ a.request.priority) (hroom : s.rumble.queue.length < 4) :
    RequestsFit { s.rumble with queue := insertRequest r s.rumble.queue } := by
  obtain ⟨⟨hpatterns, -, hsorted, hok⟩, -, hactive⟩ := hs
  obtain ⟨hactiveOk, habove⟩ := hactive a ha
  refine requestsFit_of_some (by exact ha) ⟨hpatterns, ?_, insertRequest_sorted hsorted, fun q hq => ?_⟩ hactiveOk
    fun q hq => ?_
  · show (insertRequest r s.rumble.queue).length ≤ 4
    rw [length_insertRequest]
    exact hroom
  · obtain rfl | hq := mem_insertRequest.1 hq
    · exact hr
    · exact hok q hq
  · obtain rfl | hq := mem_insertRequest.1 hq
    · exact hle
    · exact habove q hq

theorem requestsFit_decideRequest (hs : RequestsFit s.rumble) (hfields : RequestFields r) :
    RequestsFit (decideRequest r s).2.rumble := by
  cases hgo : requestRefusal r s with
  | some st =>
    rw [decideRequest_of_refused hgo]
    exact hs
  | none =>
    have hplay := playable_of_no_refusal hgo
    have hr : RequestOk s.rumble r := ⟨hfields, hplay.2.2⟩
    obtain ⟨hqueue, hempty, hactive⟩ := id hs
    cases ha : s.rumble.active with
    | none =>
      rw [decideRequest_of_idle hplay ha]
      refine requestsFit_startRequest hqueue hr ?_
      rw [NoneAbove, hempty ha]
      nofun
    | some a =>
      by_cases hlt : a.request.priority < r.priority
      · rw [decideRequest_of_lower hplay ha hlt]
        obtain ⟨-, habove⟩ := hactive a ha
        exact requestsFit_startRequest (s := leftWith .preempted s.rumble.queue s) hqueue hr
          fun q hq => (habove q hq).trans hlt.le
      · have hle := Nat.not_lt.1 hlt
        have hroom := room_of_not_refused hgo ha hlt
        rw [decideRequest_of_queued hplay ha hle hroom]
        exact requestsFit_insert hs ha hr hle hroom

/-! ## The rumble tick (R142) -/

theorem requestsFit_countAllowance (hs : RequestsFit s.rumble) (hlasts : allowanceEnds s = false) :
    RequestsFit (countAllowance s).rumble := by
  cases ha : s.rumble.active with
  | none =>
    have hsame : countAllowance s = s := by simp only [countAllowance, ha]
    rw [hsame]
    exact hs
  | some a =>
    rw [countAllowance_of_active ha]
    obtain ⟨hok, hindex, hremaining, hlow, hhigh⟩ := (hs.2.2 a ha).1
    refine requestsFit_setActive hs ha (b := countedDown s a) ⟨hok, hindex, hremaining, ?_⟩ rfl
    by_cases hloop : (patternOf s a.request).rep = .loop
    · have hmore : ¬a.allowanceLeft ≤ 1 := fun hle => (nomatch hlasts.symm.trans (allowanceEnds_eq_true ha hloop hle))
      have hleft : (countedDown s a).allowanceLeft = a.allowanceLeft - 1 := if_pos hloop
      rw [hleft]
      omega
    · have hleft : (countedDown s a).allowanceLeft = a.allowanceLeft := if_neg hloop
      rw [hleft]
      exact ⟨hlow, hhigh⟩

theorem requestsFit_enterStep (hs : RequestsFit s.rumble) (ha : s.rumble.active = some a)
    (hi : i < (patternOf s a.request).steps.length) : RequestsFit (enterStep i s).rumble := by
  obtain ⟨hok, -, -, hleft⟩ := (hs.2.2 a ha).1
  have hst := List.getElem?_eq_getElem hi
  have hduration := stepDuration_legal (hs.1.1 a.request.pattern) hi
  have hstanding : stepDuration (patternOf s a.request) i = (patternOf s a.request).steps[i].duration := by
    rw [stepDuration, hst]
  have hduration : 1 ≤ (patternOf s a.request).steps[i].duration ∧ (patternOf s a.request).steps[i].duration ≤ 255 :=
    hstanding ▸ hduration
  have hfit : RequestsFit (setActive (some (onStep a i (patternOf s a.request).steps[i])) s).rumble :=
    requestsFit_setActive hs ha ⟨hok, hi, hduration, hleft⟩ rfl
  rw [enterStep_eq ha hst]
  split
  · exact hfit
  · exact requestsFit_of_outsideGrant (outsideGrant_endKick _) hfit

theorem requestsFit_advanceStep (hs : RequestsFit s.rumble) (ha : s.rumble.active = some a) :
    RequestsFit (advanceStep s).rumble := by
  have hpos : 0 < (patternOf s a.request).steps.length := List.length_pos_iff.2 (hs.2.2 a ha).1.1.2
  simp only [advanceStep, ha]
  split
  next hnext => exact requestsFit_enterStep hs ha hnext
  · split
    · exact requestsFit_endRequest .finished hs.1
    · exact requestsFit_enterStep hs ha hpos

theorem requestsFit_stepTick (waits : Bool) (hs : RequestsFit s.rumble) : RequestsFit (stepTick waits s).rumble := by
  cases ha : s.rumble.active with
  | none =>
    have hsame : stepTick waits s = s := by simp only [stepTick, ha]
    rw [hsame]
    exact hs
  | some a =>
    obtain ⟨hok, hindex, ⟨-, hhigh⟩, hleft⟩ := (hs.2.2 a ha).1
    simp only [stepTick, ha]
    split
    · exact hs
    · split
      · exact requestsFit_advanceStep hs ha
      next hmore =>
        refine requestsFit_setActive hs ha ⟨hok, hindex, ?_, hleft⟩ rfl
        show 1 ≤ a.stepRemaining - 1 ∧ a.stepRemaining - 1 ≤ 255
        omega

theorem requestsFit_warmTick (hs : RequestsFit s.rumble) : RequestsFit (warmTick s).rumble := by
  have hheated : RequestsFit (heated s).rumble := hs
  rw [warmTick_eq]
  split
  · exact requestsFit_of_outsideGrant (outsideGrant_endKick _) hheated
  · exact hheated

theorem requestsFit_driveTick (hs : RequestsFit s.rumble) : RequestsFit (driveTick s).rumble := by
  have hwarm := requestsFit_warmTick hs
  have hcount : RequestsFit (countTick s).rumble := by
    unfold countTick
    simp only
    split
    · exact requestsFit_endRequest .allowance hwarm.1
    next hlasts =>
      refine requestsFit_stepTick _ (requestsFit_of_outsideGrant (outsideGrant_kickTick _) ?_)
      exact requestsFit_countAllowance hwarm (eq_false_of_ne_true hlasts)
  exact requestsFit_of_outsideGrant (outsideGrant_kickRuleIf ..) hcount

/-! ## The level (R143) -/

theorem activeLevel_legal (hpatterns : ∀ i : Fin 16, PatternLegal s.rumble.patterns[i]) {n : Nat}
    (h : activeLevel s a = .drive n) : n ≤ 15 := by
  unfold activeLevel at h
  split at h
  next st hst =>
    have hlegal := List.all_eq_true.1 (hpatterns a.request.pattern).2 st (List.mem_of_getElem? hst)
    simp only [stepLegal, h, Bool.and_eq_true, decide_eq_true_eq] at hlegal
    exact hlegal.2
  · cases h
    exact Nat.zero_le 15

theorem motorDrive_le (hpatterns : ∀ i : Fin 16, PatternLegal s.rumble.patterns[i]) : (motorDrive s).1 ≤ 16 := by
  by_cases hstop : s.supply.monitor ≠ .run ∨ hasFault .stall s = true ∨ s.profile.motor = false ∨ s.rumble.active = none
  · rw [motorDrive_of_stopped hstop]
    exact Nat.zero_le 16
  simp only [not_or, not_not, Bool.not_eq_true, Bool.not_eq_false] at hstop
  obtain ⟨hrun, hstall, hmotor, hactive⟩ := hstop
  obtain ⟨a, ha⟩ := Option.ne_none_iff_exists'.1 hactive
  cases hkick : a.kick with
  | waiting =>
    rw [motorDrive_of_waiting hrun hstall hmotor ha hkick]
    exact Nat.zero_le 16
  | kicking n => rw [motorDrive_of_kicking hrun hstall hmotor ha hkick]
  | none =>
    cases hlevel : activeLevel s a with
    | brake =>
      rw [motorDrive_of_brake hrun hstall hmotor ha hkick hlevel]
      exact Nat.zero_le 16
    | drive n =>
      have hn := activeLevel_legal hpatterns hlevel
      rw [motorDrive_of_drive hrun hstall hmotor ha hkick hlevel]
      show (if s.rumble.hot then min n 6 else n) ≤ 16
      split <;> omega

end

end Sys2Proof.Proofs
end

section
/-! Every move keeps the rumble drive in its ranges (O10). -/

namespace Sys2Proof.Proofs

open Sys2Proof.Machine Sys2Proof.Safety Sys2Proof.Laws

/-! ## The parts of the property -/

/-- The counts of the motor and the pins, driven while the console is on. -/
def MotorOk (x : Rumble) (on : Bool) : Prop :=
  x.heat ≤ 65535 ∧ x.zeroRun ≤ 8 ∧ x.warnTicks ≤ 8 ∧ x.pwmSlot < 16 ∧ x.pwmLevel ≤ 16 ∧
    (x.ma.isSome = true ↔ on = true) ∧ (x.mb.isSome = true ↔ on = true)

/-- No request without a motor, under STALL, or while the console is not answered. -/
def QuietFits (s : State) : Prop :=
  s.profile.motor = false ∨ hasFault .stall s = true ∨ answered s = false → s.rumble.active = none

section
variable {r : Request} {s t : State}

theorem rumbleKept_iff : RumbleKept s ↔
    DomainFits s ∧ CuesKept s ∧ RequestsFit s.rumble ∧ QuietFits s ∧ MotorOk s.rumble (powered s) := by
  have hrequest (r : Request) : RequestLegal s r ↔ RequestOk s.rumble r := by
    simp only [RequestLegal, RequestOk, RequestFields, and_assoc, patternOf]
  have hactive (a : Active) : ActiveLegal s a ↔ ActiveOk s.rumble a := by
    simp only [ActiveLegal, ActiveOk, hrequest, and_assoc, patternOf]
  simp only [RumbleKept, RequestsFit, QueueFits, QuietFits, MotorOk, NoneAbove, hrequest, hactive]
  tauto

/-- A state that agrees with s in all that the property reads but the kick, and shows no new stall. -/
theorem rumbleKept_of_like (hs : RumbleKept s) (hcues : CuesKept t) (hunheld : unheld t.supply = unheld s.supply)
    (hprofile : t.profile = s.profile) (hstall : hasFault .stall t = true → hasFault .stall s = true)
    (hrumble : ({ t.rumble with active := t.rumble.active.map unkicked } : Rumble) =
      { s.rumble with active := s.rumble.active.map unkicked }) : RumbleKept t := by
  obtain ⟨hdomain, -, hrequests, hquiet, hmotor⟩ := rumbleKept_iff.1 hs
  have hactive : t.rumble.active = none ↔ s.rumble.active = none := by
    have hmap := congrArg (fun x : Rumble => x.active = none) hrumble
    simpa using hmap
  refine rumbleKept_iff.2 ⟨domainFits_of_unheld hunheld hdomain, hcues, ?_, ?_, ?_⟩
  · rw [← requestsFit_unkicked, hrumble, requestsFit_unkicked]
    exact hrequests
  · intro h
    rw [hprofile, answered_of_unheld hunheld] at h
    exact hactive.2 (hquiet (h.imp_right (Or.imp_left hstall)))
  · rw [powered_of_unheld hunheld]
    have hparts := congrArg (fun x : Rumble => MotorOk x (powered s)) hrumble
    exact hparts.mpr hmotor

/-- A drive without a request. -/
theorem rumbleKept_of_idle (hdomain : DomainFits t) (hcues : CuesKept t)
    (hpatterns : ∀ i : Fin 16, PatternLegal t.rumble.patterns[i]) (ha : t.rumble.active = none)
    (hqueue : t.rumble.queue = []) (hmotor : MotorOk t.rumble (powered t)) : RumbleKept t :=
  rumbleKept_iff.2 ⟨hdomain, hcues, requestsFit_of_none ha hqueue hpatterns, fun _ => ha, hmotor⟩

/-! ## The work of the drive -/

theorem quietCause_stall (s : State) : (quietCause s).flags.getLsbD FaultFlag.stall.bit = hasFault .stall s := by
  unfold quietCause
  cases hasFault .stall s
  · exact (by decide : (0 : BitVec 12).getLsbD FaultFlag.stall.bit = false)
  · exact (by decide : (-1 : BitVec 12).getLsbD FaultFlag.stall.bit = true)

/-- What the work of the drive leaves of the supply watch, the profile and the cues. -/
theorem DriveWork.frame (h : DriveWork s t) :
    unheld t.supply = unheld s.supply ∧ t.profile = s.profile ∧ t.cues = s.cues := by
  have hout := congrArg Prod.fst h.outside
  have hsupply := congrArg (fun u : State => u.supply) hout
  have hprofile := congrArg (fun u : State => u.profile) hout
  have hcues := congrArg (fun u : State => u.cues) hout
  exact ⟨hsupply, hprofile, hcues⟩

/-- The work of the drive that keeps the request's rule, does not wake the drive against the stall, and keeps the counts. -/
theorem DriveWork.rumbleKept_of (h : DriveWork s t) (hs : RumbleKept s) (hrequests : RequestsFit t.rumble)
    (hquiet : hasFault .stall t = hasFault .stall s ∧
        (s.profile.motor = true ∧ hasFault .stall s = false ∧ answered s = true ∨
          (s.rumble.active = none → t.rumble.active = none)) ∨ t.rumble.active = none)
    (hmotor : MotorOk t.rumble (powered s)) : RumbleKept t := by
  obtain ⟨hdomain, hcues, -, hquiet', -⟩ := rumbleKept_iff.1 hs
  obtain ⟨hunheld, hprofile, hsame⟩ := h.frame
  refine rumbleKept_iff.2 ⟨domainFits_of_unheld hunheld hdomain, ?_, hrequests, fun hno => ?_, ?_⟩
  · rw [CuesKept, hsame]
    exact hcues
  · rw [hprofile, answered_of_unheld hunheld] at hno
    obtain ⟨hstall, ⟨hmotor, hclear, hans⟩ | hidle⟩ | hidle := hquiet
    · rw [hmotor, hstall, hclear, hans] at hno
      exact hno.elim nofun (fun h => h.elim nofun nofun)
    · rw [hstall] at hno
      exact hidle (hquiet' hno)
    · exact hidle
  · rw [powered_of_unheld hunheld]
    exact hmotor

theorem stall_of_beside (h : besideRequests t = besideRequests s) : hasFault .stall t = hasFault .stall s := by
  have hflags : t.cause.flags = s.cause.flags := congrArg Prod.snd h
  rw [hasFault, hasFault, hflags]

theorem motorOk_of_beside {on : Bool} (h : besideRequests t = besideRequests s) (hs : MotorOk s.rumble on) :
    MotorOk t.rumble on := by
  have hparts := congrArg (fun x : Rumble × BitVec 12 => MotorOk x.1 on) h
  exact hparts.mpr hs

@[simp] theorem besideRequests_decideRequest (r : Request) (s : State) :
    besideRequests (decideRequest r s).2 = besideRequests s := by
  unfold decideRequest
  split
  · rfl
  · unfold takeRequest
    split
    · exact besideRequests_startRequest ..
    · split
      · simp
      · rfl

theorem heated_motorOk (hs : MotorOk s.rumble (powered s)) : MotorOk (heated s).rumble (powered s) := by
  obtain ⟨-, -, hwarn, hpins⟩ := hs
  refine ⟨Nat.min_le_left .., ?_, ?_, hpins⟩
  · show nextZeroRun _ _ ≤ 8
    unfold nextZeroRun
    split
    · exact Nat.min_le_left ..
    · exact Nat.zero_le 8
  · show nextWarnTicks s ≤ 8
    unfold nextWarnTicks
    split
    · exact Nat.zero_le 8
    · exact Nat.min_le_left ..

theorem pwmSlot_motorOk (hpatterns : ∀ i : Fin 16, PatternLegal s.rumble.patterns[i]) (hpow : powered s = true)
    (hs : MotorOk s.rumble (powered s)) : MotorOk (pwmSlot s).rumble (powered s) := by
  obtain ⟨hheat, hzero, hwarn, -, hlevel, -⟩ := hs
  refine ⟨hheat, hzero, hwarn, Nat.mod_lt _ (by decide), ?_, iff_of_true rfl hpow, iff_of_true rfl hpow⟩
  simp only [pwmSlot]
  split
  · exact motorDrive_le hpatterns
  · exact hlevel

/-- A pattern that the active request does not play is replaced. -/
theorem requestsFit_pattern {i : Fin 16} {p : Pattern} (hs : RequestsFit s.rumble) (hfree : playsPattern s i = false)
    (hlegal : PatternLegal p) (hsteps : p.steps ≠ []) :
    RequestsFit { s.rumble with patterns := s.rumble.patterns.set i.val p i.isLt } := by
  obtain ⟨⟨hpatterns, hlen, hsorted, hok⟩, hempty, hactive⟩ := hs
  have hget (j : Fin 16) : (s.rumble.patterns.set i.val p i.isLt)[j] = if j = i then p else s.rumble.patterns[j] := by
    by_cases hji : j = i
    · subst hji
      rw [if_pos rfl]
      exact Vector.getElem_set_self _
    · rw [if_neg hji]
      exact Vector.getElem_set_ne i.isLt j.isLt (Fin.val_ne_of_ne (Ne.symm hji))
  have hrequest (q : Request) (hq : RequestOk s.rumble q) :
      RequestOk { s.rumble with patterns := s.rumble.patterns.set i.val p i.isLt } q := by
    refine ⟨hq.1, ?_⟩
    show (s.rumble.patterns.set i.val p i.isLt)[q.pattern].steps ≠ []
    rw [hget]
    split
    · exact hsteps
    · exact hq.2
  refine ⟨⟨fun j => ?_, hlen, hsorted, fun q hq => hrequest q (hok q hq)⟩, hempty, fun a ha => ?_⟩
  · show PatternLegal (s.rumble.patterns.set i.val p i.isLt)[j]
    rw [hget]
    split
    · exact hlegal
    · exact hpatterns j
  · obtain ⟨⟨hreq, hindex, hcounts⟩, habove⟩ := hactive a ha
    refine ⟨⟨hrequest _ hreq, ?_, hcounts⟩, habove⟩
    have hne : a.request.pattern ≠ i := by
      intro hi
      have ha : s.rumble.active = some a := ha
      simp only [playsPattern, ha, hi, beq_self_eq_true] at hfree
      exact Bool.noConfusion hfree
    show a.stepIndex < (s.rumble.patterns.set i.val p i.isLt)[a.request.pattern].steps.length
    rw [hget, if_neg hne]
    exact hindex

theorem driveTick_active_of_none (ha : s.rumble.active = none) : (driveTick s).rumble.active = none := by
  rw [driveTick_of_no_request ha]
  exact ha

theorem DriveWork.rumbleKept (h : DriveWork s t) (hs : RumbleKept s) : RumbleKept t := by
  obtain ⟨hdomain, hcues, hrequests, hquiet, hmotor⟩ := rumbleKept_iff.1 hs
  have hwork := h
  cases h with
  | decide r hans hfields =>
    have hbeside := besideRequests_decideRequest r s
    refine hwork.rumbleKept_of hs (requestsFit_decideRequest hrequests (hfields hcues))
      (.inl ⟨stall_of_beside hbeside, ?_⟩) (motorOk_of_beside hbeside hmotor)
    cases hgo : requestRefusal r s with
    | some st =>
      rw [decideRequest_of_refused hgo]
      exact .inr id
    | none =>
      obtain ⟨hm, hclear, -⟩ := playable_of_no_refusal hgo
      exact .inl ⟨hm, hclear, hans⟩
  | clearQueue =>
    obtain ⟨⟨hpatterns, -⟩, hempty, hactive⟩ := hrequests
    refine hwork.rumbleKept_of hs ?_ (.inl ⟨rfl, .inr id⟩) hmotor
    refine ⟨⟨hpatterns, Nat.zero_le 4, .nil, nofun⟩, fun _ => rfl, fun a ha => ⟨(hactive a ha).1, nofun⟩⟩
  | stop hans hactive =>
    have hbeside := besideRequests_endRequest .stopped s
    refine hwork.rumbleKept_of hs (requestsFit_endRequest .stopped hrequests.1)
      (.inl ⟨stall_of_beside hbeside, .inr fun hnone => ?_⟩) (motorOk_of_beside hbeside hmotor)
    rw [hnone] at hactive
    exact nomatch hactive
  | renew a n ha hn =>
    obtain ⟨hok, hindex, hremaining, -⟩ := (hrequests.2.2 a ha).1
    refine hwork.rumbleKept_of hs
      (requestsFit_setActive hrequests ha (b := { a with allowanceLeft := n }) ⟨hok, hindex, hremaining, hn⟩ rfl)
      (.inl ⟨rfl, .inr fun hnone => (nomatch ha.symm.trans hnone)⟩) hmotor
  | pattern i p hfree hlegal hsteps =>
    exact hwork.rumbleKept_of hs (requestsFit_pattern hrequests hfree hlegal hsteps) (.inl ⟨rfl, .inr id⟩) hmotor
  | tick hpow =>
    have hbeside := besideRequests_driveTick s
    have hstall := stall_of_beside hbeside
    exact hwork.rumbleKept_of hs (requestsFit_driveTick hrequests) (.inl ⟨hstall, .inr driveTick_active_of_none⟩)
      (motorOk_of_beside hbeside (heated_motorOk hmotor))
  | stallInput b => exact hwork.rumbleKept_of hs hrequests (.inl ⟨rfl, .inr id⟩) hmotor
  | latchStall hpow =>
    have hrumble : (Machine.latchStall s).rumble =
        { s.rumble with active := none, queue := [], stallTimer := 0, lastEnd := .stall } := by
      refine (closeRequest_rumble ..).trans ?_
      rw [setFault_eq]
    refine hwork.rumbleKept_of hs ?_ (.inr ?_) ?_
    all_goals rw [hrumble]
    · exact requestsFit_of_none rfl rfl hrequests.1.1
    · exact hmotor
  | pwm hpow =>
    exact hwork.rumbleKept_of hs hrequests (.inl ⟨rfl, .inr id⟩) (pwmSlot_motorOk hrequests.1.1 hpow hmotor)

/-! ## The work of the other parts -/

theorem Work.rumbleKept (h : Work s t) (hs : RumbleKept s) : RumbleKept t := by
  obtain ⟨hdomain, hcues, hrequests, hquiet, hmotor⟩ := rumbleKept_iff.1 hs
  cases h with
  | bus h =>
    cases h with
    | cause u hstall => exact rumbleKept_of_like hs hcues rfl rfl hstall rfl
    | map | sound | access => exact hs
  | sound h =>
    have hout := congrArg Prod.fst h.outside
    have hflags := congrArg (fun u : State => u.cause.flags.getLsbD FaultFlag.stall.bit) hout
    have hstall : hasFault .stall t = hasFault .stall s :=
      (quietCause_stall t).symm.trans (hflags.trans (quietCause_stall s))
    have hrumble := congrArg (fun u : State =>
      ({ u.rumble with active := u.rumble.active.map unkicked } : Rumble)) hout
    have hunheld := congrArg (fun u : State => unheld u.supply) hout
    have hprofile := congrArg (fun u : State => u.profile) hout
    have hcues' : CuesKept t := h.keeps (fun _ => Iff.rfl) hcues
    exact rumbleKept_of_like hs hcues' hunheld hprofile (fun ht => hstall ▸ ht) hrumble
  | save h =>
    have hout := congrArg Prod.fst h.outside
    have hflags := congrArg (fun u : State => u.cause.flags.getLsbD FaultFlag.stall.bit) hout
    have hstall : hasFault .stall t = hasFault .stall s :=
      (quietCause_stall t).symm.trans (hflags.trans (quietCause_stall s))
    have hrumble := congrArg (fun u : State => u.rumble) hout
    have hunheld := congrArg (fun u : State => u.supply) hout
    have hprofile := congrArg (fun u : State => u.profile) hout
    have hcues' : CuesKept t := h.keeps (fun _ => Iff.rfl) hcues
    exact rumbleKept_of_like hs hcues' hunheld hprofile (fun ht => hstall ▸ ht) hrumble
  | drive h => exact h.rumbleKept hs
  | time h =>
    have hrumble := congrArg (fun u : State =>
      ({ u.rumble with active := u.rumble.active.map unkicked } : Rumble)) h.outside
    have hunheld := congrArg (fun u : State => unheld u.supply) h.outside
    have hprofile := congrArg (fun u : State => u.profile) h.outside
    have hstall := congrArg (fun u : State => hasFault .stall u) h.outside
    exact rumbleKept_of_like hs (h.cuesKept hcues) hunheld hprofile (fun ht => hstall ▸ ht) hrumble

/-! ## Every move -/

theorem initial_patterns (stallInput : Bool) (pins : Option Bool) (i : Fin 16) :
    PatternLegal (Rumble.initial stallInput pins).patterns[i] := by
  have hblank : (Rumble.initial stallInput pins).patterns[i] = Pattern.blank := by
    rw [Rumble.initial, Fin.getElem_fin, Vector.getElem_replicate]
  rw [hblank]
  decide

/-- The drive of a reset, the console on. -/
theorem restarted_motorOk {on : Bool} (h : MotorOk s.rumble on) : MotorOk s.rumble.restarted on := by
  obtain ⟨hheat, -, hwarn, hslot, hlevel, hpins⟩ := h
  exact ⟨hheat, Nat.le_refl 8, hwarn, hslot, hlevel, hpins⟩

theorem resetBlocks_cues (s : State) : (resetBlocks s).cues = s.cues := by
  have hcues := congrArg (fun v : State => v.cues) (resetBlocks_eq s)
  exact hcues

/-- RESET LINE and SOFT RESET leave the drive without a request; the row gives its own units their values. -/
theorem EndsRow.rumbleKept (h : EndsRow s t) (hdomain : DomainFits s) (hcues : CuesKept s)
    (hrequests : RequestsFit s.rumble) (hmotor : MotorOk s.rumble (powered s)) : RumbleKept t := by
  have hunheld : unheld t.supply = unheld s.supply := by
    rw [h.supply]
    exact resetBlocks_unheld s
  have hrumble : t.rumble = s.rumble.restarted := by
    obtain ⟨m, c, p, e, rfl, -⟩ := h
    exact resetBlocks_rumble s
  have hsame : t.cues = s.cues := by
    obtain ⟨m, c, p, e, rfl, -⟩ := h
    exact resetBlocks_cues s
  refine rumbleKept_of_idle (domainFits_of_unheld hunheld hdomain) ?_ ?_ ?_ ?_ ?_
  · rw [CuesKept, hsame]
    exact hcues
  all_goals rw [hrumble]
  · exact hrequests.1.1
  · rfl
  · rfl
  · rw [powered_of_unheld hunheld]
    exact restarted_motorOk hmotor

theorem answered_of_not_powered (h : powered s = false) : answered s = false := by
  rw [answered, h]
  rfl

/-- A change of the supply watch while the console is off, the drive as it stands. -/
theorem rumbleKept_of_off (hs : RumbleKept s) (hpow : powered s = false) (hpow' : powered t = false)
    (hdomain : DomainFits t) (hcues : CuesKept t) (hrumble : t.rumble = s.rumble) : RumbleKept t := by
  obtain ⟨-, -, hrequests, hquiet, hmotor⟩ := rumbleKept_iff.1 hs
  refine rumbleKept_iff.2 ⟨hdomain, hcues, ?_, fun _ => ?_, ?_⟩
  all_goals rw [hrumble]
  · exact hrequests
  · exact hquiet (.inr (.inr (answered_of_not_powered hpow)))
  · rw [hpow', ← hpow]
    exact hmotor

/-- A change of the monitor between RUN and WARN keeps the drive. -/
theorem rumbleKept_of_monitor (hs : RumbleKept s) (hpow : powered t = powered s) (hcrst : t.supply.crst = s.supply.crst)
    (hdomain : DomainFits t) (hcues : CuesKept t) (hprofile : t.profile = s.profile) (hcause : t.cause = s.cause)
    (hrequests : RequestsFit t.rumble) (hactive : s.rumble.active = none → t.rumble.active = none)
    (hmotor : MotorOk t.rumble (powered s)) : RumbleKept t := by
  obtain ⟨-, -, -, hquiet, -⟩ := rumbleKept_iff.1 hs
  refine rumbleKept_iff.2 ⟨hdomain, hcues, hrequests, fun hno => hactive (hquiet ?_), ?_⟩
  · rw [hprofile, hasFault, hcause, answered, hpow, hcrst] at hno
    exact hno
  · rw [hpow]
    exact hmotor

theorem powered_of_battery (h : s.supply.monitor = .battery) : powered s = false := by
  rw [powered, h]
  rfl

theorem initial_motorOk {stallInput on : Bool} {pins : Option Bool} (h : pins.isSome = true ↔ on = true) :
    MotorOk (Rumble.initial stallInput pins) on :=
  ⟨Nat.zero_le _, Nat.le_refl 8, Nat.zero_le 8, Nat.zero_lt_succ _, Nat.zero_le 16, h, h⟩

/-- The kick's end at WARN changes the request's kick alone of what the property reads. -/
theorem enterWarn_rumbleKept (hs : RumbleKept s) (hrun : s.supply.monitor = .run) : RumbleKept (enterWarn s) := by
  obtain ⟨hdomain, hcues, hrequests, -, hmotor⟩ := rumbleKept_iff.1 hs
  have hvalid := domain_of_powered hdomain (by rw [hrun]; exact Monitor.noConfusion)
  have hframe := outsideGrant_endKick (beginSpell (setMonitor .warn s))
  have hunheld := endKick_unheld (beginSpell (setMonitor .warn s))
  have hpow : powered (enterWarn s) = powered s := by
    refine (powered_of_unheld hunheld).trans ?_
    simp [powered, beginSpell, setMonitor, changeSupply, hrun]
  have hcrst := congrArg (fun u : Supply => u.crst) hunheld
  have hdomain' : DomainFits (enterWarn s) :=
    domainFits_of_unheld hunheld fun hv => absurd (hvalid.symm.trans hv) nofun
  have hprofile := congrArg (fun u : State => u.profile) hframe
  have hcause := congrArg (fun u : State => u.cause) hframe
  have hsame := congrArg (fun u : State => CuesKept u) hframe
  have hcounts : MotorOk (beginSpell (setMonitor .warn s)).rumble (powered s) := by
    obtain ⟨hheat, hzero, -, hrest⟩ := hmotor
    exact ⟨hheat, hzero, Nat.zero_le 8, hrest⟩
  refine rumbleKept_of_monitor hs hpow hcrst hdomain' (hsame.mpr hcues) hprofile hcause
    (requestsFit_of_outsideGrant hframe hrequests) (fun hnone => ?_)
    (motorOk_of_beside (besideRequests_endKick _) hcounts)
  rw [enterWarn, endKick_of_none (by exact hnone)]
  exact hnone

theorem Move.rumbleKept (h : Move s t) (hs : RumbleKept s) : RumbleKept t := by
  obtain ⟨hdomain, hcues, hrequests, hquiet, hmotor⟩ := rumbleKept_iff.1 hs
  cases h with
  | work h => exact h.rumbleKept hs
  | slot | commands | watch => exact hs
  | softReset hans =>
    exact EndsRow.rumbleKept (s := s) ⟨.initial, { (resetBlocks s).cause with enables := 0, latches := .clear },
      { s.profile with lastReset := .softReset }, loadedMap s.profile.pageCount, rfl, rfl, rfl⟩ hdomain hcues hrequests hmotor
  | resetLine hpow => exact (endsRow_resetLine (lineAsserted s)).rumbleKept hdomain hcues hrequests hmotor
  | assertReset hans => exact rumbleKept_iff.2 ⟨hdomain, hcues, hrequests, fun _ => hquiet (.inr (.inr hans)), hmotor⟩
  | release straps hpow hcrst =>
    have hans : answered s = false := by
      rw [answered, hcrst]
      exact Bool.and_false _
    rw [releaseEffect_eq]
    exact rumbleKept_iff.2 ⟨hdomain, hcues, hrequests, fun _ => hquiet (.inr (.inr hans)), hmotor⟩
  | dropReset hoff =>
    refine rumbleKept_iff.2 ⟨hdomain, hcues, hrequests, fun hno => hquiet ?_, hmotor⟩
    obtain hpow | hcrst := hoff
    · exact .inr (.inr (answered_of_not_powered hpow))
    · rw [answered, hcrst]
      exact hno
  | attach hvalid =>
    exact rumbleKept_of_off hs (powered_of_battery (hdomain hvalid)) rfl (fun _ => rfl) (cuesKept_attached rfl) rfl
  | enterStarting hbattery hvalid =>
    exact rumbleKept_of_off hs (powered_of_battery hbattery) rfl (fun hv => absurd (hvalid.symm.trans hv) nofun) hcues rfl
  | abortStart hstarting =>
    have hpow : powered s = false := by rw [powered, hstarting]; rfl
    exact rumbleKept_of_off hs hpow rfl (fun _ => rfl) hcues rfl
  | powerUp straps hstarting =>
    have hvalid := domain_of_powered hdomain (by rw [hstarting]; exact Monitor.noConfusion)
    rw [powerUp_eq]
    exact rumbleKept_of_idle (fun hv => absurd (hvalid.symm.trans hv) nofun) hcues (initial_patterns _ (some false)) rfl rfl
      (initial_motorOk (iff_of_true rfl rfl))
  | enterWarn hrun => exact enterWarn_rumbleKept hs hrun
  | exitWarn hwarn =>
    have hvalid := domain_of_powered hdomain (by rw [hwarn]; exact Monitor.noConfusion)
    have hpow : powered s = true := by rw [powered, hwarn]; rfl
    exact rumbleKept_of_monitor hs hpow.symm rfl (fun hv => absurd (hvalid.symm.trans hv) nofun) hcues rfl rfl hrequests id
      hmotor
  | fail hwarn =>
    rw [failFromWarn_eq]
    exact rumbleKept_of_idle (fun _ => rfl) hcues (initial_patterns s.rumble.stallInput none) rfl rfl
      (initial_motorOk (iff_of_false nofun nofun))
  | loseDomain hbattery =>
    exact rumbleKept_of_off hs (powered_of_battery hbattery) rfl (fun _ => rfl) (cuesKept_attached rfl) rfl

end

/-- Settles O10: every move keeps the drive, its work operation by operation. -/
theorem rumbleStaysInRange : Obligations.RumbleStaysInRange := fun _ _ hs hstep =>
  step_keeps (P := RumbleKept) (fun _ _ _ h => h) (fun _ _ h hs => h.rumbleKept hs) hs hstep

end Sys2Proof.Proofs
end
